-- ==== Sys2Proof/Word.lean ====
section
/-! DEFINITION. The word types of the AZ9160 model and the sparse table used for indexed objects. -/

namespace Sys2Proof

/-- A 32-bit set-up register (R3). -/
abbrev Word := BitVec 32

/-- One byte of a data buffer or of a frame. -/
abbrev Byte := BitVec 8

/-- A sparse table of numbered objects (legs, channels, rings ...): index and record, indices
strictly rising.  An index that is not listed stands for the object at its reset record, which the
reader of the table supplies. -/
abbrev Tab (α : Type) := List (Nat × α)

end Sys2Proof
end

