-- ==== Sys2Proof/Syntax.lean ====
section
/-! DEFINITION. The commands of the AZ9160: one constructor per row of spec/opcode_table.json.
A host ring command carries its descriptor; every other command carries the device tick at which it
arrives and what the outside world brings with it. -/

namespace Sys2Proof

/-- A command descriptor as HIF has received it (Table 19.3), with its tick (R465) and the data buffer
that HIF has read (R466). -/
structure Desc where
  /-- The command's tick. -/
  t : Nat := 0
  /-- Submission ring 0 to 31. -/
  sq : Nat := 0
  cmdId : Nat := 0
  /-- bit 0 FENCE, bit 1 IRQ. -/
  flags : Nat := 0
  target : Nat := 0
  count : Nat := 0
  /-- Host address of the data buffer. -/
  addr : Nat := 0
  /-- Buffer length in bytes. -/
  len : Nat := 0
  /-- The two reserved words; 0 when both are 0. -/
  rsv : Nat := 0
  /-- Parameter words p0 to p7; words not listed are 0. -/
  p : List Nat := []
  /-- Bytes read from the data buffer. -/
  data : List Nat := []
  /-- The data-buffer read ended in an error. -/
  dataErr : Bool := false
  deriving DecidableEq, Repr

/-- Parameter word i of a descriptor. -/
def Desc.par (d : Desc) (i : Nat) : Nat := d.p.getD i 0

/-- A trip source at the matrix: its number (Table 4.3), and for a voltage comparator the voltage that it senses at its
fixed point, in 0.1 V (R86, Table 4.6). -/
structure TripAt where
  n : Nat
  volt : Nat := 0
  deriving DecidableEq, Repr

/-- What a resolver's excitation measures in one excitation period (Table 6.7): its current in 0.1 mA and its amplitude
in mV rms. -/
structure ExcMeas where
  i : Nat := 0
  v : Nat := 0
  deriving DecidableEq, Repr

/-- What a TRM force has left of a carrier period (R390). -/
structure CutPeriod where
  hi : Nat := 0
  lo : Nat := 0
  dt : Nat := 0
  nHi : Nat := 0
  nLo : Nat := 0
  deriving DecidableEq, Repr

/-- What a leg's carrier period has brought, given with its carrier start: switching times of the
high and low channel for turn-on and turn-off in fine steps, where a transition of at least 100 V
completed before the next edge (R120, R121). -/
structure LegMeas where
  hiOn : Option Nat := none
  hiOff : Option Nat := none
  loOn : Option Nat := none
  loOff : Option Nat := none
  /-- What the observer of a SENSORLESS commutation unit has: speed in 0.25 rpm, angle in 1/65,536 turn and back-EMF
  magnitude in mV (R233, Table 9.2). -/
  rpm : Int := 0
  ang : Nat := 0
  emf : Nat := 0
  /-- The commutation unit's two samples of the period in 0.01 A, as its shunts give them at the two apertures, and the
  highest current that a peak comparator of the unit has seen (R219, R241, R243). -/
  i1 : Int := 0
  i2 : Int := 0
  pk : Nat := 0
  /-- Mean output voltage (0.1 V), mean rail current and mean phase current (0.1 A) of a rail phase
  (R332); iPh is also the current of the leg as its commutation unit uses it (R392). -/
  v : Nat := 0
  iRail : Int := 0
  iPh : Int := 0
  /-- What MOD delivered where a TRM force cut the period short: on-times of the high and low switch,
  dead time, and turn-ons and turn-offs of each, times in fine steps (R390). -/
  cut : Option CutPeriod := none
  deriving DecidableEq, Repr

/-- What a SENSORLESS commutation unit finds at its phase-voltage taps: the frequency of the line-to-line back-EMF in mHz,
negative for the reverse phase sequence, its amplitude in mV and its angle in 1/65,536 turn (R225). -/
structure TapMeas where
  mHz : Int := 0
  mV : Nat := 0
  ang : Nat := 0
  deriving DecidableEq, Repr

/-- What a valve channel's period has brought (R290). -/
structure VlvMeas where
  /-- Mean current over the period in mA (R287). -/
  iMa : Nat := 0
  /-- Current at the end of the on-part in mA (R290). -/
  iEnd : Nat := 0
  deriving DecidableEq, Repr


/-- What PPM and OBC measure at a step besides the fixed AFE inputs (chapter 14). -/
structure PpmMeas where
  /-- Feedback inputs that read closed, as a mask (Table 14.1). -/
  fb : Nat := 0
  /-- Inlet rms voltages L1, L2 and L3 to N, and L1–L2, L2–L3 and L3–L1, in 0.1 V. -/
  l1 : Nat := 0
  l2 : Nat := 0
  l3 : Nat := 0
  l12 : Nat := 0
  l23 : Nat := 0
  l31 : Nat := 0
  /-- Inlet frequency in 0.01 Hz. -/
  freq : Nat := 0
  /-- Link load, and the battery current that i_ac_max allows, in 0.1 A (R355). -/
  iLoad : Int := 0
  iAc : Nat := 65535
  /-- PFC and DAB regulate (Table 14.5). -/
  reg : Bool := false
  /-- Reverse supply: the current limit holds the output voltage down (R362); an inlet voltage differs from the own
  output by more than 20 % (R364). -/
  lim : Bool := false
  alien : Bool := false
  deriving DecidableEq, Repr

/-- What THM reads at an update besides the analogue inputs (R392, R401). -/
structure ThmMeas where
  /-- Die temperatures of VLV and the control die in 0.1 °C. -/
  dieV : Int := 250
  dieC : Int := 250
  deriving DecidableEq, Repr

/-- A CAN frame as a frame record holds it (Table 21.2). -/
structure CanFrame where
  /-- Bit 31 ide, bits 28:0 identifier. -/
  id : Nat := 0
  /-- 0 CLASSIC, 1 FD, 2 FD with bit-rate switch, 3 XL. -/
  fmt : Nat := 0
  flags : Nat := 0
  /-- not_before of a frame to send, start-of-frame tick of a received one. -/
  time : Nat := 0
  af : Nat := 0
  sdt : Nat := 0
  vcid : Nat := 0
  data : List Nat := []
  deriving DecidableEq, Repr

/-- What wakes the module from storage mode (R369): the button, a CAN wake of a controller, or the arrival of
CHG_PX_AC. -/
inductive WakeCause where
  | button
  | can (k : Nat)
  | ac
  deriving DecidableEq, Repr

/-- Wake cause as GAF_CAUSE and EV186 carry it (Table 23.5). -/
def WakeCause.code : WakeCause → Nat
  | .button => 1
  | .can _ => 2
  | .ac => 3

/-- A command of the AZ9160, one constructor per row of the command table. -/
inductive Instr where
  /-- NOP (R463): Host command that does nothing and completes with OK. -/
  | nop (d : Desc)
  /-- RING_CREATE (R479): Creates a submission, completion, event or dailies ring on SQ0. -/
  | ringCreate (d : Desc)
  /-- RING_DELETE (R479): Deletes a ring and discards its unfetched descriptors. -/
  | ringDelete (d : Desc)
  /-- TAKE_START (R480): Allocates a take handle and starts a take after checking its preconditions. -/
  | takeStart (d : Desc)
  /-- TAKE_SUSPEND (R483): Asks a running take to suspend at its next suspend point. -/
  | takeSuspend (d : Desc)
  /-- TAKE_RESUME (R483): Resumes a suspended take. -/
  | takeResume (d : Desc)
  /-- TAKE_CANCEL (R483): Cancels a take before its commit point and applies its cancel result. -/
  | takeCancel (d : Desc)
  /-- GRP_ENABLE (R92): Checks a trip group and moves it from DISABLED to STARTUP or LATCHED. -/
  | grpEnable (d : Desc)
  /-- GRP_DISABLE (R104): Disables a trip group in any state, ending a take's use of it. -/
  | grpDisable (d : Desc)
  /-- GRP_RUN (R104): Moves a group from STARTUP to RUN when no source is asserted. -/
  | grpRun (d : Desc)
  /-- TRIP_CLEAR (R99): Removes a group's latch and starts RECOVERY, or returns TRIP_PERSISTS. -/
  | tripClear (d : Desc)
  /-- LEG_ENABLE (R598): Enables a leg after the checks of R72. -/
  | legEnable (d : Desc)
  /-- LEG_DISABLE (R598): Disables a leg, which then holds its disable levels. -/
  | legDisable (d : Desc)
  /-- LEG_SET_CMP (R45): Host writes the compare value of a BK leg that LPE does not own. -/
  | legSetCmp (d : Desc)
  /-- VALVE_ENABLE (R598): Enables a valve channel after checking its fields. -/
  | valveEnable (d : Desc)
  /-- VALVE_DISABLE (R598): Disables a valve channel. -/
  | valveDisable (d : Desc)
  /-- VALVE_SET (R76): Host sets a valve channel's duty and gate. -/
  | valveSet (d : Desc)
  /-- VALVE_PERIOD (R79): Changes a valve channel's period and restarts its carrier from a new origin. -/
  | valvePeriod (d : Desc)
  /-- FB_ENABLE (R151): Starts a feedback channel or enables a compare output after lock. -/
  | fbEnable (d : Desc)
  /-- FB_DISABLE (R151): Stops a feedback channel or disables a compare output. -/
  | fbDisable (d : Desc)
  /-- CMP_SET (R155): Host writes and arms a compare output value after lock. -/
  | cmpSet (d : Desc)
  /-- CTX_START (R163): Checks and starts a loop context at its next boundary. -/
  | ctxStart (d : Desc)
  /-- CTX_STOP (R182): Stops a loop context at its next boundary and applies stop actions. -/
  | ctxStop (d : Desc)
  /-- SET_TARGET (R184): Writes a HOST set-point slot or a PGN target. -/
  | setTarget (d : Desc)
  /-- PGN_LIMITS (R188): Sets the velocity, acceleration and jerk limits of a profile generator. -/
  | pgnLimits (d : Desc)
  /-- CMU_START (R224): Starts a commutation unit into LISTEN or ARMED. -/
  | cmuStart (d : Desc)
  /-- CMU_STOP (R224): Stops a commutation unit to OFF. -/
  | cmuStop (d : Desc)
  /-- CMU_SET (R234): Host writes a commutation unit's command. -/
  | cmuSet (d : Desc)
  /-- GEAR_REF (R249): Establishes the gearbox reference from the stored gear, park and PTO state. -/
  | gearRef (d : Desc)
  /-- GEAR_SHIFT (R253): Starts a shift sequence to a target gear. -/
  | gearShift (d : Desc)
  /-- GEAR_STOP (R253): Stops a running shift sequence. -/
  | gearStop (d : Desc)
  /-- PARK_SET (R255): Engages or releases the park lock. -/
  | parkSet (d : Desc)
  /-- PTO_SET (R256): Closes or opens the PTO clutch. -/
  | ptoSet (d : Desc)
  /-- SEC_BASE (R279): Sets the base value of a range of sections at the next boundary. -/
  | secBase (d : Desc)
  /-- SEC_GATE (R279): Opens or closes the gates of a range of sections at the next boundary. -/
  | secGate (d : Desc)
  /-- CUE_APPEND (R298): Appends cue entries to a section's cue sheet. -/
  | cueAppend (d : Desc)
  /-- CUE_FLUSH (R306): Removes every pending cue of a range of sections, optionally closing gates. -/
  | cueFlush (d : Desc)
  /-- VLV_SET (R292): Sets the target current of an unmapped PROP valve channel. -/
  | vlvSet (d : Desc)
  /-- RAIL_START (R317): Moves a rail from OFF or LATCHED to READY. -/
  | railStart (d : Desc)
  /-- RAIL_STOP (R317): Stops a rail to OFF. -/
  | railStop (d : Desc)
  /-- RAIL_SET (R320): Host ON or OFF command with voltage target for a host-commanded rail. -/
  | railSet (d : Desc)
  /-- RAIL_RETIRE (R328): Retires a named active rail phase at the host's request. -/
  | railRetire (d : Desc)
  /-- PATH_SET (R345): Requests a power-path change or implement disconnect action. -/
  | pathSet (d : Desc)
  /-- CHG_START (R354): Starts a charge session. -/
  | chgStart (d : Desc)
  /-- CHG_STOP (R354): Ends the active charge session with cause STOP. -/
  | chgStop (d : Desc)
  /-- RSUP_START (R361): Starts a reverse AC or DC supply session. -/
  | rsupStart (d : Desc)
  /-- RSUP_STOP (R364): Ends the active reverse supply session. -/
  | rsupStop (d : Desc)
  /-- DCL_LIMIT (R377): Sets the battery regeneration acceptance limits. -/
  | dclLimit (d : Desc)
  /-- DCL_CLEAR (R376): Clears the chopper fault flag. -/
  | dclClear (d : Desc)
  /-- SAFE_CFG_LOAD (R428): Writes a safety configuration to the inactive bank. -/
  | safeCfgLoad (d : Desc)
  /-- SAFE_CFG_CONFIRM (R428): Confirms the active safety configuration by its digest. -/
  | safeCfgConfirm (d : Desc)
  /-- MBX_POST (R495): Host posts a message on a mailbox channel. -/
  | mbxPost (d : Desc)
  /-- MBX_ACK (R497): Host acknowledges a message for which it is the receiver. -/
  | mbxAck (d : Desc)
  /-- CAN_TX_ARM (R514): Arms a host CAN send object with a frame record. -/
  | canTxArm (d : Desc)
  /-- CAN_TX_ABORT (R516): Aborts an armed host CAN send object. -/
  | canTxAbort (d : Desc)
  /-- CAN_RX_RELEASE (R520): Returns software-owned receive queue entries to hardware. -/
  | canRxRelease (d : Desc)
  /-- CAN_REINIT (R526): Re-initialises one CAN controller while the others stay in service. -/
  | canReinit (d : Desc)
  /-- LIFECYCLE_SET (R547): Changes the lifecycle state with a signed authorisation. -/
  | lifecycleSet (d : Desc)
  /-- DOMAIN_RESET (R562): Resets one power domain as its target allows. -/
  | domainReset (d : Desc)
  /-- CORE_MODE (R566): Starts a change of core mode. -/
  | coreMode (d : Desc)
  /-- CORE_MODE_CHANGE_DONE (R566): A core-mode change completes and its completion is written. -/
  | coreModeChangeDone (t : Nat)
  /-- REGISTER_WRITE (R574): A BAR0 write to a register that has no row of its own. -/
  | registerWrite (t off val be : Nat)
  /-- READ_AND_CLEAR (R574): A read of an RC field returns and clears its value. -/
  | readAndClear (t off : Nat)
  /-- TIME_LO_READ (R26): Reading TBU_TIME_LO captures device time bits 63:32 into TBU_TIME_HI. -/
  | timeLoRead (t : Nat)
  /-- TRIP_TS_LO_READ (R105): Reading TRM_GRPg_TS_LO captures TS_HI. -/
  | tripTsLoRead (t g : Nat)
  /-- EDGE_LO_READ (R139): Reading PFIi_EDGE_LO captures EDGE_HI. -/
  | edgeLoRead (t i : Nat)
  /-- CAP_POS_READ (R146): Reading PFIi_CAP_POS clears cap_new. -/
  | capPosRead (t i : Nat)
  /-- ODO_DIST_READ (R260): Reading ODO0_DIST captures distance, fraction and speed of all four odometers. -/
  | odoDistRead (t : Nat)
  /-- CAUSE_TS_LO_READ (R561): Reading GAF_CAUSE_TS_LO captures GAF_CAUSE_TS_HI. -/
  | causeTsLoRead (t : Nat)
  /-- LOCK_TS_LO_READ (R578): Reading GLB_LOCK_TS_LO captures GLB_LOCK_TS_HI. -/
  | lockTsLoRead (t : Nat)
  /-- OBJ_TS_LO_READ (R527): Reading CAN_OBJ_TS_LO captures CAN_OBJ_TS_HI. -/
  | objTsLoRead (t : Nat)
  /-- CMP_VAL_WRITE (R155): A write of CMPj_VAL before lock arms the compare output. -/
  | cmpValWrite (t j val be : Nat)
  /-- CLAPPER_START (R28): A write of clap_en = 1 checks the clapper fields and starts the clapper. -/
  | clapperStart (t val be : Nat)
  /-- IMAGE_LOAD_START (R212): A write of go to LPE_IMG_CTL starts a BOOT loop image load. -/
  | imageLoadStart (t : Nat)
  /-- IMAGE_LOAD_DONE (R210): A loop image load ends, applying the image whole or failing with a result. -/
  | imageLoadDone (t : Nat) (bytes : List Nat) (dmaErr : Bool)
  /-- OWNER_KEY_PROGRAM (R549): A write of prog = 1 starts programming an owner key digest slot. -/
  | ownerKeyProgram (t : Nat)
  /-- OWNER_KEY_PROGRAM_DONE (R549): Owner key programming ends with OK, USED or STATE. -/
  | ownerKeyProgramDone (t : Nat)
  /-- ADMIN_PAIR_ENABLE (R457): Writing en = 1 to HIF_ADM_CTL checks and sets up the admin ring pair. -/
  | adminPairEnable (t val be : Nat)
  /-- ADMIN_PAIR_DISABLE (R457): Writing en = 0 to HIF_ADM_CTL deletes every ring. -/
  | adminPairDisable (t val be : Nat)
  /-- SQ_TAIL_DOORBELL (R462): Host writes a submission ring's new tail. -/
  | sqTailDoorbell (t j val : Nat)
  /-- CQ_HEAD_DOORBELL (R462): Host writes a completion ring's new head. -/
  | cqHeadDoorbell (t j val : Nat)
  /-- EVQ_HEAD_DOORBELL (R462): Host writes the event ring's new head. -/
  | evqHeadDoorbell (t val : Nat)
  /-- DLY_HEAD_DOORBELL (R462): Host writes the dailies ring's new head. -/
  | dlyHeadDoorbell (t val : Nat)
  /-- CONFIG_LOCK (R578): A write of GLB_LOCK with the key freezes the configuration and starts the lock sequence. -/
  | configLock (t val be : Nat)
  /-- LOCK_COMPLETE (R579): The lock sequence ends its checks, powers down domains, starts the clapper and raises EV252. -/
  | lockComplete (t : Nat)
  /-- CLAPPER_BOUNDARY (R27): The TBU marks a clapper boundary and every boundary-aligned activity takes place. -/
  | clapperBoundary (t : Nat)
  /-- CLAP_IN_EDGE (R35): A rising edge on CLAP_IN is timestamped and moves the slaving state. -/
  | clapInEdge (t fine : Nat)
  /-- CLAP_IN_MISSED (R35): No CLAP_IN edge falls in the capture window. -/
  | clapInMissed (t : Nat)
  /-- CLAP_HOLDOVER_EXPIRED (R35): The holdover limit passes and the TBU goes to FREE. -/
  | clapHoldoverExpired (t : Nat)
  /-- LEG_CARRIER_START (R57): A leg's carrier starts and its shadow set moves to the active set. -/
  | legCarrierStart (t n : Nat) (m : LegMeas)
  /-- LEG_CARRIER_CENTRE (R60): A CENTRE leg with upd_mid reaches its carrier centre update instant. -/
  | legCarrierCentre (t n : Nat)
  /-- ADC_TRIGGER (R67): A leg pulses its trigger line at its trigger instant. -/
  | adcTrigger (t n k fine : Nat)
  /-- AFE_CONVERSION_DONE (R168): An AFE conversion result becomes ready. -/
  | afeConversionDone (t i : Nat) (code : Int)
  /-- AFE_SCAN_CONVERSION (R587): An unbound converter converts its next input continuously. -/
  | afeScanConversion (t conv : Nat) (code : Int)
  /-- PEAK_COMPARATOR_TRIP (R62): A peak-current comparator ends a leg's high command. -/
  | peakComparatorTrip (t n ofs : Nat)
  /-- VALVE_CARRIER_START (R76): A valve channel's carrier starts and its shadow duty transfers. -/
  | valveCarrierStart (t m : Nat) (i : VlvMeas)
  /-- TRIP_SOURCE_ASSERT (R88): A trip source asserts at the matrix and forces the affected groups. -/
  | tripSourceAssert (t fine : Nat) (src : TripAt)
  /-- TRIP_SOURCE_RELEASE (R101): A trip source releases and a force may end. -/
  | tripSourceRelease (t : Nat) (src : TripAt)
  /-- CBC_WINDOW_EXPIRED (R97): A cycle-by-cycle window reaches its deadline and the count returns to 0. -/
  | cbcWindowExpired (t g : Nat)
  /-- RECOVERY_DEADLINE (R100): A group's recovery time passes without a trip and it enters RUN. -/
  | recoveryDeadline (t g : Nat)
  /-- GATE_ON_COMMAND (R116): MOD delivers an on command to a gate channel, judged by the interlock. -/
  | gateOnCommand (t c : Nat) (otherLow : Option Nat) (both : Bool)
  /-- GATE_ARMED (R112): A gate channel arms when its supply monitor first reports every rail valid. -/
  | gateArmed (t c : Nat)
  /-- DESAT_DETECT (R126): A drain-sense voltage above threshold persists for 60 ns and is reported to TRM. -/
  | desatDetect (t c : Nat)
  /-- DESAT_RELEASE (R127): A DESAT report releases 5 µs after the gate voltage falls below 2.0 V. -/
  | desatRelease (t c low : Nat)
  /-- UVLO_DETECT (R128): A gate rail stays beyond its level for uv_filt and is reported to TRM. -/
  | uvloDetect (t c rail : Nat)
  /-- UVLO_RELEASE (R128): An under-voltage monitor releases 0.5 V inside its level. -/
  | uvloRelease (t c rail : Nat)
  /-- DIAG_SETTLE_EXPIRED (R133): An off-state diagnostic step's settle time passes and the phases are sampled. -/
  | diagSettleExpired (t : Nat) (vb : Unit) (v : List Nat)
  /-- PFI_INPUT_EDGE (R137): A PFI input edge is accepted by the filter and counted. -/
  | pfiInputEdge (t fine i : Nat) (a b z : Bool)
  /-- CMP_PULSE_END (R156): A PULSE compare output ends after its width. -/
  | cmpPulseEnd (t j : Nat)
  /-- HALL_INVALID (R142): An invalid hall state persists for hall_inv and sets fault. -/
  | hallInvalid (t i : Nat)
  /-- SERIAL_FRAME_DONE (R143): An SSI or BiSS frame completes and is decoded or judged bad. -/
  | serialFrameDone (t i w crc fail : Nat)
  /-- RESOLVER_CHECK (R153): A resolver channel is checked once per excitation period. -/
  | resolverCheck (t r amp err : Nat) (exc : ExcMeas)
  /-- RESOLVER_TRACK_UPDATE (R156): A tracking-loop update compares the resolver position with armed compare outputs. -/
  | resolverTrackUpdate (t r raw : Nat) (speed : Int)
  /-- CTX_RUN_RELEASE (R173): A context's run is released at boundary plus t_in. -/
  | ctxRunRelease (t c : Nat)
  /-- CTX_RUN_COMPLETE (R174): A context run executes END before its deadline. -/
  | ctxRunComplete (t c busy : Nat)
  /-- CTX_OVERRUN (R180): A run reaches its deadline incomplete and is abandoned. -/
  | ctxOverrun (t c : Nat)
  /-- CMU_LISTEN_END (R226): A unit's listen time passes and it proceeds by the measured speed. -/
  | cmuListenEnd (t u : Nat) (w : TapMeas)
  /-- CMU_BRAKE_END (R228): A unit's short-brake time passes. -/
  | cmuBrakeEnd (t u : Nat)
  /-- CMU_PRECHARGE_END (R230): A unit's precharge time passes. -/
  | cmuPrechargeEnd (t u : Nat)
  /-- CMU_ALIGN_END (R231): A sensorless unit's align time passes and RAMP begins. -/
  | cmuAlignEnd (t u : Nat)
  /-- CMU_HAND_OVER (R231): The observer agrees with the ramp speed and the unit enters RUN. -/
  | cmuHandOver (t u : Nat) (w : Int)
  /-- CMU_NO_SYNC (R231): The observer does not agree within 200 ms of reaching hand_rpm. -/
  | cmuNoSync (t u : Nat)
  /-- CMU_STALL (R233): A running unit stalls and goes to WAIT_RETRY or FAULT. -/
  | cmuStall (t u : Nat)
  /-- CMU_RETRY_END (R229): A unit's retry time passes and it listens again. -/
  | cmuRetryEnd (t u : Nat)
  /-- CMU_STOPPING_DONE (R224): A stopping unit's speed falls below stand_rpm. -/
  | cmuStoppingDone (t u : Nat)
  /-- GBX_STEP (R250): The gearbox sequencer acts at its millisecond step. -/
  | gbxStep (t : Nat)
  /-- GBX_DETENT_REACHED (R248): An actuator stays within tolerance of its detent for settle_ms. -/
  | gbxDetentReached (t k : Nat)
  /-- GBX_RAMP_END (R253): The UNLOAD or RELOAD factor ramp ends. -/
  | gbxRampEnd (t : Nat)
  /-- GBX_STAGE_TIMEOUT (R253): A DISENGAGE, SYNC or ENGAGE stage times out. -/
  | gbxStageTimeout (t : Nat)
  /-- SXE_OVERRUN (R275): A section engine update is not complete before the next boundary. -/
  | sxeOverrun (t : Nat)
  /-- RN_REFRESH (R280): A remote node with no recent action frame is sent a refresh frame. -/
  | rnRefresh (t j : Nat)
  /-- SXE_SYNC_FRAME (R285): A sync frame is queued on each controller serving a node. -/
  | sxeSyncFrame (t : Nat)
  /-- VLV_SHORT (R288): A valve channel's current stays above i_short for 5 µs and the switch turns off. -/
  | vlvShort (t m : Nat)
  /-- VLV_RETRY_END (R288): A shorted valve channel's retry time passes. -/
  | vlvRetryEnd (t m : Nat)
  /-- VLV_TOTAL_OVER (R291): The sum of valve currents exceeds 40 A over 10 ms. -/
  | vlvTotalOver (t sum : Nat)
  /-- RAIL_SOFTSTART_END (R321): A rail's soft-start ramp ends and it enters RUN or detects a short. -/
  | railSoftstartEnd (t r : Nat)
  /-- RAIL_SHORT_DETECT (R322): A rail counts lim_cyc limit cycles and enters HICCUP or LATCHED. -/
  | railShortDetect (t r : Nat)
  /-- RAIL_HICCUP_END (R317): A rail's hiccup wait passes and soft start begins again. -/
  | railHiccupEnd (t r : Nat)
  /-- RAIL_HICCUP_RESET (R323): After 1 s in RUN or BURST without a short, hic_cnt returns to 0. -/
  | railHiccupReset (t r : Nat)
  /-- RAIL_BURST_ENTER (R324): A rail with low reference for b_cyc periods enters BURST. -/
  | railBurstEnter (t r : Nat)
  /-- RAIL_BURST_PACKET_TIMEOUT (R324): A burst packet outlasts b_max and the rail returns to RUN. -/
  | railBurstPacketTimeout (t r : Nat)
  /-- PHASE_RETIRED (R327): A phase whose fault count reaches ret_cyc is retired. -/
  | phaseRetired (t r p : Nat)
  /-- RAIL_OUT_OF_BAND (R329): A rail's voltage stays outside its band for settle_ms. -/
  | railOutOfBand (t r : Nat)
  /-- RAIL_TRANSITION_DONE (R337): A rail transition closes IN_BAND after settle_ms. -/
  | railTransitionDone (t r : Nat)
  /-- RAIL_TRANSITION_TIMEOUT (R337): A rail transition reaches tr_ms and closes with TIMEOUT. -/
  | railTransitionTimeout (t r : Nat)
  /-- VCL_CMD_FRAME (R335): A VCL command frame is received and judged. -/
  | vclCmdFrame (t r : Nat) (bytes : List Nat) (framing : Bool)
  /-- VCL_STATUS_SEND (R336): A VCL STATUS frame is sent at each stat_us interval. -/
  | vclStatusSend (t r : Nat)
  /-- VCL_LINK_LOST (R338): The VCL watchdog deadline passes and the link enters HOLD. -/
  | vclLinkLost (t r : Nat)
  /-- VCL_HOLD_EXPIRED (R338): The VCL hold ends, the link goes DOWN and hold_act applies. -/
  | vclHoldExpired (t r : Nat)
  /-- PPM_STEP (R344): The power-path manager acts at its millisecond step. -/
  | ppmStep (t : Nat) (m : PpmMeas)
  /-- CONTACTOR_CHECK (R344): A contactor's close or open check time passes and its feedback is judged. -/
  | contactorCheck (t k : Nat) (closed : Bool)
  /-- PRECHARGE_FAIL (R346): Precharge does not equalise by its deadline and the path opens. -/
  | prechargeFail (t : Nat)
  /-- HANDOVER_SHED (R352): Hand-over equalise fails by pc_ms and link load is shed. -/
  | handoverShed (t : Nat)
  /-- DC_CHARGE_OPEN (R348): The DC-charge current falls below 2 A or 5 s pass and the DC contactors open. -/
  | dcChargeOpen (t : Nat)
  /-- PLUG_STATE (R365): CHG_PX_AC, CHG_PX_DC or CHG_LATCH changes. -/
  | plugState (t : Nat) (ac dc latch : Bool)
  /-- SOURCE_QUALIFIED (R353): The AC source has held its limits for 3 s. -/
  | sourceQualified (t kind : Nat) (f60 : Bool)
  /-- SOURCE_LOST (R353): A source limit stays broken for 20 ms. -/
  | sourceLost (t cause : Nat)
  /-- CHG_START_TIMEOUT (R354): A charge session stays in START for 2 s and ends with FAULT. -/
  | chgStartTimeout (t : Nat)
  /-- CHG_PAUSE_EXPIRED (R354): A paused session exceeds resume_s and ends with SOURCE_LOST. -/
  | chgPauseExpired (t : Nat)
  /-- CHG_EOC_DWELL (R356): The end-of-charge dwell reaches eoc_s and the session ends with EOC. -/
  | chgEocDwell (t : Nat)
  /-- CHG_SAFETY_TIMER (R357): The charge safety timer expires and the session ends with a timeout cause. -/
  | chgSafetyTimer (t : Nat)
  /-- CHG_PLUG_ABSENT (R358): CHG_PX_AC stays absent for 1 s, ending a session and clearing blocked. -/
  | chgPlugAbsent (t : Nat)
  /-- CHG_ENDING_DONE (R354): The ENDING ramp completes and the session goes IDLE. -/
  | chgEndingDone (t : Nat)
  /-- RSUP_OVERLOAD (R362): The reverse supply output stays below 85 % for ovl_ms. -/
  | rsupOverload (t i : Nat)
  /-- RSUP_LIVE_INLET (R364): An inlet voltage differs from the own output by 20 % for 20 ms. -/
  | rsupLiveInlet (t : Nat)
  /-- SVC_PRESS_START (R366): SVC_BTN has been asserted for 20 ms and a press begins. -/
  | svcPressStart (t start : Nat)
  /-- SVC_LONG_PRESS (R367): The button is still pressed 8 s after the press start. -/
  | svcLongPress (t : Nat)
  /-- SVC_RELEASE (R368): The button is released, giving an ignored or medium press. -/
  | svcRelease (t : Nat)
  /-- SVC_FULL_RESET (R367): 2 s after a long press the full system reset occurs. -/
  | svcFullReset (t : Nat) (bad : List (Nat × Nat))
  /-- STORAGE_ENTER (R368): 1 s after storage entry the gaffer removes every domain but PD_AON. -/
  | storageEnter (t : Nat)
  /-- STORAGE_WAKE (R369): A button press, CAN wake or CHG_PX_AC wakes the module from storage. -/
  | storageWake (t : Nat) (cause : WakeCause) (bad : List (Nat × Nat))
  /-- CHOPPER_FAULT (R376): The always-on chopper carries too little current for chk_ms. -/
  | chopperFault (t : Nat)
  /-- THM_UPDATE (R394): A thermal estimate updates its network and compares with its limits. -/
  | thmUpdate (t e : Nat) (m : ThmMeas)
  /-- THM_SENSOR_FAULT (R395): A temperature sensor reads out of range 10 times in a row. -/
  | thmSensorFault (t k : Nat)
  /-- THM_SENSOR_RECOVER (R395): A faulted sensor reads within range for 100 ms. -/
  | thmSensorRecover (t k : Nat)
  /-- SAFE_INPUT_LINE_CHANGE (R410): A safe input line changes state after its filter. -/
  | safeInputLineChange (t ch i : Nat) (lineB level : Bool)
  /-- SAFE_INPUT_DISCREPANCY (R411): Two lines of a safe input disagree for disc and the input faults. -/
  | safeInputDiscrepancy (t ch i : Nat)
  /-- TEST_PULSE (R412): A test-pulse output drops for tp_w and the tested lines are checked. -/
  | testPulse (t k : Nat) (shlLow sfpLow : List Nat)
  /-- STO_REQ_CHANGE (R414): An STO_REQ pin changes after its 1.0 ms filter. -/
  | stoReqChange (t pin : Nat) (low : Bool)
  /-- STO_REQ_DISC (R414): One STO_REQ pin stays low while the other is high for 1,000 ms. -/
  | stoReqDisc (t pin : Nat)
  /-- SHL_SUPPLY_OPEN (R406): 3 µs after an SHL demand the high-side supply-enable lines open. -/
  | shlSupplyOpen (t k : Nat)
  /-- SUPPLY_READBACK (R422): 305 µs after opening, SHL reads back each high-side rail. -/
  | supplyReadback (t k : Nat) (ok : Bool)
  /-- SFP_CYCLE (R421): The safety processor runs one cycle with BSL frames and the continuity check. -/
  | sfpCycle (t diag : Nat)
  /-- CONTINUITY_TIMEOUT (R421): No state word arrives within 2 × t_cyc and the channel enters SAFE_FAULT. -/
  | continuityTimeout (t ch : Nat)
  /-- SHL_SS1_WINDOW (R419): An SHL tap window closes and is judged against the SS1 limit line. -/
  | shlSs1Window (t g : Nat)
  /-- SS1_DEADLINE (R419): An SS1 reaches t_max and STO is demanded. -/
  | ss1Deadline (t ch g : Nat)
  /-- SHL_SELF_TEST_DONE (R430): The SHL logic self-test completes at start-up. -/
  | shlSelfTestDone (t : Nat) (ok : Bool)
  /-- BSL_WATCHDOG (R445): A connection's watchdog deadline passes and it enters FAULT. -/
  | bslWatchdog (t c : Nat)
  /-- BSL_DATA_SEND (R449): An OUT connection queues a DATA frame at each t_prod. -/
  | bslDataSend (t c : Nat)
  /-- DESCRIPTOR_FETCH (R463): HIF fetches a descriptor, judges it and passes it to its owner. -/
  | descriptorFetch (t sq op : Nat) (d : Desc) (readErr : Bool)
  /-- COMPLETION_WRITE (R471): A decided completion is written to its CQ in order. -/
  | completionWrite (t sq : Nat)
  /-- IRQ_COALESCE_TIMEOUT (R473): agg_us passes for an unsignalled entry and the MSI-X message is sent. -/
  | irqCoalesceTimeout (t r : Nat)
  /-- DAILIES_RECORD (R476): A dailies record is captured and written at each interval. -/
  | dailiesRecord (t : Nat)
  /-- TAKE_SUSPEND_POINT (R483): A suspending take reaches a suspend point and becomes SUSPENDED. -/
  | takeSuspendPoint (t h : Nat)
  /-- TAKE_STEP_DONE (R483): A step of a take completes and the take proceeds. -/
  | takeStepDone (t h : Nat) (bytes : List Nat) (ok : Bool)
  /-- TAKE_END (R483): A take ends and writes its result header and data. -/
  | takeEnd (t h : Nat)
  /-- TAKE_TIMEOUT (R482): A take reaches its deadline and ends with TIMED_OUT. -/
  | takeTimeout (t h : Nat)
  /-- FUNCTION_LEVEL_RESET (R456): A PCIe FLR resets PD_HOST. -/
  | functionLevelReset (t : Nat)
  /-- LINK_DOWN (R456): The PCIe link is lost or held by PERST_N, resetting PD_HOST. -/
  | linkDown (t : Nat)
  /-- LINK_UP (R564): The PCIe link comes up and EV237 is raised. -/
  | linkUp (t width rate : Nat)
  /-- MBX_DEADLINE (R500): A pending message's deadline passes and TIMED_OUT becomes final. -/
  | mbxDeadline (t c : Nat)
  /-- MBX_RECEIVER_ACK (R500): An internal receiver acknowledges a message. -/
  | mbxReceiverAck (t c : Nat)
  /-- MBX_INTERNAL_POST (R494): An internal master posts a message on a channel. -/
  | mbxInternalPost (t c ptr tag : Nat)
  /-- CAN_FRAME_RECEIVED (R518): A received CAN frame is offered to reserved objects and queues. -/
  | canFrameReceived (t k : Nat) (f : CanFrame)
  /-- CAN_FRAME_SENT (R515): A send object's frame is transmitted successfully. -/
  | canFrameSent (t k obj sof : Nat)
  /-- CAN_TX_FAILED (R512): A transmission attempt fails and the error counters move. -/
  | canTxFailed (t k obj : Nat) (ackErr dom : Bool)
  /-- CAN_TX_ELIGIBLE (R515): An armed object's not_before time is reached. -/
  | canTxEligible (t k obj : Nat)
  /-- CAN_BUS_OFF_RECOVERY (R509): After 128 sequences of 11 recessive bits the controller leaves BUS_OFF. -/
  | canBusOffRecovery (t k : Nat)
  /-- CAN_INTEGRATED (R508): A starting controller integrates to the bus. -/
  | canIntegrated (t k : Nat)
  /-- CAN_SELF_CHECK_DONE (R525): A controller's loopback self-check completes, passing or entering FAILED. -/
  | canSelfCheckDone (t k : Nat) (ok : Bool)
  /-- RPL_STATUS_FRAME (R552): The REPLACE_ADVISED status frame is sent once per second. -/
  | rplStatusFrame (t : Nat)
  /-- MEM_SCRUB (R533): The ECC engine scrubs a codeword. -/
  | memScrub (t m cw syms obj : Nat)
  /-- MEM_RETIRED (R536): A region's copy to a spare completes and it is remapped. -/
  | memRetired (t m region : Nat)
  /-- DEBUG_ACCESS (R550): An authorisation at the debug port opens debug access. -/
  | debugAccess (t : Nat) (auth : List Nat)
  /-- LIFECYCLE_COMMIT (R547): The new lifecycle state is written and a full system reset follows. -/
  | lifecycleCommit (t : Nat) (bad : List (Nat × Nat))
  /-- POWER_ON (R564): The auxiliary supply rises through 9.0 V and start-up begins. -/
  | powerOn (t : Nat) (bad : List (Nat × Nat))
  /-- BOOT_DONE (R564): Start-up completes and boot_done is set. -/
  | bootDone (t : Nat)
  /-- SUPPLY_LOW (R560): The auxiliary supply stays below 10.0 V for 1 ms. -/
  | supplyLow (t v : Nat)
  /-- SUPPLY_BELOW_9V (R560): The auxiliary supply falls below 9.0 V and the contactors open. -/
  | supplyBelow9v (t : Nat)
  /-- APP_WATCHDOG (R559): An application core misses its watchdog interval and PD_APP is reset. -/
  | appWatchdog (t core : Nat)
  /-- APP_WATCHDOG_KICK (R559): An application core signals the gaffer's watchdog. -/
  | appWatchdogKick (t core : Nat)
  /-- DOMAIN_RUNNING (R557): A domain becomes running after power, reset release, wipe and initialisation. -/
  | domainRunning (t d : Nat)
  /-- PARTITION_START (R557): The runtime starts a partition after PD_APP is running. -/
  | partitionStart (t p : Nat)
  /-- SHL_TAP_EDGE (R158): SHL counts a rising edge of line A of the tap channel through its own filter in PD_SHL. -/
  | shlTapEdge (t i : Nat)
  /-- MSIX_VECTOR_UNMASK (R473): The host unmasks an MSI-X vector whose pending bit is set, and the held message is sent. -/
  | msixVectorUnmask (t v : Nat)
  /-- CAN_RX_ERROR (R508): A controller detects a bus error while receiving, raises REC and may change its error state. -/
  | canRxError (t k inc : Nat)
  /-- VIO_BANK_HELD (R589): VIOx falls below 1.7 V and the bank's outputs go high-impedance and its inputs read low. -/
  | vioBankHeld (t x : Nat)
  /-- VIO_BANK_RELEASED (R589): VIOx has stayed at 1.7 V or above for 1 ms and the bank is released. -/
  | vioBankReleased (t x : Nat)
  /-- SUPPLY_RECOVERED (R560): The auxiliary supply has been at 10.5 V or above for 1 s and EV254 is armed again. -/
  | supplyRecovered (t : Nat)
  deriving DecidableEq, Repr

end Sys2Proof
end

