-- ==== Sys2Proof/Decode.lean ====
section
/-! DEFINITION. The command a table word spells.  No row of spec/opcode_table.json gives bits: the
commands reach the block as accesses, events and descriptors, not as words. -/

namespace Sys2Proof

/-- No row gives bits, so no word spells a command. -/
def decodeTableWord (_nbits _w : Nat) : Option Instr := none

end Sys2Proof
end

