-- ==== Sys2Proof/Config.lean ====
section
/-! DEFINITION. What an implementation fixes and what the spec leaves open: opaque constants that no
proof can look into, so that a statement holds whatever they are. -/

namespace Sys2Proof.Config

/-- A value the spec leaves open, fresh for each use: applied to the state's counter of free values
(notes/assumptions/2.md). -/
opaque freeNat : Nat → Nat

/-- A signed value the spec leaves open, fresh for each use (notes/assumptions/2.md). -/
opaque freeInt : Nat → Int

/-- A loop context's input slot that reads an output not yet in force: the counter of free values and the
slot (notes/assumptions/18.md). -/
opaque freeSlot : Nat → Nat → Int

/-- SHAKE256 of a byte string, as the bytes of the given length (chapter 22, notes/assumptions/3.md). -/
opaque shake256 : Nat → List Nat → List Nat

/-- Verification of a Falcon signature: key digest, message, signature (chapter 22,
notes/assumptions/3.md). -/
opaque falconVerify : List Nat → List Nat → List Nat → Bool

/-- Current in 0.1 A that a code of a current input stands for, where the scaling is the sensor's own:
26 the chopper, 39 the battery shunt, 40 the DC-port shunt (Table 26.8, notes/assumptions/30.md). -/
opaque amps : Nat → Int → Int

/-- The electrical angle, in 1/65,536 turn, at which the sector of a hall state begins: the spec does not place the
sectors (notes/assumptions/21.md). -/
opaque hallAngle : Nat → Nat

/-- Whether a quotient a / b that is no whole number of its field's units goes up to the next unit, where
the spec states no rounding (notes/assumptions/5.md). -/
opaque roundsUp : Int → Nat → Bool

/-- GLB_REV.hw_rev: the module hardware revision of the label, 1 to 255 (Table 0.2,
notes/assumptions/31.md). -/
opaque hwRev : Nat

end Sys2Proof.Config
end

