-- ==== Sys2Proof/Machine/Bits.lean ====
section
/-! DEFINITION. Bit fields, signed and saturating arithmetic, and the sparse tables' read and write. -/

namespace Sys2Proof.Machine

/-- Bits hi down to lo of w. -/
def bits (w hi lo : Nat) : Nat := (w >>> lo) % 2 ^ (hi + 1 - lo)

/-- Bit i of w. -/
def bitAt (w i : Nat) : Bool := (w >>> i) % 2 == 1

/-- The two's complement value of the low n bits of w. -/
def sx (n w : Nat) : Int :=
  if w % 2 ^ n < 2 ^ (n - 1) then ((w % 2 ^ n : Nat) : Int) else ((w % 2 ^ n : Nat) : Int) - (2 ^ n : Nat)

/-- An integer as n two's complement bits. -/
def toBits (n : Nat) (i : Int) : Nat := (i % ((2 ^ n : Nat) : Int)).toNat

/-- i held within lo and hi. -/
def clampI (lo hi i : Int) : Int := if i < lo then lo else if hi < i then hi else i

/-- n held within lo and hi. -/
def clampN (lo hi n : Nat) : Nat := if n < lo then lo else if hi < n then hi else n

/-- A counter that stops at top. -/
def satInc (top n : Nat) : Nat := if n < top then n + 1 else top

/-- A bit as a number. -/
def b2n (b : Bool) : Nat := if b then 1 else 0

/-- The absolute value. -/
def absI (i : Int) : Nat := i.natAbs

/-- a / b rounded to nearest with ties to even, b > 0 (R8). -/
def roundEven (a : Int) (b : Nat) : Int :=
  let q := a / (b : Int)
  let r := (a % (b : Int)).toNat
  if 2 * r < b then q else if b < 2 * r then q + 1 else if q % 2 = 0 then q else q + 1

/-- a / b where the spec states no rounding: the quotient itself when it is a whole number, else one of its
two neighbours, and which one is left open (notes/assumptions/5.md). -/
def divOpen (a : Int) (b : Nat) : Int :=
  if b = 0 || a % (b : Int) = 0 then a / (b : Int)
  else if Config.roundsUp a b then a / (b : Int) + 1 else a / (b : Int)

/-- The record of an object in a sparse table; d when it is not listed. -/
def getD {α : Type} (t : Tab α) (k : Nat) (d : α) : α :=
  match t with
  | [] => d
  | (i, a) :: r => if k = i then a else getD r k d

/-- Write an object's record in a sparse table, keeping the indices rising. -/
def put {α : Type} (t : Tab α) (k : Nat) (v : α) : Tab α :=
  match t with
  | [] => [(k, v)]
  | (i, a) :: r => if k < i then (k, v) :: (i, a) :: r else if k = i then (k, v) :: r else (i, a) :: put r k v

/-- Remove an object's record. -/
def del {α : Type} (t : Tab α) (k : Nat) : Tab α := t.filter (fun x => x.1 != k)

/-- Insert a number into a rising list without repeats. -/
def insN (l : List Nat) (n : Nat) : List Nat :=
  match l with
  | [] => [n]
  | a :: r => if n < a then n :: a :: r else if n = a then a :: r else a :: insN r n

/-- Ticks of 2.5 ns per microsecond (R9). -/
def ticksPerUs : Nat := 400

/-- Ticks per millisecond. -/
def ticksPerMs : Nat := 400000

/-- Ticks per second. -/
def ticksPerS : Nat := 400000000

/-- The 64-bit value as its 32-bit words, low word first. -/
def words64 (n : Nat) : List Nat := [n % 2 ^ 32, n / 2 ^ 32 % 2 ^ 32]

/-- Bytes, least significant first, as a number. -/
def leNat (l : List Nat) : Nat :=
  match l with
  | [] => 0
  | b :: r => b % 256 + 256 * leNat r

/-- n as k little-endian bytes. -/
def leBytes (k n : Nat) : List Nat :=
  match k with
  | 0 => []
  | k + 1 => n % 256 :: leBytes k (n / 256)

/-- k bytes of a buffer from offset o, as a little-endian number. -/
def field (l : List Nat) (o k : Nat) : Nat := leNat ((l.drop o).take k)

end Sys2Proof.Machine
end

