-- ==== Sys2Proof/Machine/RegMap.lean ====
section
/-! DEFINITION. The BAR0 register table: where each writable register lies, which of its bits are
RWL, RW, W1C and WO, and its reset value, row by row from the spec's register tables (R573 to R577).
Registers reached through a window (a select register) stand at keys from 0x10000 up, one per selected
object. -/

namespace Sys2Proof.Machine

/-- One row of the register map: count registers at base, base + stride, … -/
structure RegRow where
  base : Nat
  stride : Nat
  count : Nat
  /-- Bits of access RWL, RW, W1C and WO (Table 0.4). -/
  rwl : Nat := 0
  rw : Nat := 0
  w1c : Nat := 0
  wo : Nat := 0
  reset : Nat := 0
  deriving DecidableEq, Repr

/-- Register rows: glb. -/
def regRows_glb : List RegRow := [
  -- GAF_CFG, Table 23.5
  { base := 0x400, stride := 0x4, count := 1, rwl := 0xF800FFFF, reset := 0xE8000064 },
  -- GLB_LOCK, Table 25.4
  { base := 0x20, stride := 0x4, count := 1, wo := 0x80FF0000 },
  -- TBU_CLAP_CFG, Table 2.2
  { base := 0x808, stride := 0x4, count := 1, rwl := 0xC007FFFF, reset := 0x4E20 },
  -- TBU_SLAVE_CFG, Table 2.4
  { base := 0x80C, stride := 0x4, count := 1, rwl := 0xFFFFFFFF, reset := 0x1080408 },
  -- TBU_SLAVE_WIN, Table 2.5
  { base := 0x810, stride := 0x4, count := 1, rwl := 0xFFFFFFFF, reset := 0x640190 },
  -- TBU_SLAVE_OFS, Table 2.6
  { base := 0x814, stride := 0x4, count := 1, rwl := 0xFFFF }]

/-- Register rows: mod. -/
def regRows_mod : List RegRow := [
  -- MOD_LEGn_CFG, n = 0 to 11, Table 3.2
  { base := 0x1000, stride := 0x40, count := 12, rwl := 0x9EF10000, reset := 0xF00000 },
  -- MOD_LEGn_CFG, n = 12 to 13, Table 3.2
  { base := 0x1300, stride := 0x40, count := 2, rwl := 0x9EF00000, reset := 0xF00000 },
  -- MOD_LEGn_CFG, n = 14 to 27, Table 3.2
  { base := 0x1380, stride := 0x40, count := 14, rwl := 0x9FF10000, reset := 0xF00000 },
  -- MOD_LEGn_CFG, n = 28 to 67, Table 3.2
  { base := 0x1700, stride := 0x40, count := 40, rwl := 0x9EF10000, reset := 0xF00000 },
  -- MOD_LEGn_PERIOD, Tables 3.3 and 3.6
  { base := 0x1004, stride := 0x40, count := 68, rwl := 0xFFFFFFFF },
  -- MOD_LEGn_CMP0, Tables 3.3 and 3.6
  { base := 0x1008, stride := 0x40, count := 68, rwl := 0xFFFFFFFF },
  -- MOD_LEGn_CMP1, Tables 3.3 and 3.6
  { base := 0x100C, stride := 0x40, count := 68, rwl := 0xFFFFFFFF },
  -- MOD_LEGn_TRG0, Tables 3.3 and 3.6
  { base := 0x1020, stride := 0x40, count := 68, rwl := 0xFFFFFFFF },
  -- MOD_LEGn_TRG1, Tables 3.3 and 3.6
  { base := 0x1024, stride := 0x40, count := 68, rwl := 0xFFFFFFFF },
  -- MOD_LEGn_FINE, Table 3.4
  { base := 0x1010, stride := 0x40, count := 68, rwl := 0x1F1F1F1F },
  -- MOD_LEGn_DT, n = 0 to 11, Table 3.5
  { base := 0x1014, stride := 0x40, count := 12, rwl := 0x1FFFF, reset := 0x3200 },
  -- MOD_LEGn_DT, n = 14 to 67, Table 3.5
  { base := 0x1394, stride := 0x40, count := 54, rwl := 0x1FFFF, reset := 0x3200 },
  -- MOD_LEGn_DT of BK0 and BK1
  { base := 0x1314, stride := 0x40, count := 2 },
  -- MOD_LEGn_PULSE, n = 0 to 31, Table 3.5
  { base := 0x1018, stride := 0x40, count := 32, rwl := 0xFFFF0000 },
  -- MOD_LEGn_PULSE, n = 32 to 67, Table 3.5
  { base := 0x1818, stride := 0x40, count := 36, rwl := 0xFFFFFFFF, reset := 0x1900 },
  -- MOD_LEGn_TRG, Table 3.6
  { base := 0x101C, stride := 0x40, count := 68, rwl := 0xF3F9FC0, reset := 0x1000000 },
  -- MOD_SGj_CFG, Table 3.9
  { base := 0x2100, stride := 0x4, count := 8, rwl := 0x80001FFF, reset := 0x1 },
  -- MOD_VGk_CFG, Table 3.12
  { base := 0x2120, stride := 0x4, count := 4, rwl := 0x80000000 },
  -- MOD_VLVm_CFG, Table 3.10
  { base := 0x2200, stride := 0x10, count := 48, rwl := 0xFF00FFFF },
  -- MOD_VLVm_PERIOD, Table 3.11
  { base := 0x2204, stride := 0x10, count := 48, rwl := 0xFFFFFFFF },
  -- MOD_VLVm_DUTY, Table 3.11
  { base := 0x2208, stride := 0x10, count := 48, rwl := 0x1FFFF },
  -- MOD_VLVm_PHASE, Table 3.11
  { base := 0x220C, stride := 0x10, count := 48, rwl := 0xFFFFFFFF }]

/-- Register rows: trm. -/
def regRows_trm : List RegRow := [
  -- TRM_GRPg_CFG, Table 4.9
  { base := 0x2600, stride := 0x20, count := 16, rwl := 0x8F80FFFF, reset := 0x3000064 },
  -- TRM_GRPg_SPD, Table 4.9
  { base := 0x2604, stride := 0x20, count := 16, rwl := 0xFBFFFFFF },
  -- TRM_GRPg_CBC, Table 4.10
  { base := 0x2608, stride := 0x20, count := 16, rwl := 0xFF00FFFF, reset := 0x80000C8 },
  -- TRM_BRIDGE_MAP0, Table 4.2
  { base := 0x2800, stride := 0x4, count := 1, rwl := 0xFFFFFFFF, reset := 0xBBAA9999 },
  -- TRM_BRIDGE_MAP1, Table 4.2
  { base := 0x2804, stride := 0x4, count := 1, rwl := 0xFFFF, reset := 0xDDCC },
  -- TRM_OCLi_RT, Table 4.5
  { base := 0x2840, stride := 0x4, count := 32, rwl := 0xF000FFFF },
  -- TRM_VC0_RT and VC1_RT, Table 4.5
  { base := 0x28C0, stride := 0x4, count := 2, rwl := 0xB000FFFF },
  -- TRM_VC2_RT, Table 4.5
  { base := 0x28C8, stride := 0x4, count := 1, rwl := 0xB000FFFF, reset := 0xA0000020 },
  -- TRM_VC3_RT, Table 4.5
  { base := 0x28CC, stride := 0x4, count := 1, rwl := 0xB000FFFF, reset := 0xA0000040 },
  -- TRM_VC4_RT to VC7_RT, Table 4.5
  { base := 0x28D0, stride := 0x4, count := 4, rwl := 0xB000FFFF },
  -- TRM_VCj_THR, Table 4.7
  { base := 0x28E0, stride := 0x4, count := 8, rwl := 0xFFFFFFFF },
  -- TRM_CROSSg_RT, Table 4.5
  { base := 0x2900, stride := 0x4, count := 16, rwl := 0xB000FFFF },
  -- TRM_OCLi_CFG, Table 4.8
  { base := 0x2940, stride := 0x4, count := 32, rwl := 0xFE007FFF, reset := 0x1FFF }]

/-- Register rows: gdv. -/
def regRows_gdv : List RegRow := [
  -- GDV_CHc_CFG, isolated, Table 5.2
  { base := 0x2A00, stride := 0x10, count := 62, rwl := 0x8FFFFFFF, reset := 0x86242201 },
  -- GDV_CHc_CFG, bootstrap, Table 5.2
  { base := 0x2DE0, stride := 0x10, count := 72, rwl := 0xFFC00, reset := 0x10800 },
  -- GDV_CHc_DSAT, Table 5.6
  { base := 0x2A04, stride := 0x10, count := 134, rwl := 0x80FF0FFF, reset := 0x80460190 },
  -- GDV_CHc_ADAPT, isolated, Table 5.3
  { base := 0x2A08, stride := 0x10, count := 62, rwl := 0xFFFFFFC0, reset := 0x3C3C2880 },
  -- GDV_CHc_STAT, Table 5.12
  { base := 0x2A0C, stride := 0x10, count := 134, w1c := 0xF000 },
  -- GDV_SUP_CFG, Table 5.7
  { base := 0x3380, stride := 0x4, count := 1, rwl := 0xFFFFFFFF, reset := 0x84550A14 },
  -- GDV_DIAG_CFG, Table 5.10
  { base := 0x3384, stride := 0x4, count := 1, rwl := 0xF000007F, reset := 0x5000000A }]

/-- Register rows: pfi. -/
def regRows_pfi : List RegRow := [
  -- PFIi_CFG, Table 6.3
  { base := 0x3400, stride := 0x20, count := 16, rwl := 0xFEFFFF00, reset := 0x40A00 },
  -- PFIi_WIN, Table 6.4
  { base := 0x3404, stride := 0x20, count := 16, rwl := 0xFFFF0000, reset := 0x1900000 },
  -- PFIi_CPR, Table 6.4
  { base := 0x3408, stride := 0x20, count := 16, rwl := 0xFFFFFF, reset := 0x1000 },
  -- PFIi_SER, Table 6.4
  { base := 0x340C, stride := 0x20, count := 16, rwl := 0xFFFFFFFC, reset := 0x190CB200 },
  -- PFIi_STAT, Table 6.5
  { base := 0x341C, stride := 0x20, count := 16, w1c := 0x30000000 },
  -- RSVr_CFG, Table 6.8
  { base := 0x3700, stride := 0x20, count := 4, rwl := 0xFFFFFFFF, reset := 0x151E0000 },
  -- RSVr_FLT, Table 6.8
  { base := 0x3704, stride := 0x20, count := 4, rwl := 0xFFFFFFFF, reset := 0x80A0071C },
  -- RSVr_STAT, Table 6.9
  { base := 0x3710, stride := 0x20, count := 4, w1c := 0x2000000 },
  -- CMPj_CFG, Table 6.10
  { base := 0x3780, stride := 0x8, count := 16, rwl := 0xFDF00FFF, reset := 0xA },
  -- CMPj_VAL, Table 6.10
  { base := 0x3784, stride := 0x8, count := 16, rw := 0xFFFFFFFF }]

/-- Register rows: lpe. -/
def regRows_lpe : List RegRow := [
  -- LPE_CTX_SEL, Table 7.2
  { base := 0x3820, stride := 0x4, count := 1, rw := 0xFF },
  -- LPE_CTX_CFG of each context, Table 7.2
  { base := 0x10000, stride := 0x10, count := 192, rwl := 0xFFFF0000, reset := 0x30000 },
  -- LPE_CTX_PER of each context
  { base := 0x10004, stride := 0x10, count := 192, rwl := 0x1FFF0FFF, reset := 0x10000 },
  -- LPE_CTX_PROG.entry of each context
  { base := 0x10008, stride := 0x10, count := 192, rwl := 0x7FFF },
  -- LPE_CTX_DATA of each context
  { base := 0x1000C, stride := 0x10, count := 192, rwl := 0xFFFF7FFF },
  -- LPE_BIND_SEL, Table 7.4
  { base := 0x3840, stride := 0x4, count := 1, rw := 0xFF8F },
  -- LPE_BIND_CFG of each binding, Table 7.4
  { base := 0x20000, stride := 0x10, count := 6144, rwl := 0xFFFFFFE0 },
  -- LPE_BIND_SCALE of each binding
  { base := 0x20004, stride := 0x10, count := 6144, rwl := 0xFFFFF800, reset := 0x10000 },
  -- LPE_BIND_VAL of each binding
  { base := 0x20008, stride := 0x10, count := 6144, rwl := 0xFFFFFFFF },
  -- LPE_IMG_ADDR_LO, Table 8.10
  { base := 0x3850, stride := 0x4, count := 1, rwl := 0xFFFFFFFC },
  -- LPE_IMG_ADDR_HI, Table 8.10
  { base := 0x3854, stride := 0x4, count := 1, rwl := 0xFFFFFFFF },
  -- LPE_IMG_LEN, Table 8.10
  { base := 0x3858, stride := 0x4, count := 1, rwl := 0x1FFFFF },
  -- LPE_IMG_CTL, Table 8.10
  { base := 0x385C, stride := 0x4, count := 1, wo := 0x80000000 },
  -- PGN_Uu_CFG, Table 7.10
  { base := 0x3A00, stride := 0x20, count := 16, rwl := 0xFFFFF800, reset := 0x10000 },
  -- PGN_Uu v_max
  { base := 0x3A04, stride := 0x20, count := 16, rwl := 0xFFFFFFFF, reset := 0x1000 },
  -- PGN_Uu a_max
  { base := 0x3A08, stride := 0x20, count := 16, rwl := 0xFFFFFFFF, reset := 0x1000 },
  -- PGN_Uu j_max
  { base := 0x3A0C, stride := 0x20, count := 16, rwl := 0xFFFFFFFF, reset := 0x1000 },
  -- PGN_Uu tgt
  { base := 0x3A10, stride := 0x20, count := 16, rwl := 0xFFFFFFFF },
  -- PGN_Uu_STAT
  { base := 0x3A1C, stride := 0x20, count := 16, w1c := 0x10000000 }]

/-- Register rows: cmu. -/
def regRows_cmu : List RegRow := [
  -- CMUu_CFG, Tables 9.5 to 9.9
  { base := 0x3C00, stride := 0x40, count := 12, rwl := 0xFFFFF800, reset := 0x2000 },
  -- CMUu_MOT, Tables 9.5 to 9.9
  { base := 0x3C04, stride := 0x40, count := 12, rwl := 0xFFFFFFFF },
  -- CMUu_PSI, Tables 9.5 to 9.9
  { base := 0x3C08, stride := 0x40, count := 12, rwl := 0xFFFF },
  -- CMUu_THR0, Tables 9.5 to 9.9
  { base := 0x3C0C, stride := 0x40, count := 12, rwl := 0xFFFFFFFF, reset := 0x12C0032 },
  -- CMUu_THR1, Tables 9.5 to 9.9
  { base := 0x3C10, stride := 0x40, count := 12, rwl := 0xFFFFFFFF, reset := 0x3E801F4 },
  -- CMUu_TIME0, Tables 9.5 to 9.9
  { base := 0x3C14, stride := 0x40, count := 12, rwl := 0xFFFFFFFF, reset := 0x140A00C8 },
  -- CMUu_TIME1, Tables 9.5 to 9.9
  { base := 0x3C18, stride := 0x40, count := 12, rwl := 0xFFFFFFFF, reset := 0x138801F4 },
  -- CMUu_LIM, Tables 9.5 to 9.9
  { base := 0x3C1C, stride := 0x40, count := 12, rwl := 0xFFFFFFFF, reset := 0xBB803E8 },
  -- CMUu_LIM2, Tables 9.5 to 9.9
  { base := 0x3C20, stride := 0x40, count := 12, rwl := 0xFFFFFFFF, reset := 0xF50003E8 },
  -- CMUu_SMP, Tables 9.5 to 9.9
  { base := 0x3C24, stride := 0x40, count := 12, rwl := 0xFFFFFF00, reset := 0xF008300 },
  -- CMUu_PK, Tables 9.5 to 9.9
  { base := 0x3C28, stride := 0x40, count := 12, rwl := 0xFFFFFFFF, reset := 0x7D0028F },
  -- CMUu_PI, Tables 9.5 to 9.9
  { base := 0x3C2C, stride := 0x40, count := 12, rwl := 0xFFFFFFFF, reset := 0xA00A032 },
  -- CMUu_CMD, Tables 9.5 to 9.9
  { base := 0x3C30, stride := 0x40, count := 12, rwl := 0xFFFF0000 },
  -- CMUu_HYS, Tables 9.5 to 9.9
  { base := 0x3C34, stride := 0x40, count := 12, rwl := 0xFFFFFFFF, reset := 0x7FFF7FFE },
  -- CMUu_STAT, Table 9.10
  { base := 0x3C38, stride := 0x40, count := 12, w1c := 0x800000 },
  -- CMU_CRV_SEL, Table 9.11
  { base := 0x3F00, stride := 0x4, count := 1, rw := 0xF1F },
  -- CMU_CRV_PT of each unit and point
  { base := 0x11000, stride := 0x4, count := 384, rwl := 0xFFFFFFFF },
  -- GBX_CFG, Table 10.3
  { base := 0x3F40, stride := 0x4, count := 1, rwl := 0xFFEFFF00, reset := 0x1200 },
  -- GBX_CTX, Table 10.3
  { base := 0x3F44, stride := 0x4, count := 1, rwl := 0xFFFFFFFF, reset := 0x3210FF00 },
  -- GBX_SPD, Table 10.3
  { base := 0x3F48, stride := 0x4, count := 1, rwl := 0xFFFFFFFF, reset := 0x17700002 },
  -- GBX_TIME0, Table 10.3
  { base := 0x3F4C, stride := 0x4, count := 1, rwl := 0xFFFFFFFF, reset := 0x9600C8 },
  -- GBX_TIME1, Table 10.3
  { base := 0x3F50, stride := 0x4, count := 1, rwl := 0xFFFFFFFF, reset := 0x12C012C },
  -- GBX_TIME2, Table 10.3
  { base := 0x3F54, stride := 0x4, count := 1, rwl := 0xFFFFFFFF, reset := 0x320641E },
  -- GBX_GXk_DET0, Table 10.3
  { base := 0x3F58, stride := 0x8, count := 4, rwl := 0xFFFFFFFF },
  -- GBX_GXk_DET1, Table 10.3
  { base := 0x3F5C, stride := 0x8, count := 4, rwl := 0xFFFFFFFF, reset := 0x214 },
  -- GBX_RATIOr, Table 10.3
  { base := 0x3F78, stride := 0x4, count := 4, rwl := 0xFFFFF, reset := 0x1000 }]

/-- Register rows: sxe. -/
def regRows_sxe : List RegRow := [
  -- SXE_CFG, Table 11.1
  { base := 0x4000, stride := 0x4, count := 1, rwl := 0x80FF0000, reset := 0x200000 },
  -- ODOo_CFG, Table 11.2
  { base := 0x4010, stride := 0x10, count := 4, rwl := 0xFE00FFFF, reset := 0x1F4 },
  -- ODOo_SCALE, Table 11.2
  { base := 0x4014, stride := 0x10, count := 4, rwl := 0xFFFFFFFF, reset := 0x10000 },
  -- ARr_CFG, Table 11.3
  { base := 0x4050, stride := 0x10, count := 4, rwl := 0xF800FFFF, reset := 0x8000800 },
  -- ARr_LIM, Table 11.3
  { base := 0x4054, stride := 0x10, count := 4, rwl := 0xFFFFFFFF, reset := 0x1000040 },
  -- SXE_SEC_SEL, Table 11.4
  { base := 0x4090, stride := 0x4, count := 1, rw := 0xFF },
  -- SEC_CFG of each section, Table 11.4
  { base := 0x12000, stride := 0x10, count := 160, rwl := 0xFC00FFFF, reset := 0x4000000 },
  -- SEC_LEAD of each section
  { base := 0x12004, stride := 0x10, count := 160, rwl := 0xFFFFFFFF },
  -- SEC_BASE of each section
  { base := 0x12008, stride := 0x10, count := 160, rwl := 0x1FFFF },
  -- SXE_VMAPm, Table 11.5
  { base := 0x40C0, stride := 0x4, count := 48, rwl := 0x800000FF },
  -- RNj_CFG, Table 11.6
  { base := 0x4180, stride := 0x10, count := 16, rwl := 0xFFFFF800, reset := 0x801000 },
  -- RNj_ID, Table 11.6
  { base := 0x4184, stride := 0x10, count := 16, rwl := 0x9FFFFFFF },
  -- RNj_TIME, Table 11.6
  { base := 0x4188, stride := 0x10, count := 16, rwl := 0xFFFFFFFF, reset := 0x7D00014 },
  -- SXE_SYNC, Table 11.1
  { base := 0x4280, stride := 0x4, count := 1, rwl := 0x8000FFFF, reset := 0x64 },
  -- SXE_SYNC identifier, Table 11.1
  { base := 0x4284, stride := 0x4, count := 1, rwl := 0x9FFFFFFF },
  -- CUM_CFG, Table 12.3
  { base := 0x4290, stride := 0x4, count := 1, rwl := 0xFFFF, reset := 0x200 },
  -- CUM_SEC_SEL, Table 12.4
  { base := 0x42A0, stride := 0x4, count := 1, rw := 0xFF },
  -- CUM_SEC_CFG of each section, Table 12.5
  { base := 0x13000, stride := 0x8, count := 160, rwl := 0xFFFFFFFF, reset := 0x2000 },
  -- CUM_SEC_LW of each section
  { base := 0x13004, stride := 0x8, count := 160, rwl := 0xFFFFFFFF },
  -- VLVm_CFG, Table 11.9
  { base := 0x7400, stride := 0x10, count := 48, rwl := 0xFFFFFFFF, reset := 0x320A030A },
  -- VLVm_PROP, Table 11.9
  { base := 0x7404, stride := 0x10, count := 48, rwl := 0xFFFFFFFF, reset := 0x9C41008 }]

/-- Register rows: pow. -/
def regRows_pow : List RegRow := [
  -- RGC0_CFG, Table 13.6
  { base := 0x4400, stride := 0x100, count := 1, rwl := 0xFFFFFFFC, reset := 0x3FD00C },
  -- RGC1_CFG: bits 27:26 are RO 0 on IRB, Table 13.6
  { base := 0x4500, stride := 0x100, count := 1, rwl := 0xF3FFFFFC, reset := 0x3FD00C },
  -- RGCr_LIM, Tables 13.6 to 13.8
  { base := 0x4404, stride := 0x100, count := 2, rwl := 0xFFF0FFFF, reset := 0xFFF003E8 },
  -- RGCr_SLOPE, Tables 13.6 to 13.8
  { base := 0x4408, stride := 0x100, count := 2, rwl := 0xFFFFFFF0, reset := 0xC040 },
  -- RGCr_TIME, Tables 13.6 to 13.8
  { base := 0x440C, stride := 0x100, count := 2, rwl := 0xFFFFFFFF, reset := 0x6403E8 },
  -- RGCr_VLIM, Tables 13.6 to 13.8
  { base := 0x4410, stride := 0x100, count := 2, rwl := 0xFFFFFFFF, reset := 0x1D4C0BB8 },
  -- RGCr_BAND, Tables 13.6 to 13.8
  { base := 0x4414, stride := 0x100, count := 2, rwl := 0xFFFFFF00, reset := 0x641400 },
  -- RGCr_SLEW, Tables 13.6 to 13.8
  { base := 0x4418, stride := 0x100, count := 2, rwl := 0xFFFFFFFF, reset := 0x3200FA },
  -- RGCr_RET, Tables 13.6 to 13.8
  { base := 0x441C, stride := 0x100, count := 2, rwl := 0xFFFFFF00, reset := 0x4001400 },
  -- RGCr_BURST, Tables 13.6 to 13.8
  { base := 0x4420, stride := 0x100, count := 2, rwl := 0xFFFFFFFF, reset := 0xA10019A },
  -- RGCr_BURST2, Tables 13.6 to 13.8
  { base := 0x4424, stride := 0x100, count := 2, rwl := 0xFFFFFFFF, reset := 0x3200C8 },
  -- VCLr_CFG, Tables 13.6 to 13.8
  { base := 0x4428, stride := 0x100, count := 2, rwl := 0xFFFFFFFF, reset := 0x3201F4 },
  -- VCLr_CFG2, Tables 13.6 to 13.8
  { base := 0x442C, stride := 0x100, count := 2, rwl := 0xFFFFFFFF, reset := 0x6407D0 },
  -- PPM_CFG, Tables 14.7, 14.8 and 15.4
  { base := 0x4800, stride := 0x4, count := 1, rwl := 0xEFFFFF00, reset := 0xFCC8200 },
  -- PPM_TIME, Tables 14.7, 14.8 and 15.4
  { base := 0x4804, stride := 0x4, count := 1, rwl := 0xFFFFFFFF, reset := 0x323203E8 },
  -- PPM_SPD, Tables 14.7, 14.8 and 15.4
  { base := 0x4808, stride := 0x4, count := 1, rwl := 0xFFFFFF80 },
  -- PPM_INH, Tables 14.7, 14.8 and 15.4
  { base := 0x480C, stride := 0x4, count := 1, rwl := 0xFFFFFFFF, reset := 0xFFFFFFFF },
  -- OBC_CFG, Tables 14.7, 14.8 and 15.4
  { base := 0x4820, stride := 0x4, count := 1, rwl := 0x803FFFFF, reset := 0x3FC258 },
  -- OBC_LIM, Tables 14.7, 14.8 and 15.4
  { base := 0x4824, stride := 0x4, count := 1, rwl := 0xFFFFFFFF, reset := 0xDC0140 },
  -- CHG_LIM, Tables 14.7, 14.8 and 15.4
  { base := 0x4828, stride := 0x4, count := 1, rwl := 0xFFFFFFFF, reset := 0x23280190 },
  -- CHG_EOC, Tables 14.7, 14.8 and 15.4
  { base := 0x482C, stride := 0x4, count := 1, rwl := 0xFF00FFFF, reset := 0x500003C },
  -- CHG_TIME, Tables 14.7, 14.8 and 15.4
  { base := 0x4830, stride := 0x4, count := 1, rwl := 0xFFFFFFFF, reset := 0x384001E },
  -- RSUP_LIM, Tables 14.7, 14.8 and 15.4
  { base := 0x4834, stride := 0x4, count := 1, rwl := 0xFFFFFFFF, reset := 0x14007D0 },
  -- DCL_CFG, Tables 14.7, 14.8 and 15.4
  { base := 0x4880, stride := 0x4, count := 1, rwl := 0xC3F00000, reset := 0x300000 },
  -- DCL_VTH, Tables 14.7, 14.8 and 15.4
  { base := 0x4884, stride := 0x4, count := 1, rwl := 0xFFFFFFFF, reset := 0x219800C8 },
  -- DCL_ABS, Tables 14.7, 14.8 and 15.4
  { base := 0x4888, stride := 0x4, count := 1, rwl := 0xFFFFFFF0, reset := 0x22601F40 },
  -- DCL_IREG, Tables 14.7, 14.8 and 15.4
  { base := 0x488C, stride := 0x4, count := 1, rwl := 0xFFFFFFFF, reset := 0xFA000C8 },
  -- DCL_BK, Tables 14.7, 14.8 and 15.4
  { base := 0x4890, stride := 0x4, count := 1, rwl := 0xFFFFFFFF, reset := 0x640514 }]

/-- Register rows: thm. -/
def regRows_thm : List RegRow := [
  -- THM_CFG, Table 16.2
  { base := 0x4C00, stride := 0x4, count := 1, rwl := 0xFFF8FFFF, reset := 0x8F2802EE },
  -- THM_EST_SEL, Table 16.2
  { base := 0x4C04, stride := 0x4, count := 1, rw := 0x7F },
  -- THM_E_CFG of each estimate, Table 16.3
  { base := 0x14008, stride := 0x40, count := 98, rwl := 0xFFFFFFFF, reset := 0x7F0000 },
  -- i_fs, v_src of each estimate, Table 16.3
  { base := 0x1400C, stride := 0x40, count := 98, rwl := 0xFFFFFE00, reset := 0x1F400000 },
  -- v_fs, vd of each estimate, Table 16.3
  { base := 0x14010, stride := 0x40, count := 98, rwl := 0xFFFFFFFF, reset := 0x27100000 },
  -- r25, alpha of each estimate, Table 16.3
  { base := 0x14014, stride := 0x40, count := 98, rwl := 0xFFFFFFFF },
  -- r_1, tau_1 of each estimate, Table 16.3
  { base := 0x14018, stride := 0x40, count := 98, rwl := 0xFFFFFFFF, reset := 0x1 },
  -- r_2, tau_2 of each estimate, Table 16.3
  { base := 0x1401C, stride := 0x40, count := 98, rwl := 0xFFFFFFFF, reset := 0x1 },
  -- r_3, tau_3 of each estimate, Table 16.3
  { base := 0x14020, stride := 0x40, count := 98, rwl := 0xFFFFFFFF, reset := 0x1 },
  -- r_4, tau_4 of each estimate, Table 16.3
  { base := 0x14024, stride := 0x40, count := 98, rwl := 0xFFFFFFFF, reset := 0x1 },
  -- t_warn, t_der of each estimate, Table 16.3
  { base := 0x14028, stride := 0x40, count := 98, rwl := 0xFFFFFFFF, reset := 0x57805DC },
  -- t_sd, t_rel of each estimate, Table 16.3
  { base := 0x1402C, stride := 0x40, count := 98, rwl := 0xFFFFFFFF, reset := 0x6D60640 },
  -- THM_DEV_SEL, Table 16.4
  { base := 0x4C40, stride := 0x4, count := 1, rw := 0xF1FF, reset := 0x10 },
  -- THM_DEV_CFG of each device
  { base := 0x17000, stride := 0x4, count := 16, rwl := 0xFFFFFFFF, reset := 0x1F45DC2 },
  -- THM_DEV_E of each device, step, k and edge
  { base := 0x18000, stride := 0x4, count := 8192, rwl := 0xFFFF },
  -- THM_NTCs, Table 16.5
  { base := 0x4C80, stride := 0x4, count := 12, rwl := 0xFFFFFFFF, reset := 0x3E80F6E }]

/-- Register rows: hst. -/
def regRows_hst : List RegRow := [
  -- HIF_DLY_CFG, Table 19.13
  { base := 0x7820, stride := 0x4, count := 1, rwl := 0x8000FFFF, reset := 0x64 },
  -- HIF_DLY_ITEMi, Table 19.13
  { base := 0x7840, stride := 0x4, count := 48, rwl := 0xC000FFFC },
  -- MBX_CHc_BIND, c = 0 to 47, Table 20.4
  { base := 0x5C00, stride := 0x8, count := 48, rwl := 0xE0FF0000 },
  -- MBX_CHc_TO, c = 0 to 47, Table 20.4
  { base := 0x5C04, stride := 0x8, count := 48, rwl := 0xFFFFFF },
  -- MEM_SEL, Table 22.3
  { base := 0x6400, stride := 0x4, count := 1, rw := 0x7 },
  -- SEC_RPL, Table 22.9
  { base := 0x6820, stride := 0x4, count := 1, rwl := 0xF3FFFF00 },
  -- SEC_KEY_SEL, Table 22.10
  { base := 0x6830, stride := 0x4, count := 1, rwl := 0x7, reset := 0x4 },
  -- SEC_KEY_CTL, Table 22.10
  { base := 0x6834, stride := 0x4, count := 1, wo := 0x80000000 },
  -- SEC_KEY_Dj, Table 22.10
  { base := 0x6840, stride := 0x4, count := 16, rwl := 0xFFFFFFFF }]

/-- Register rows: can. -/
def regRows_can : List RegRow := [
  -- CANk_CFG, k = 0 to 3, Table 21.1
  { base := 0x5400, stride := 0x100, count := 4, rwl := 0xF7FF0000, reset := 0x11000000 },
  -- CANk_CFG, k = 4 and 5, Table 21.1
  { base := 0x5800, stride := 0x100, count := 2, rwl := 0xFDFF0000, reset := 0x11000000 },
  -- CANk_NBT, Table 21.1
  { base := 0x5404, stride := 0x100, count := 6, rwl := 0xFFFFFFFE, reset := 0x87E2020 },
  -- CANk_DBT, Table 21.1
  { base := 0x5408, stride := 0x100, count := 6, rwl := 0xFFFFFFFC, reset := 0x5F42240 },
  -- CANk_XBT, k = 4 and 5, Table 21.1
  { base := 0x580C, stride := 0x100, count := 2, rwl := 0xFFFFFFFC, reset := 0x4510810 },
  -- CANk_XPWM, k = 4 and 5, Table 21.1
  { base := 0x5810, stride := 0x100, count := 2, rwl := 0xFFFFC000, reset := 0x8600000 },
  -- CANk_NAME_LO, Table 21.3
  { base := 0x5414, stride := 0x100, count := 6, rwl := 0xFFFFFFFF },
  -- CANk_NAME_HI, Table 21.3
  { base := 0x5418, stride := 0x100, count := 6, rwl := 0xFFFFFFFF },
  -- CANk_ISO, Table 21.3
  { base := 0x541C, stride := 0x100, count := 6, rwl := 0xFFFFFF, reset := 0xF78080 },
  -- CAN0_Qq_CFG, Table 21.4
  { base := 0x5440, stride := 0x18, count := 8, rwl := 0xFFFFFCFF, reset := 0x1C0004FF },
  -- CAN0_Qq_FLT, Table 21.4
  { base := 0x5444, stride := 0x18, count := 8, rwl := 0x1FFFFFFF },
  -- CAN0_Qq_MASK, Table 21.4
  { base := 0x5448, stride := 0x18, count := 8, rwl := 0x1FFFFFFF },
  -- CAN0_Qq_BASE_LO, Table 21.4
  { base := 0x544C, stride := 0x18, count := 8, rwl := 0xFFFFFFFF },
  -- CAN0_Qq_BASE_HI, Table 21.4
  { base := 0x5450, stride := 0x18, count := 8, rwl := 0xFFFFFFFF },
  -- CAN1_Qq_CFG, Table 21.4
  { base := 0x5540, stride := 0x18, count := 8, rwl := 0xFFFFFCFF, reset := 0x1C0004FF },
  -- CAN1_Qq_FLT, Table 21.4
  { base := 0x5544, stride := 0x18, count := 8, rwl := 0x1FFFFFFF },
  -- CAN1_Qq_MASK, Table 21.4
  { base := 0x5548, stride := 0x18, count := 8, rwl := 0x1FFFFFFF },
  -- CAN1_Qq_BASE_LO, Table 21.4
  { base := 0x554C, stride := 0x18, count := 8, rwl := 0xFFFFFFFF },
  -- CAN1_Qq_BASE_HI, Table 21.4
  { base := 0x5550, stride := 0x18, count := 8, rwl := 0xFFFFFFFF },
  -- CAN2_Qq_CFG, Table 21.4
  { base := 0x5640, stride := 0x18, count := 8, rwl := 0xFFFFFCFF, reset := 0x1C0004FF },
  -- CAN2_Qq_FLT, Table 21.4
  { base := 0x5644, stride := 0x18, count := 8, rwl := 0x1FFFFFFF },
  -- CAN2_Qq_MASK, Table 21.4
  { base := 0x5648, stride := 0x18, count := 8, rwl := 0x1FFFFFFF },
  -- CAN2_Qq_BASE_LO, Table 21.4
  { base := 0x564C, stride := 0x18, count := 8, rwl := 0xFFFFFFFF },
  -- CAN2_Qq_BASE_HI, Table 21.4
  { base := 0x5650, stride := 0x18, count := 8, rwl := 0xFFFFFFFF },
  -- CAN3_Qq_CFG, Table 21.4
  { base := 0x5740, stride := 0x18, count := 8, rwl := 0xFFFFFCFF, reset := 0x1C0004FF },
  -- CAN3_Qq_FLT, Table 21.4
  { base := 0x5744, stride := 0x18, count := 8, rwl := 0x1FFFFFFF },
  -- CAN3_Qq_MASK, Table 21.4
  { base := 0x5748, stride := 0x18, count := 8, rwl := 0x1FFFFFFF },
  -- CAN3_Qq_BASE_LO, Table 21.4
  { base := 0x574C, stride := 0x18, count := 8, rwl := 0xFFFFFFFF },
  -- CAN3_Qq_BASE_HI, Table 21.4
  { base := 0x5750, stride := 0x18, count := 8, rwl := 0xFFFFFFFF },
  -- CAN4_Qq_CFG, Table 21.4
  { base := 0x5840, stride := 0x18, count := 8, rwl := 0xFFFFFCFF, reset := 0x1C0004FF },
  -- CAN4_Qq_FLT, Table 21.4
  { base := 0x5844, stride := 0x18, count := 8, rwl := 0x1FFFFFFF },
  -- CAN4_Qq_MASK, Table 21.4
  { base := 0x5848, stride := 0x18, count := 8, rwl := 0x1FFFFFFF },
  -- CAN4_Qq_BASE_LO, Table 21.4
  { base := 0x584C, stride := 0x18, count := 8, rwl := 0xFFFFFFFF },
  -- CAN4_Qq_BASE_HI, Table 21.4
  { base := 0x5850, stride := 0x18, count := 8, rwl := 0xFFFFFFFF },
  -- CAN5_Qq_CFG, Table 21.4
  { base := 0x5940, stride := 0x18, count := 8, rwl := 0xFFFFFCFF, reset := 0x1C0004FF },
  -- CAN5_Qq_FLT, Table 21.4
  { base := 0x5944, stride := 0x18, count := 8, rwl := 0x1FFFFFFF },
  -- CAN5_Qq_MASK, Table 21.4
  { base := 0x5948, stride := 0x18, count := 8, rwl := 0x1FFFFFFF },
  -- CAN5_Qq_BASE_LO, Table 21.4
  { base := 0x594C, stride := 0x18, count := 8, rwl := 0xFFFFFFFF },
  -- CAN5_Qq_BASE_HI, Table 21.4
  { base := 0x5950, stride := 0x18, count := 8, rwl := 0xFFFFFFFF },
  -- CAN_OBJ_SEL, Table 21.5
  { base := 0x5A00, stride := 0x4, count := 1, rw := 0x77F }]

/-- The whole register table but EVR_RTn. -/
def regRows : List RegRow :=
  regRows_glb ++ regRows_mod ++ regRows_trm ++ regRows_gdv ++ regRows_pfi ++ regRows_lpe ++ regRows_cmu ++ regRows_sxe ++ regRows_pow ++ regRows_thm ++ regRows_hst ++ regRows_can

/-- The register of a row that lies at an offset. -/
def RegRow.covers (r : RegRow) (off : Nat) : Bool :=
  r.base ≤ off && off < r.base + r.stride * r.count && (off - r.base) % r.stride == 0

/-- The named events of Table 20.7; every other number is reserved. -/
def eventRanges : List (Nat × Nat) := [(0, 30), (32, 39), (64, 77), (96, 119), (128, 134), (144, 155), (160, 205), (216, 218), (224, 230), (232, 252), (254, 254)]

/-- Event n is named by Table 20.7. -/
def namedEvent (n : Nat) : Bool := eventRanges.any (fun r => r.1 ≤ n && n ≤ r.2)

/-- Events whose evq resets to 0 though they are named (R505). -/
def evqOff : List Nat := [0, 9, 98, 99, 146, 227]

/-- Events whose led resets to 1 (R505). -/
def ledOn : List Nat := [1, 18, 26, 154, 163, 175, 240, 250]

/-- EVR_RTn as a row (Table 20.6, R505): evq of EV200 is RO 1; reserved events are RO 0. -/
def evrRow (n : Nat) : RegRow :=
  { base := 0x6000 + 4 * n, stride := 4, count := 1,
    rwl := if namedEvent n then (if n = 200 then 0x40000000 else 0xC0000000) else 0,
    reset := (if namedEvent n && !evqOff.contains n then 0x80000000 else 0) + (if ledOn.contains n then 0x40000000 else 0) }

/-- The row of an offset; none when no writable register lies there. -/
def regRow? (off : Nat) : Option RegRow :=
  if 0x6000 ≤ off && off < 0x6400 && off % 4 == 0 then some (evrRow ((off - 0x6000) / 4))
  else regRows.find? (fun r => r.covers off)

/-- The reset value of the register at an offset (R558); 0 where none lies. -/
def regReset (off : Nat) : Nat :=
  match regRow? off with
  | some r => r.reset
  | none => 0

end Sys2Proof.Machine
end

