-- ==== Sys2Proof/Machine/State.lean ====
section
/-! DEFINITION. The state of the AZ9160 as plain data, block by block in the order of the spec's
chapters, with the reset value of every piece as its default.  Tables of numbered objects are sparse
(`Tab`): an index that is not listed is at its reset record. -/

namespace Sys2Proof.Machine

/-- Why the machine stops. -/
inductive Fault where
  /-- The auxiliary supply is below 9.0 V: outside its limits the spec promises nothing (R14, R22,
  R560).  Raised by every command but POWER_ON.  Safe: the model stops where the
  hardware may go on. -/
  | outsideLimits
  deriving DecidableEq, Repr

/-- Why a command has no meaning. -/
inductive Refusal where
  /-- The command has no meaning yet; raised by the arms of Dispatch only.  Safe: the model stops. -/
  | notModelled (mnemonic : String)
  deriving DecidableEq, Repr

/-! ## Timebase and clapper (chapter 02) -/

/-- Slaving states of Table 2.7. -/
inductive Slaving where | free | acquire | locked | holdover
  deriving DecidableEq, Repr

/-- The timebase unit (R24 to R36). -/
structure Tbu where
  /-- TBU_TIME_HI: bits 63:32 captured by the last read of TBU_TIME_LO (R26). -/
  timeHi : Nat := 0
  /-- The clapper runs (R28). -/
  running : Bool := false
  /-- The clapper's start tick (R27). -/
  startTick : Nat := 0
  /-- Tick at which the next boundary falls (R27). -/
  nextB : Nat := 0
  /-- Present clapper period in ticks (R32). -/
  period : Nat := 0
  /-- Tick of the latest boundary. -/
  lastB : Nat := 0
  /-- Number of boundaries so far; the latest boundary's number is one less (R27, R160). -/
  count : Nat := 0
  /-- Slaving state (Table 2.7). -/
  state : Slaving := .free
  /-- rate_corr, signed 0.01 ppm (Table 2.8). -/
  rateCorr : Int := 0
  /-- ph_err, signed fine steps (Table 2.8). -/
  phErr : Int := 0
  /-- Consecutive good edges (R35). -/
  good : Nat := 0
  /-- Consecutive missed edges (R35). -/
  missed : Nat := 0
  /-- Expected instant of the next CLAP_IN edge, in fine steps (R35). -/
  expect : Nat := 0
  /-- Boundary instant that the last used edge asks for: the edge plus in_ofs, in fine steps (R31). -/
  aim : Int := 0
  /-- Fine steps from one CLAP_IN edge to the next, as the last two used edges show them (R31). -/
  span : Nat := 0
  /-- Holdover deadline (R35, R39). -/
  holdDl : Nat := 0
  /-- EV227 has been raised since the last boundary (R35). -/
  outside : Bool := false
  /-- CLAP_OUT is high below this tick (R29). -/
  outFall : Nat := 0
  /-- The blocks that start with the clapper wait for the next boundary (R581). -/
  due : Bool := false
  deriving DecidableEq, Repr

/-! ## Modulator (chapter 03) -/

/-- One set of a leg's shadowed values (R57), times in fine steps but the period in ticks. -/
structure LegSet where
  /-- T in ticks. -/
  period : Nat := 0
  /-- t_c = cmp0 × 32 + cmp0_fine (R50). -/
  tc : Nat := 0
  /-- Phase offset = cmp1 × 32 + cmp1_fine. -/
  ph : Nat := 0
  trg0 : Nat := 0
  trg1 : Nat := 0
  deriving DecidableEq, Repr

/-- How one carrier period reaches the switches (R46, R47, R51 to R53): instants in fine steps from
the carrier start. -/
structure Shape where
  /-- 0 region 1, 1 region 2, 2 region 3, 3 clamped (Table 3.7). -/
  region : Nat := 0
  /-- The period counts in short_cnt: region 2, region 3 or their mirror. -/
  short : Bool := false
  /-- The period counts in clamp_cnt. -/
  clamped : Bool := false
  /-- The high switch conducts from hiOn to hiOff; never when they are equal. -/
  hiOn : Nat := 0
  hiOff : Nat := 0
  /-- The low switch is off from loOff to loOn; never when they are equal. -/
  loOff : Nat := 0
  loOn : Nat := 0
  deriving DecidableEq, Repr

/-- The level a TRM force applies (R89). -/
inductive Level where | off | asc
  deriving DecidableEq, Repr

/-- When the outputs of a leg last turned off, in fine steps of device time (R47, R70, R71). -/
structure LegEdge where
  /-- The high and the low output were on until here, when the leg's outputs last came under another source. -/
  hi : Nat := 0
  lo : Nat := 0
  /-- Instant at which they did. -/
  mark : Nat := 0
  deriving DecidableEq, Repr

/-- One leg (R44 to R73, Table 3.7). -/
structure Leg where
  /-- The leg is enabled (R72, R598). -/
  enabled : Bool := false
  /-- The leg modulates: it has reached its first carrier start (R73). -/
  active : Bool := false
  shadow : LegSet := {}
  act : LegSet := {}
  /-- The carrier runs (R65). -/
  carrier : Bool := false
  /-- Start of the running carrier period, fine steps of device time. -/
  start : Nat := 0
  /-- Length of the running carrier period, fine steps. -/
  len : Nat := 0
  /-- Next carrier start, fine steps of device time. -/
  next : Nat := 0
  shape : Shape := {}
  /-- The centre update of this period has been made (R58). -/
  mid : Bool := false
  /-- Carrier periods since the group or leg start (R67). -/
  periods : Nat := 0
  lastRegion : Nat := 0
  clampCnt : Nat := 0
  shortCnt : Nat := 0
  /-- A force has ended and its level holds until the next carrier start (R95). -/
  hold : Option Level := none
  /-- The outputs' last turn-offs, from which the dead time of the next turn-on counts (R47). -/
  last : LegEdge := {}
  /-- TRM has forced the leg, or a DESAT report on it has been asserted, in the running period (R121). -/
  spoilt : Bool := false
  deriving DecidableEq, Repr

/-- One synchronisation group (R63). -/
structure Sg where
  started : Bool := false
  /-- Boundaries since the last restart. -/
  cnt : Nat := 0
  /-- Nominal instant of the next restart, in fine steps: div × P after the last (R66). -/
  nom : Nat := 0
  deriving DecidableEq, Repr

/-- One valve channel (R74 to R81). -/
structure Valve where
  enabled : Bool := false
  /-- Gate open. -/
  gate : Bool := false
  /-- Shadow and active duty, 0 to 65,536. -/
  shDuty : Nat := 0
  duty : Nat := 0
  /-- Period in ticks. -/
  period : Nat := 0
  /-- Phase in force, ticks (R78). -/
  phase : Nat := 0
  /-- Member of its valve group, fixed at lock (R78). -/
  member : Bool := false
  /-- The channel has a carrier. -/
  carrier : Bool := false
  /-- The first carrier start has come. -/
  begun : Bool := false
  start : Nat := 0
  next : Nat := 0
  /-- New carrier whose first start has not come: its period, and that start (R79). -/
  newStart : Option (Nat × Nat) := none
  /-- Resolved on-time of the running period, fine steps (R75). -/
  onFor : Nat := 0
  /-- The output stays on below this instant, in fine steps, after a gate opened in the off-part
  (R81). -/
  extraTo : Nat := 0
  /-- What the running period's gate has let through, in fine steps, up to the instant since: in all, and since the gate
  last opened (R288, R290). -/
  ran : Nat := 0
  part : Nat := 0
  since : Nat := 0
  deriving DecidableEq, Repr

/-- The modulator. -/
structure Mod where
  legs : Tab Leg := []
  sgs : Tab Sg := []
  valves : Tab Valve := []
  /-- Origin of the valve groups (R77). -/
  vOrigin : Option Nat := none
  /-- Last trigger instant of each line ATRG0–31, in ticks plus one; 0 before the first (R67, R69). -/
  lines : Tab Nat := []
  /-- BK legs whose compare value LPE writes, fixed at CONFIG_LOCK (R45). -/
  lpeBk : List Nat := []
  deriving DecidableEq, Repr

/-! ## Trip matrix (chapter 04) -/

/-- Group states (Table 4.11). -/
inductive GrpSt where | disabled | startup | test | run | recovery | latched
  deriving DecidableEq, Repr

/-- One leg group (R83 to R106, Table 4.13). -/
structure Grp where
  st : GrpSt := .disabled
  /-- The latch; it outlives GRP_DISABLE (R94). -/
  latch : Bool := false
  forced : Bool := false
  /-- Applied level while forced. -/
  level : Level := .off
  /-- Fields illegal at the last check (R92). -/
  bad : Bool := false
  /-- SPEED has found its source without a valid speed in this force (R91). -/
  spdBad : Bool := false
  /-- A cbc force lasts to the end of the reference leg's carrier period (R96). -/
  cbcHold : Bool := false
  /-- Carrier start of the period counted last (R97). -/
  cbcPeriod : Option Nat := none
  cbcCnt : Nat := 0
  /-- Deadline of the open window. -/
  cbcDl : Nat := 0
  /-- Boundary count at which EV0 was raised, plus one. -/
  ev0 : Nat := 0
  /-- A force in RECOVERY holds (R101). -/
  held : Bool := false
  /-- Ticks of the last two recoveries, newest first (R103). -/
  recs : List Nat := []
  recDl : Nat := 0
  /-- The next TRIP_CLEAR empties the recovery history (R103). -/
  limPend : Bool := false
  /-- Kinds that have caused a force: 0 desat, 1 uvlo, 2 ocl, 3 vc, 4 thm, 5 shl, 6 sfp, 7 cross. -/
  kinds : List Nat := []
  recLimit : Bool := false
  escalated : Bool := false
  maxSev : Nat := 0
  firstSrc : Nat := 0
  /-- A cause is recorded, so first_src and its timestamp are set. -/
  hasCause : Bool := false
  /-- Fine timestamp of first_src (R105). -/
  firstTs : Nat := 0
  tsHi : Nat := 0
  tripCnt : Nat := 0
  dtCnt : Nat := 0
  deriving DecidableEq, Repr

/-- The trip matrix. -/
structure Trm where
  grps : Tab Grp := []
  /-- Asserted sources by number (Table 4.3), ascending. -/
  srcs : List Nat := []
  deriving DecidableEq, Repr

/-! ## Gate drivers (chapter 05) -/

/-- One gate channel (R107 to R136, Table 5.12). -/
structure Ch where
  armed : Bool := false
  /-- SHL has removed the supply since the channel last armed (EV35). -/
  removed : Bool := false
  /-- Fields illegal at the last check (R114). -/
  bad : Bool := false
  /-- Rails whose monitor reports: 0 positive, 1 negative, 2 bootstrap, 3 shared 12 V (R128). -/
  uv : List Nat := []
  /-- The monitor has reported the supply valid since the group was enabled (R84). -/
  uvOk : Bool := false
  dsat : Bool := false
  diag : Bool := false
  frozen : Bool := false
  atMax : Bool := false
  /-- Step in use; none is the configured starting step. -/
  src : Option Nat := none
  snk : Option Nat := none
  /-- Consecutive limit_hit(raise) at step 16 per direction (R124). -/
  limSrc : Nat := 0
  limSnk : Nat := 0
  /-- Tick of the last EV36, plus one (R123). -/
  ev36 : Nat := 0
  /-- Soft sink step of the last turn-off that TRM commanded under a DESAT report (R125). -/
  soft : Option Nat := none
  dsatSeen : Bool := false
  uvSeen : Bool := false
  shootSeen : Bool := false
  limSeen : Bool := false
  shootCnt : Nat := 0
  tOn : Nat := 0xFFFF
  tOff : Nat := 0xFFFF
  /-- The latest on command has been accepted, and the gate follows MOD since (R111, R112, R116, R117). -/
  on : Bool := false
  onTick : Nat := 0
  /-- The gate has been turned on and is not known to have fallen below 2.0 V since (R115). -/
  live : Bool := false
  /-- Boundary count at which EV33 and EV34 were raised, plus one. -/
  ev33 : Nat := 0
  ev34 : Nat := 0
  deriving DecidableEq, Repr

/-- Off-state diagnosis of one bridge (R131 to R135). -/
structure Diag where
  /-- Legs under diagnosis, ascending. -/
  legs : List Nat := []
  /-- Position of the phase in progress. -/
  idx : Nat := 0
  /-- Step 3 (source) is in progress rather than step 1 (sink). -/
  up : Bool := false
  /-- End of the settle time. -/
  dl : Nat := 0
  /-- Voltages of the legs sampled in step 1 of this phase, and V_b then, 0.1 V. -/
  dn : List Nat := []
  vDn : Nat := 0
  /-- Handle of the TK5 that diagnoses. -/
  take : Nat := 0
  deriving DecidableEq, Repr

/-- The gate drivers. -/
structure Gdv where
  chs : Tab Ch := []
  diag : Option Diag := none
  /-- GDV_DIAG_RES outcome per leg, coded as Table 5.11. -/
  res : Tab Nat := []
  /-- r_dn and r_up per leg in 1/255 of V_b, r_dn × 256 + r_up (Table 19.17). -/
  ratio : Tab Nat := []
  /-- GDV_DIAG_CFG is illegal: TK5 is refused (R114). -/
  diagBad : Bool := false
  /-- Boundary count at which EV32 was raised per leg, plus one (R117). -/
  ev32 : Tab Nat := []
  deriving DecidableEq, Repr

/-! ## Position and feedback (chapter 06) -/

/-- One digital feedback channel (R137 to R151, Tables 6.5 and 6.6). -/
structure Pfi where
  /-- Enabled: started, or waiting for its first boundary (R148). -/
  en : Bool := false
  /-- Tick of the enabling; the channel starts at the first boundary above it. -/
  enTick : Nat := 0
  running : Bool := false
  /-- Tick of the boundary at which it started. -/
  begun : Nat := 0
  /-- Accepted line levels, and the tick at which each line's was accepted (R137). -/
  a : Bool := false
  b : Bool := false
  z : Bool := false
  aT : Nat := 0
  bT : Nat := 0
  zT : Nat := 0
  /-- Tick, plus one, of a boundary that the channel has latched ahead of its CLAPPER_BOUNDARY (R139, R148). -/
  latched : Nat := 0
  /-- Boundary tick of the serial transfer in progress (R143). -/
  xfer : Option Nat := none
  /-- Live 32-bit counter. -/
  cnt : Nat := 0
  /-- Fine timestamp of the last counting edge. -/
  edge : Nat := 0
  /-- Latched at the latest boundary (R139). -/
  pos : Nat := 0
  edgeL : Nat := 0
  /-- EDGE_HI capture. -/
  edgeHi : Nat := 0
  /-- Open window: boundaries passed, signed count, edges, both signs, and whether it is spoilt. -/
  wB : Nat := 0
  wNet : Int := 0
  wEdges : Nat := 0
  wFwd : Bool := false
  wRev : Bool := false
  wBad : Bool := false
  /-- Last closed window (R149). -/
  valid : Bool := false
  still : Bool := false
  low : Bool := false
  dirCh : Bool := false
  net : Int := 0
  rpm : Int := 0
  fault : Bool := false
  hallInv : Bool := false
  idxErr : Bool := false
  capOvr : Bool := false
  capNew : Bool := false
  capPos : Nat := 0
  capTs : Nat := 0
  errCnt : Nat := 0
  /-- Last valid hall step 0 to 5 (Table 6.2). -/
  hall : Option Nat := none
  /-- Fine timestamp of the last accepted hall step, the fine steps between the last two, and the sign of the last
  (R223). -/
  hallT : Nat := 0
  hallDt : Nat := 0
  hallFwd : Bool := true
  /-- Tick since which the hall state is invalid. -/
  invSince : Option Nat := none
  /-- An index edge has been seen; signed count and directions since (R147). -/
  idxSeen : Bool := false
  idxNet : Int := 0
  idxFwd : Bool := false
  idxRev : Bool := false
  /-- Raw position of the last good frame (R143). -/
  raw : Option Nat := none
  /-- Consecutive bad frames (R145). -/
  badRun : Nat := 0
  /-- Boundary count, plus one, at which each event of Table 6.11 was last raised. -/
  evs : Tab Nat := []
  deriving DecidableEq, Repr

/-- One resolver channel (R152 to R154, Table 6.9). -/
structure Rsv where
  en : Bool := false
  conv : Bool := false
  fault : Bool := false
  los : Bool := false
  dos : Bool := false
  trk : Bool := false
  exc : Bool := false
  /-- Consecutive excitation periods of each condition. -/
  nLos : Nat := 0
  nDos : Nat := 0
  nTrk : Nat := 0
  nExc : Nat := 0
  /-- Consecutive periods without any condition, and with the error below trk_thr. -/
  clean : Nat := 0
  nConv : Nat := 0
  /-- Position and speed of the tracking loop. -/
  pos : Nat := 0
  rpm : Int := 0
  /-- Latched at the latest boundary, and the tick, plus one, of one latched ahead of its CLAPPER_BOUNDARY. -/
  latched : Nat := 0
  posL : Nat := 0
  rpmL : Int := 0
  posLost : Bool := false
  amp : Nat := 0
  evs : Tab Nat := []
  deriving DecidableEq, Repr

/-- One compare output (R155, R156). -/
structure Cmp where
  en : Bool := false
  armed : Bool := false
  val : Nat := 0
  pin : Bool := false
  /-- End of a PULSE. -/
  pulseEnd : Option Nat := none
  evs : Tab Nat := []
  deriving DecidableEq, Repr

/-- Feedback: PFI channels, resolvers and compare outputs. -/
structure Fb where
  pfis : Tab Pfi := []
  rsvs : Tab Rsv := []
  cmps : Tab Cmp := []
  deriving DecidableEq, Repr

/-! ## Loop engine and profile generators (chapters 07 and 08) -/

/-- Context states (Table 7.1). -/
inductive CtxSt where | idle | active | stopped
  deriving DecidableEq, Repr

/-- What a completed run leaves until the boundary at which it takes effect (R174). -/
structure RunDone where
  /-- Completion tick. -/
  tick : Nat
  /-- Output slots the run has written. -/
  outs : Tab Nat
  /-- State words the run has written. -/
  words : Tab Nat
  sat : Bool
  deriving DecidableEq, Repr

/-- The run of a context for one boundary (R164 to R174). -/
structure Run where
  /-- B of boundary k, and its tick. -/
  k : Nat
  tick : Nat
  /-- B of boundary k + 1, the deadline. -/
  due : Nat
  /-- Values of the input slots, and the mask of invalid ones (R169). -/
  ins : List Nat := []
  inv : Nat := 0
  /-- Input slots whose AFE conversion has come (R168). -/
  got : List Nat := []
  released : Bool := false
  /-- Tick of its release. -/
  relAt : Nat := 0
  /-- Abandoned on an uncorrectable word (R199). -/
  abandoned : Bool := false
  done : Option RunDone := none
  deriving DecidableEq, Repr

/-- One loop context (R160 to R182, Table 7.2). -/
structure Ctx where
  st : CtxSt := .idle
  /-- Passed the lock check with en = 1; it starts with the clapper. -/
  armed : Bool := false
  sat : Bool := false
  inBad : Bool := false
  ovrRun : Nat := 0
  /-- Allocated to a program set (R211). -/
  alloc : Bool := false
  ovrCnt : Nat := 0
  slackMin : Nat := 0xFFFFFFFF
  tIn : Nat := 0
  wcOps : Nat := 0
  /-- The next run is the first since ACTIVE (Table 8.2). -/
  first : Bool := true
  run : Option Run := none
  /-- State words of the last complete run. -/
  words : List Nat := []
  /-- Value in force of each output slot. -/
  outs : Tab Nat := []
  /-- What each output binding last delivered, which CTX inputs read (R167, R175). -/
  vals : Tab Int := []
  /-- Deadline tick of the last overrun, plus one; 0 before the first (R193). -/
  ovrAt : Nat := 0
  /-- Value last delivered by each input slot. -/
  last : Tab Nat := []
  /-- HOST set-points written by SET_TARGET (R183). -/
  host : Tab Nat := []
  /-- Tick of the last EV98 and EV99, plus one. -/
  ev98 : Nat := 0
  ev99 : Nat := 0
  deriving DecidableEq, Repr

/-- A loaded program set (R210). -/
structure LSet where
  prog : List Nat := []
  /-- Start and length of each program in prog. -/
  ptab : List (Nat × Nat) := []
  consts : List Nat := []
  /-- Address of prog in program memory and of consts in data memory. -/
  progAt : Nat := 0
  constAt : Nat := 0
  deriving DecidableEq, Repr

/-- A context of a loop image. -/
structure ImgCtx where
  c : Nat
  en : Bool
  lane : Nat
  ovrMax : Nat
  n : Nat
  phase : Nat
  prog : Nat
  size : Nat
  /-- Initial state words. -/
  words : List Nat := []
  deriving DecidableEq, Repr

/-- A binding of a loop image, as the words of Table 7.4. -/
structure ImgBind where
  c : Nat
  out : Bool
  slot : Nat
  cfg : Nat
  scale : Nat
  val : Nat
  deriving DecidableEq, Repr

/-- One copy of a transfer list. -/
structure Xfer where
  old : Nat
  new : Nat
  count : Nat
  oldOfs : Nat
  newOfs : Nat
  deriving DecidableEq, Repr

/-- A parsed loop image (Tables 8.8 and 8.9). -/
structure Img where
  kind : Nat := 0
  set : Nat := 0
  per : Nat := 0
  phase : Nat := 0
  prog : List Nat := []
  ptab : List (Nat × Nat) := []
  consts : List Nat := []
  ctxs : List ImgCtx := []
  binds : List ImgBind := []
  xfers : List Xfer := []
  deriving DecidableEq, Repr

/-- A program-set swap that waits for its boundary (R191 to R193). -/
structure Swap where
  img : Img
  /-- Take handle of its TK2. -/
  take : Nat
  defers : Nat := 0
  deriving DecidableEq, Repr

/-- An exact motion: position, velocity and acceleration in the units of Machine/Profile.lean. -/
structure Kin where
  p : Int := 0
  v : Int := 0
  a : Int := 0
  deriving DecidableEq, Repr

/-- One profile generator (R185 to R190, Table 7.10). -/
structure Pgn where
  /-- Exact position, velocity and acceleration, which pos, vel and acc show (R186, R187). -/
  kin : Kin := {}
  /-- Passed the lock check with en = 1; it starts with the clapper. -/
  armed : Bool := false
  active : Bool := false
  /-- The start boundary has come. -/
  begun : Bool := false
  /-- Boundaries since the last update. -/
  cnt : Nat := 0
  pos : Nat := 0
  vel : Int := 0
  acc : Int := 0
  tgt : Nat := 0
  vMax : Nat := 4096
  aMax : Nat := 4096
  jMax : Nat := 4096
  /-- Target, v_max, a_max and j_max taken at the last update boundary (R185, R188). -/
  taken : Option (Nat × Nat × Nat × Nat) := none
  atTgt : Bool := false
  overLim : Bool := false
  overshoot : Bool := false
  deriving DecidableEq, Repr

/-- The loop engine. -/
structure Lpe where
  /-- Context and binding windows' registers by register key (Tables 7.2 and 7.4). -/
  win : Tab Word := []
  ctxs : Tab Ctx := []
  sets : Tab LSet := []
  /-- Per lane: the context whose run it turned to last, and the one that this run preempted (R176). -/
  lanes : Tab (Nat × Option Nat) := []
  /-- busy_pk per lane. -/
  busyPk : Tab Nat := []
  /-- LPE_IMG_CTL: busy, result and fail_ofs (Table 8.10). -/
  imgBusy : Bool := false
  imgResult : Nat := 0
  imgFail : Nat := 0
  swaps : List Swap := []
  /-- HOST-slot writes in the tick of a boundary before it: context, slot, value; they follow its input latch (R184). -/
  late : List (Nat × Nat × Nat) := []
  pgns : Tab Pgn := []
  deriving DecidableEq, Repr

/-! ## Commutation units and the gearbox sequencer (chapters 09 and 10) -/

/-- Unit states (Table 9.3). -/
inductive CmuSt where | off | armed | listen | brake | precharge | align | ramp | run | stopping | waitRetry | fault
  deriving DecidableEq, Repr

/-- The control loops of a commutation unit (R222, R230 to R233, R239 to R242): currents in 0.01 A, voltages in 1/32,768 of
V_b/√3, angles in 1/65,536 turn. -/
structure CmuLoop where
  /-- Current command in use (R240). -/
  cmd : Int := 0
  /-- The current last used, α and β (R242). -/
  iA : Int := 0
  iB : Int := 0
  /-- The vector that acts in the running period, and the one computed for the next. -/
  vA : Int := 0
  vB : Int := 0
  nA : Int := 0
  nB : Int := 0
  /-- Integrators: d axis, q axis, speed. -/
  d : Int := 0
  q : Int := 0
  w : Int := 0
  /-- q-axis voltage that a catch has preset for the first vector of RUN (R232). -/
  preset : Option Int := none
  /-- Angle measured at the end of LISTEN, and its tick (R230). -/
  ang : Nat := 0
  angAt : Nat := 0
  /-- Tick since which the unit reads speed 0 under load, or a back-EMF below half (R233). -/
  low : Option Nat := none
  deriving DecidableEq, Repr

/-- One commutation unit (R219 to R244, Table 9.10). -/
structure Cmu where
  st : CmuSt := .off
  /-- Failed the check at lock (R220). -/
  bad : Bool := false
  /-- Tick of the boundary at which the state was entered. -/
  since : Nat := 0
  /-- CMU_START and CMU_STOP that wait for a boundary: 1 start, 2 stop, with their ticks. -/
  req : List (Nat × Nat) := []
  /-- Command in force; none is the initial one of CMUu_CMD (R234). -/
  cmd : Option Int := none
  /-- The run ends to OFF, not to ARMED, because CMU_STOP ends it. -/
  toOff : Bool := false
  /-- "Forward" of this start is a positive speed (R225). -/
  fwd : Bool := true
  /-- Measured speed at the end of LISTEN, 0.25 rpm, and whether a catch follows. -/
  found : Int := 0
  catching : Bool := false
  /-- Speed target in use (R237), in rpm × 400,000,000. -/
  target : Int := 0
  vLim : Bool := false
  sLim : Bool := false
  iLim : Bool := false
  starved : Bool := false
  revSeen : Bool := false
  brakes : Nat := 0
  /-- Ticks of the stalls, newest first (R233). -/
  stalls : List Nat := []
  cause : Nat := 0
  outcome : Nat := 0
  skipRun : Nat := 0
  /-- Voltage limit in 1/65,536 of vmax (R243). -/
  vScale : Nat := 65536
  /-- Observed speed of a SENSORLESS unit, 0.25 rpm. -/
  obs : Int := 0
  loop : CmuLoop := {}
  /-- Tick of the last EV113 and EV114, plus one. -/
  ev113 : Nat := 0
  ev114 : Nat := 0
  deriving DecidableEq, Repr

/-- Shift states (Table 10.2). -/
inductive GbxSt where | idle | unload | disengage | sync | engage | reload | halt
  deriving DecidableEq, Repr

/-- A gearbox command that waits for the next step: opcode, SQ, tick and parameters. -/
structure GbxCmd where
  op : Nat
  sq : Nat
  tick : Nat
  p : List Nat
  deriving DecidableEq, Repr

/-- One actuator of the gearbox (R248). -/
structure Act where
  /-- Count of the origin (R249). -/
  origin : Nat := 0
  /-- Detent it is to be at: 0 N, 1 A, 2 B. -/
  want : Option Nat := none
  /-- The detents it is at. -/
  at' : List Nat := []
  /-- The detents within tol, each with the tick since which it is. -/
  near : Tab Nat := []
  deriving DecidableEq, Repr

/-- The gearbox sequencer (R247 to R259, Table 10.3). -/
structure Gbx where
  /-- Passed the lock check with en = 1. -/
  armed : Bool := false
  run : Bool := false
  /-- Tick of the next millisecond step (R250). -/
  next : Nat := 0
  st : GbxSt := .idle
  /-- GEAR_REF has been accepted (R249). -/
  ref : Bool := false
  /-- Gear as GBX_STAT codes it, but NOREF. -/
  gear : Nat := 7
  park : Nat := 3
  pto : Nat := 3
  outcome : Nat := 0
  acts : Tab Act := []
  /-- Target gear and old gear of the sequence. -/
  tgt : Nat := 0
  old : Nat := 0
  /-- Moving forks by number. -/
  movers : List Nat := []
  /-- Deadline of the stage and its start. -/
  dl : Nat := 0
  start : Nat := 0
  retries : Nat := 0
  /-- SYNC runs with the old gear's ratio after a first timeout. -/
  reverted : Bool := false
  /-- Forks go to N for a retry, or to end the sequence after GEAR_STOP. -/
  nudge : Bool := false
  toN : Bool := false
  factor : Nat := 0
  sync : Nat := 0x8000
  /-- FACTOR as the ramp of UNLOAD or RELOAD found it. -/
  f0 : Nat := 0
  /-- Park engage: FACTOR ramps to 0 before GX2 moves; its start tick and the FACTOR it found. -/
  parkRamp : Option (Nat × Nat) := none
  /-- Slots are to be rewritten at the next step (R259). -/
  rewrite : Bool := false
  cmds : List GbxCmd := []
  deriving DecidableEq, Repr

/-! ## Section engine, cue memory and valve drivers (chapters 11 and 12) -/

/-- One odometer (R260 to R263). -/
structure Odo where
  /-- Source position at the last update; none before the origin is set. -/
  last : Option Nat := none
  /-- The source has been seen stopped: its next position sets a new origin (R263). -/
  stopped : Bool := false
  /-- D_o without and with the fraction, in 1/256 count; registers show it modulo 2^40. -/
  base : Int := 0
  d : Int := 0
  /-- D_o at the update before. -/
  was : Int := 0
  /-- Signed fraction in 1/256 count. -/
  frac : Int := 0
  /-- The latest edge record as (pos, e in ticks); whether there are two; and the record speed. -/
  prv : Option (Nat × Nat) := none
  two : Bool := false
  vRec : Int := 0
  v : Int := 0
  fault : Bool := false
  deriving DecidableEq, Repr

/-- One pending cue (Table 12.1). -/
structure Cue where
  /-- 40-bit position. -/
  pos : Nat
  action : Nat
  catchUp : Bool
  bidir : Bool
  arg : Nat
  /-- Number of the boundary at which its append took effect (R299). -/
  join : Nat
  deriving DecidableEq, Repr

/-- One section with its cue sheet (R265 to R276, R294 to R308). -/
structure Sec where
  /-- D_s in 2^-20 count (R265); registers show it modulo 2^32 counts. -/
  d : Int := 0
  v : Int := 0
  r : Nat := 4096
  clamped : Bool := false
  rev : Bool := false
  gate : Bool := false
  /-- Base value; none is that of SEC_BASE at lock. -/
  base : Option Nat := none
  /-- Output in force: out_on and o_s. -/
  on : Bool := false
  out : Nat := 0
  /-- r_s in force (R278). -/
  rOut : Nat := 4096
  cues : List Cue := []
  /-- Entries taken from the pool (R296, R298, R305). -/
  used : Nat := 0
  /-- Head cue armed; head cue judged behind in REV and waiting for a change of direction (R304). -/
  armed : Bool := false
  waits : Bool := false
  /-- Actions decided in the last update: 5 closes the gate on entering REV; arg and position. -/
  acts : List (Nat × Nat × Nat) := []
  /-- Entries removed in the last update, returned at the next boundary (R305). -/
  gone : Nat := 0
  /-- The sheet is lost and flushed with CLOSE at the next boundary (R307). -/
  lost : Bool := false
  passCnt : Nat := 0
  lateCnt : Nat := 0
  hzn : Int := 0
  lwLow : Bool := false
  cons : Nat := 0
  /-- Boundary count of the last EV131, EV132 and EV146, plus one; tick of the last EV151, plus one. -/
  ev131 : Nat := 0
  ev132 : Nat := 0
  ev146 : Nat := 0
  ev151 : Nat := 0
  deriving DecidableEq, Repr

/-- A frame queued for a remote node (Table 11.7). -/
structure RnFrame where
  seq : Nat
  /-- Apply time, and the tick of queueing. -/
  apply : Nat
  since : Nat
  bytes : List Nat
  deriving DecidableEq, Repr

/-- One remote node (R280 to R283, Table 11.6). -/
structure Rn where
  seq : Nat := 0
  lateCnt : Nat := 0
  mergeCnt : Nat := 0
  /-- Unsent frames, oldest first. -/
  queue : List RnFrame := []
  /-- Tick of the next refresh multiple, and of the last action frame's boundary. -/
  next : Nat := 0
  lastQ : Option Nat := none
  deriving DecidableEq, Repr

/-- Sync frames of one controller (R285). -/
structure SyncCan where
  seq : Nat := 0
  prevSof : Nat := 0
  /-- Queued frame, as bytes, and the tick at which it was queued. -/
  frame : Option (List Nat) := none
  since : Nat := 0
  deriving DecidableEq, Repr

/-- What one update reads and writes. -/
structure SxeCore where
  odos : Tab Odo := []
  secs : Tab Sec := []
  /-- v_ref of each axle reference. -/
  vref : Tab Int := []
  /-- Section with which the next cue pass begins (R270). -/
  rot : Nat := 0
  /-- shared_free lies below pool_lw and EV129 has been raised (R309). -/
  poolLow : Bool := false
  deriving DecidableEq, Repr

/-- The section engine. -/
structure Sxe where
  /-- Passed the lock check with en = 1. -/
  armed : Bool := false
  /-- PD_IMPL runs again; SXE restarts at the first boundary after this tick (R293). -/
  restart : Option Nat := none
  running : Bool := false
  startTick : Nat := 0
  ovrCnt : Nat := 0
  core : SxeCore := {}
  /-- The core before the update in progress, to which an overrun returns (R275). -/
  prev : SxeCore := {}
  /-- The update of the latest boundary has been abandoned (R275). -/
  overrun : Bool := false
  /-- The first update has run. -/
  updated : Bool := false
  rns : Tab Rn := []
  syncs : Tab SyncCan := []
  syncNext : Nat := 0
  /-- dist, frac and spd of the four odometers as captured by the last read of ODO0_DIST. -/
  snap : List (Nat × Nat × Int) := []
  deriving DecidableEq, Repr

/-- Valve driver states (Table 11.9). -/
inductive VlvSt where | ok | short | failed
  deriving DecidableEq, Repr

/-- One valve driver (R287 to R292). -/
structure Vlv where
  st : VlvSt := .ok
  /-- The channel follows MOD again from its next on-part (R288). -/
  resume : Bool := false
  opn : Bool := false
  openRun : Nat := 0
  iMa : Nat := 0
  /-- End of the retry time. -/
  dl : Nat := 0
  /-- A short has occurred; retries since the first of a run; time conducted since the last, in fine steps. -/
  shorted : Bool := false
  retries : Nat := 0
  conduct : Nat := 0
  /-- Integrator in mA / 256 and target of VLV_SET in mA (R292). -/
  integ : Int := 0
  target : Nat := 0
  ev152 : Nat := 0
  deriving DecidableEq, Repr

/-! ## Implement power rails and their command links (chapter 13) -/

/-- Rail states, coded in RGCr_STAT.state in this order (Table 13.2). -/
inductive RailSt where | off | ready | softstart | run | burst | hiccup | latched
  deriving DecidableEq, Repr

/-- One phase of a rail (R311 to R328). -/
structure Phase where
  retired : Bool := false
  /-- 0 NONE, 1 OPEN, 2 SENSE_HIGH, 3 HOST. -/
  retCause : Nat := 0
  fltRun : Nat := 0
  /-- Condition that flt_run counts: 1 OPEN, 2 SENSE_HIGH. -/
  fltKind : Nat := 0
  /-- How the running period's high command has ended: 0 not by the comparator, 1 min-terminated, 2 regulated. -/
  ended : Nat := 0
  /-- How the last complete period ended, coded the same way; 0 is max-duty. -/
  lastEnd : Nat := 0
  /-- Mean currents of the last periods in 0.1 A, newest first. -/
  ih : List Int := []
  deriving DecidableEq, Repr

/-- Command link states (Table 13.9). -/
inductive LinkSt where | down | up | hold
  deriving DecidableEq, Repr

/-- One rail with its link (Tables 13.2 and 13.9). -/
structure Rail where
  /-- Passed the check at lock with en = 1. -/
  armed : Bool := false
  st : RailSt := .off
  cause : Nat := 0
  /-- Cause of the LATCHED state that the next boundary brings; 0 for none. -/
  doom : Nat := 0
  /-- The rail stops as by RAIL_STOP at the next boundary. -/
  stop : Bool := false
  /-- The rail enters READY with cause LINK at the next boundary (R338). -/
  drop : Bool := false
  /-- BURST ends at the next boundary (Table 13.4). -/
  leave : Bool := false
  /-- Tick of the boundary at which the state was entered. -/
  since : Nat := 0
  hicCnt : Nat := 0
  /-- Tick since which the rail is in RUN or BURST without a short (R323). -/
  calm : Nat := 0
  vTgt : Nat := 0
  /-- Requested slew limited to slew_max, in V/ms. -/
  slew : Nat := 0
  /-- v_cmd of R321 in 0.1 V / 400,000, and the tick of its last update. -/
  vCmd : Nat := 0
  vTick : Nat := 0
  /-- v_avg at the entry to SOFTSTART, and the end of the ramp. -/
  ramp0 : Nat := 0
  rampEnd : Nat := 0
  /-- Consecutive limit cycles (R322) and consecutive periods of burst entry (Table 13.4). -/
  limRun : Nat := 0
  bRun : Nat := 0
  /-- Ticks at which the two counts reached lim_cyc and b_cyc. -/
  limAt : Nat := 0
  bAt : Nat := 0
  /-- BURST: the packet runs, and since when. -/
  awake : Bool := false
  packet : Nat := 0
  /-- Open transition: seq and deadline (R337). -/
  trans : Option (Nat × Nat) := none
  /-- Tick since which v_cmd = v_tgt with v_avg inside the band of v_tgt. -/
  okSince : Option Nat := none
  /-- Ticks since which v_avg stays outside and inside the band of v_cmd (R329). -/
  outSince : Option Nat := none
  inSince : Option Nat := none
  oob : Bool := false
  /-- (v, i) per period, newest first (R332). -/
  hist : List (Nat × Int) := []
  vPk : Nat := 0
  vLo : Nat := 0xFFFF
  iPk : Nat := 0
  /-- Compensation slope in A/µs / (2,560 × l_uh) (R316). -/
  slope : Nat := 0
  phases : Tab Phase := []
  /-- Peak-current reference in force per phase in 0.1 A, 15 for every fitted phase (R315). -/
  refs : Tab Int := []
  link : LinkSt := .down
  lastSeq : Nat := 0
  /-- Watchdog deadline D (R338). -/
  dl : Nat := 0
  badCnt : Nat := 0
  rejCnt : Nat := 0
  /-- Tick of the last EV170, plus one. -/
  ev170 : Nat := 0
  /-- Accepted VCL commands that wait for a boundary: frame-end tick, ON, voltage, slew. -/
  cmds : List (Nat × Bool × Nat × Nat) := []
  statCnt : Nat := 0
  statNext : Nat := 0
  /-- Frames sent on the transmit pair, newest first. -/
  sent : List (List Nat) := []
  deriving DecidableEq, Repr

/-! ## On-board charger, power path, DC link and precedence (chapters 14 and 15) -/

/-- Power-path states, coded in PPM_STAT.path in this order (Table 14.2). -/
inductive PathSt where | opn | precharge | battery | sourceFed | handover | dcCharge | shutdown | fault
  deriving DecidableEq, Repr

/-- Session states, coded in CHG_STAT.state in this order (Table 14.9). -/
inductive SesSt where | idle | qualify | start | cc | cv | paused | ending | supply | fed
  deriving DecidableEq, Repr

/-- What PPM is doing inside a path state. -/
inductive PathStep where
  | rest
  /-- PRECHARGE: MN closes; equalise; MP closes; PC opens (Table 14.3). -/
  | pcMn | pcEq | pcMp | pcPc
  /-- HANDOVER: equalise; MP closes; PC opens (R350). -/
  | hoEq | hoMp | hoPc
  /-- BATTERY to OPEN: MP opens before MN (R347). -/
  | opMp
  /-- BATTERY to DC_CHARGE: DN closes; the port equalises (R348). -/
  | dcDn | dcEq
  /-- DC_CHARGE to BATTERY: the current falls (R348). -/
  | dcOut
  deriving DecidableEq, Repr

/-- A PATH_SET that waits for the next PPM step. -/
structure PathCmd where
  sq : Nat
  tick : Nat
  op : Nat
  vFed : Nat
  deriving DecidableEq, Repr

/-- The record of the latest session (R354 to R364, Table 14.9). -/
structure Session where
  st : SesSt := .idle
  /-- 0 none, 1 CHARGE, 2 SOURCE_FED, 3 RSUP_AC, 4 RSUP_DC. -/
  kind : Nat := 0
  cause : Nat := 0
  intr : Nat := 0
  /-- Energy in 0.1 V × 0.1 A × ticks. -/
  energy : Int := 0
  /-- Ticks with thermal set. -/
  thermT : Nat := 0
  startT : Nat := 0
  endT : Option Nat := none
  iCc : Nat := 0
  vCv : Nat := 0
  allow : Nat := 0
  thermal : Bool := false
  /-- Safety deadline (R357). -/
  safeDl : Nat := 0
  /-- Entry of the present state. -/
  since : Nat := 0
  /-- Start of the dwell (R356). -/
  dwell : Option Nat := none
  /-- RSUP: kind 0 AC3, 1 AC1, 2 DC; frequency or v_rdc; i_rdc. -/
  rk : Nat := 0
  rv : Nat := 0
  ri : Nat := 0
  deriving DecidableEq, Repr

/-- The power-path manager and the charger (Tables 14.2 to 14.9). -/
structure Ppm where
  armed : Bool := false
  obcArmed : Bool := false
  run : Bool := false
  /-- Tick of the next step, and of the step before. -/
  next : Nat := 0
  last : Nat := 0
  path : PathSt := .opn
  doing : PathStep := .rest
  /-- Deadline of what PPM is doing, and whether equalise has shed load (R352). -/
  dl : Nat := 0
  shed : Bool := false
  /-- The hand-over was started by PATH_SET BATTERY, not by a lost source. -/
  byHost : Bool := false
  /-- Contactor checks in progress: contactor, closing, deadline (R344). -/
  chks : List (Nat × Bool × Nat) := []
  /-- Feedback inputs that read closed, as a mask. -/
  fb : Nat := 0
  cmds : List PathCmd := []
  vFed : Nat := 0
  qualified : Bool := false
  acKind : Nat := 0
  f60 : Bool := false
  /-- Lowest inlet rms in 0.1 V. -/
  vAc : Nat := 0
  /-- Kind whose limits of Table 14.4 hold, with 60 Hz, and the step since which they do so without a break (R353). -/
  srcKind : Nat := 0
  srcF60 : Bool := false
  srcSince : Option Nat := none
  /-- Step since which a limit of the qualified kind is broken (R353). -/
  srcBad : Option Nat := none
  /-- Tick since which every inlet voltage is below 30 V. -/
  quiet : Option Nat := none
  /-- Steps since which a reverse supply stays below 85 % in its current limit (R362), and an inlet voltage is not the
  own output (R364). -/
  lowSince : Option Nat := none
  alienSince : Option Nat := none
  ses : Session := {}
  followCnt : Nat := 0
  blocked : Bool := false
  /-- The last charge ended with THERMAL_TIMEOUT and the plug has not been removed since (R359). -/
  heat : Bool := false
  /-- The inhibit factor is 0. -/
  inhibit : Bool := false
  deriving DecidableEq, Repr

/-- What PD_AON holds of chapter 14: contactor latches, plug signals and the service button. -/
structure Aon where
  /-- Contactor outputs that are on, ascending (R343). -/
  drive : List Nat := []
  pxAc : Bool := false
  pxDc : Bool := false
  latch : Bool := false
  /-- Tick since which CHG_PX_AC is absent. -/
  acGone : Nat := 0
  /-- Tick since which CHG_PX_AC is present. -/
  acHere : Nat := 0
  /-- Start of the present press (R366). -/
  press : Option Nat := none
  /-- The press has acted as long (R367). -/
  long : Bool := false
  /-- Tick of the full system reset after a long press; tick at which storage entry removes the domains. -/
  resetAt : Option Nat := none
  storeAt : Option Nat := none
  /-- Wake cause to be reported by EV186. -/
  woken : Option WakeCause := none
  /-- Controllers that were enabled for wake when storage mode was entered (R369, R524). -/
  wakeCans : List Nat := []
  deriving DecidableEq, Repr

/-- DC link management (Table 15.4). -/
structure Dcl where
  armed : Bool := false
  run : Bool := false
  /-- i_regen_max and i_span of the last DCL_LIMIT; none is the register's. -/
  iReg : Option (Nat × Nat) := none
  /-- factor; 32,767 before the first update. -/
  factor : Nat := 32767
  /-- Offsets of the two rails in 0.1 V / 400,000. -/
  ofsA : Nat := 0
  ofsB : Nat := 0
  tick : Nat := 0
  stage : Nat := 0
  chopFlt : Bool := false
  /-- Tick since which a BK leg is always on without current (R376). -/
  noCur : Option Nat := none
  deriving DecidableEq, Repr

/-- PREC_STAT (Table 15.4). -/
structure Prec where
  forcing : Nat := 0
  mask : Nat := 0
  cause : Nat := 0
  cnt : Nat := 0
  /-- Causes that hold, with their objects (R374). -/
  on : List (Nat × Nat) := []
  deriving DecidableEq, Repr

/-! ## Thermal estimation (chapter 16) and analogue inputs (chapters 03, 07 and 26) -/

/-- One thermal estimate (R389 to R399). -/
structure Est where
  /-- Failed its check at lock. -/
  bad : Bool := false
  /-- ΔT_1 to ΔT_4 and T_j in 1/1,024 K; T_j in 1/1,024 °C. -/
  nodes : List Int := [0, 0, 0, 0]
  tj : Int := 0
  /-- Energy added since the last update, in 10^-18 J. -/
  energy : Nat := 0
  /-- Tick of the last update, and of the next millisecond instant. -/
  last : Nat := 0
  next : Nat := 0
  fast : Bool := false
  warned : Bool := false
  sd : Bool := false
  /-- P of the last update in W. -/
  pW : Nat := 0
  /-- Factor of R397. -/
  factor : Nat := 32767
  deriving DecidableEq, Repr

/-- The readings of a temperature sensor (R395). -/
structure Sns where
  /-- Readings in a row below −50 °C or above 175 °C, up to 10. -/
  bad : Nat := 0
  /-- Tick since which every reading is within that range. -/
  okSince : Option Nat := none
  deriving DecidableEq, Repr

/-- The thermal estimator. -/
structure Thm where
  run : Bool := false
  ests : Tab Est := []
  /-- Sensors in fault, and the readings of each (R395). -/
  flt : List Nat := []
  sns : Tab Sns := []
  /-- Tick of the latest reading of the dies (R401). -/
  dieAt : Nat := 0
  /-- Die temperatures in 0.1 °C: VLV and control die. -/
  dieV : Int := 250
  dieC : Int := 250
  vlvHot : Bool := false
  ctlHot : Bool := false
  /-- Channels whose factor is below 32,767 (EV17). -/
  derated : List Nat := []
  deriving DecidableEq, Repr

/-- The latest conversion of an analogue input. -/
structure AfeIn where
  /-- Signed 14-bit code. -/
  code : Int := 0
  /-- Aperture, as a fine timestamp. -/
  aperture : Nat := 0
  deriving DecidableEq, Repr

/-- A conversion that a trigger line has started (R168). -/
structure Conv where
  input : Nat
  line : Nat
  /-- Trigger instant as a fine timestamp, and the tick at which the result is ready. -/
  trig : Nat
  ready : Nat
  deriving DecidableEq, Repr

/-- The analogue front end (R68, R87, R168, R586, R587). -/
structure Afe where
  ins : Tab AfeIn := []
  convs : List Conv := []
  /-- Next input of each converter that scans, 0 to 3, and the tick before which its result is not ready. -/
  scan : Tab Nat := []
  scanNext : Tab Nat := []
  deriving DecidableEq, Repr

/-! ## Safety functions and the Baronold layer (chapters 17 and 18) -/

/-- One safe input as one channel sees it (R410 to R413). -/
structure SafeIn where
  /-- Filtered levels of lines A and B. -/
  a : Bool := false
  b : Bool := false
  /-- Tick since which the lines disagree. -/
  dis : Option Nat := none
  /-- 0 none, 1 DISC, 2 TEST_PULSE. -/
  fault : Nat := 0
  /-- Since the fault both lines have shown the demand together; tick at which the first has released since. -/
  both : Bool := false
  first : Option Nat := none
  /-- Tick since which the input is released. -/
  rel : Option Nat := none
  deriving DecidableEq, Repr

/-- SS1 of one traction group in one channel (R417 to R420). -/
structure Ss1 where
  /-- 0 IDLE, 1 RUNNING, 2 ENDED, 3 SHORTFALL. -/
  st : Nat := 0
  start : Nat := 0
  /-- c0 in edges, or n0 in 0.25 rpm. -/
  v0 : Nat := 0
  deriving DecidableEq, Repr

/-- One safety channel, SHL or SFP (R405 to R430). -/
structure SafeCh where
  /-- Its self-tests have passed. -/
  tested : Bool := false
  /-- SAFE_FAULT and its cause. -/
  fault : Bool := false
  cause : Nat := 0
  /-- The STO_REQ pin that the channel reads is low after its filter. -/
  pin : Bool := false
  ins : Tab SafeIn := []
  ss1 : Tab Ss1 := []
  /-- STO groups that wait for a reset, with the item whose MANUAL restart asks for it: 0–15 an input, 16
  STO_REQ, 32 + c a connection. -/
  waits : List (Nat × Nat) := []
  /-- Demands of its own, and its demands with those of R408; bit 0 TA to bit 5 GX. -/
  own : Nat := 0x3F
  dem : Nat := 0x3F
  /-- Test-pulse outputs that have completed a pulse. -/
  tps : List Nat := []
  /-- Tick of the last state word from the other channel, and the demands it showed. -/
  word : Option Nat := none
  seen : Nat := 0x3F
  deriving DecidableEq, Repr

/-- One safety configuration bank in NOR (R428). -/
structure SafeBank where
  safe : List Nat := []
  bsl : List Nat := []
  /-- Digest of R429. -/
  dig : List Nat := []
  confirmed : Bool := false
  deriving DecidableEq, Repr

/-- A received safety frame that waits for the next SFP cycle: start-of-frame tick, completion tick, bytes,
and whether its length, SDT and VCID are right (R439, R442). -/
structure SafeFrame where
  sof : Nat
  fin : Nat
  bytes : List Nat
  good : Bool
  deriving DecidableEq, Repr

/-- Connection states (Table 18.3). -/
inductive ConnSt where | closed | opening | opn | fault
  deriving DecidableEq, Repr

/-- One Baronold connection (R439 to R449, Table 18.5). -/
structure Conn where
  st : ConnSt := .closed
  cause : Nat := 0
  data : Nat := 0
  crcCnt : Nat := 0
  repCnt : Nat := 0
  staleCnt : Nat := 0
  fltCnt : Nat := 0
  last : Nat := 0
  cseq : Nat := 0
  /-- Watchdog deadline D (R444). -/
  dl : Nat := 0
  /-- Tick of the last entry to FAULT. -/
  fltT : Nat := 0
  /-- The START frame of this opening has been accepted; frames accepted by R444 since. -/
  begun : Bool := false
  run : Nat := 0
  /-- Sent frames that an echo may name: sequence number and start-of-frame tick once sent. -/
  named : List (Nat × Option Nat) := []
  /-- Ticks of bad frames within the last second (R446). -/
  bads : List Nat := []
  /-- Tick of the last EV217, plus one. -/
  ev217 : Nat := 0
  /-- OUT: seq of the last DATA frame, cseq of the latest good ACK, and tick of the next DATA frame. -/
  seq : Nat := 0
  echo : Nat := 0
  next : Nat := 0
  rx : List SafeFrame := []
  /-- Frames queued for the bus, oldest first, and the ticks at which they were queued. -/
  tx : List (List Nat) := []
  txAt : List Nat := []
  deriving DecidableEq, Repr

/-- One traction group's tap and speed check (R158, R418, R423). -/
structure Tap where
  cnt : Nat := 0
  /-- Count of the last closed window. -/
  last : Nat := 0
  next : Nat := 0
  /-- Consecutive failures of the plausibility check, whether it demands STO, and since when it passes. -/
  fails : Nat := 0
  bad : Bool := false
  passT : Option Nat := none
  deriving DecidableEq, Repr

/-- Safety. -/
structure Saf where
  /-- Banks 0 and 1 in NOR, the bank in use, and a loaded bank that waits for its activation. -/
  banks : Tab SafeBank := []
  cur : Nat := 0
  loaded : Bool := false
  /-- The configuration in force; none while none is active, with the cause. -/
  cfg : Option SafeBank := none
  cfgCause : Nat := 0
  shl : SafeCh := {}
  sfp : SafeCh := {}
  /-- STO groups in STO as last reported (EV13), and those whose supply-enable lines are open. -/
  sto : Nat := 0x3F
  opened : Nat := 0x3F
  /-- Ticks at which lines are to open and at which rails are read back, by STO group. -/
  openAt : Tab Nat := []
  readAt : Tab Nat := []
  taps : Tab Tap := []
  /-- Tick of the next SFP cycle, tick of the latest, cycles since start. -/
  next : Nat := 0
  cycAt : Nat := 0
  cycles : Nat := 0
  /-- Consecutive mismatches per field: 0 lines, 1 faults, 2 STO, 3 SS1; consecutive matches. -/
  mis : Tab Nat := []
  match3 : Nat := 0
  misCnt : Nat := 0
  /-- STO_REQ: since when the pins differ, the latched disagreement, and when each pin last went high. -/
  reqDis : Option Nat := none
  reqLatch : Bool := false
  reqHi : List Nat := [0, 0]
  conns : Tab Conn := []
  /-- STO of every group held by an opening of debug access until the next power-on (R550). -/
  dbg : Bool := false
  deriving DecidableEq, Repr

/-! ## Host interface (chapter 19) -/

/-- Completion status codes (Table 19.7). -/
inductive Status where
  | ok | busy | refused | tripPersists | unknownOp | badDesc | notLocked | domainOff | dmaError
  | timedOut | cancelled | failed | aborted | acked
  deriving DecidableEq, Repr

/-- Code of a status (Table 19.7). -/
def Status.code : Status → Nat
  | .ok => 0
  | .busy => 1
  | .refused => 2
  | .tripPersists => 3
  | .unknownOp => 4
  | .badDesc => 5
  | .notLocked => 6
  | .domainOff => 7
  | .dmaError => 8
  | .timedOut => 9
  | .cancelled => 10
  | .failed => 11
  | .aborted => 12
  | .acked => 13

/-- Ring states (Table 19.14). -/
inductive RingSt where | absent | active | error
  deriving DecidableEq, Repr

/-- One ring: SQ 0–31, CQ 32–63, EVQ 64, DLY 65 (R457 to R462, Table 19.14). -/
structure Ring where
  st : RingSt := .absent
  /-- log2 of the size. -/
  lg : Nat := 0
  /-- SQ priority URGENT. -/
  urgent : Bool := false
  /-- Bound CQ number of an SQ. -/
  bound : Nat := 0
  /-- Base address of the ring's memory. -/
  base : Nat := 0
  head : Nat := 0
  tail : Nat := 0
  /-- Phase bit of the present pass (R459). -/
  phase : Bool := true
  /-- MSI-X vector. -/
  vec : Nat := 0
  aggCnt : Nat := 1
  aggUs : Nat := 0
  /-- Unsignalled entries (R473). -/
  unsig : Nat := 0
  /-- Tick of the write of the oldest unsignalled entry (R473). -/
  oldest : Nat := 0
  /-- Completion entries of a CQ reserved for fetched descriptors (R460). -/
  reserved : Nat := 0
  /-- seq of the next EVQ or DLY record (R461). -/
  seq : Nat := 0
  /-- Records dropped since the last written one (R461). -/
  lost : Nat := 0
  deriving DecidableEq, Repr

/-- What was decided for a command (R467). -/
structure Decision where
  status : Status
  result : Nat
  /-- done_time. -/
  done : Nat
  deriving DecidableEq, Repr

/-- A command that HIF has received and whose completion has not been written (R463 to R471). -/
structure Flight where
  sq : Nat
  cmdId : Nat
  /-- Opcode of Table 19.6. -/
  op : Nat
  irq : Bool
  /-- The command's tick (R465). -/
  fetch : Nat
  /-- SQ head after the fetch (Table 19.4). -/
  sqHead : Nat
  /-- Fetched from a ring: its completion entry is reserved (R460). -/
  fromRing : Bool
  dec : Option Decision
  deriving DecidableEq, Repr

/-- What HIF writes upstream, in order (Tables 19.4, 19.8, 19.10, R473, R484). -/
inductive HostMsg where
  /-- A completion written to a CQ slot. -/
  | cpl (cq slot : Nat) (phase : Bool) (f : Flight) (d : Decision)
  /-- An event record written to the EVQ. -/
  | event (slot : Nat) (phase lost : Bool) (seq event time : Nat) (payload : List Nat)
  /-- A dailies record written to the DLY: number of items in use, header items and the 48 captured values. -/
  | dailies (slot : Nat) (phase lost : Bool) (n seq time clap : Nat) (core safety sto : Nat)
      (groups : List Nat) (eccCorr events : Nat) (items : List Nat)
  /-- An MSI-X message. -/
  | msix (vec : Nat)
  /-- A take's result: address, header fields (take, status, cause, step, start, end, full length)
  and the data written. -/
  | result (addr take status cause step start fin full : Nat) (data : List Nat)
  deriving DecidableEq, Repr

/-- Take states (Table 19.11). -/
inductive TakeSt where | free | running | suspending | suspended | cancelling | ended
  deriving DecidableEq, Repr

/-- One take handle (R480 to R487, Table 19.15). -/
structure Take where
  st : TakeSt := .free
  /-- Take number 1 to 12, or 0. -/
  no : Nat := 0
  status : Status := .ok
  /-- Cause code of Table 19.15. -/
  cause : Nat := 0
  /-- Last suspend point reached. -/
  step : Nat := 0
  /-- Units done. -/
  prog : Nat := 0
  cmdId : Nat := 0
  /-- Submission ring of the TAKE_START. -/
  sq : Nat := 0
  start : Nat := 0
  deadline : Nat := 0
  resAddr : Nat := 0
  resLen : Nat := 0
  /-- Parameter words p4 to p7. -/
  par : List Nat := []
  /-- Input bytes. -/
  input : List Nat := []
  /-- The commit point has been passed (Table 19.12). -/
  committed : Bool := false
  /-- Result data bytes completed so far (R485). -/
  data : List Nat := []
  /-- The TAKE_SUSPEND or TAKE_CANCEL that waits: its SQ and tick (Table 19.11). -/
  waiting : Option (Nat × Nat) := none
  /-- Status with which the take will end. -/
  endStatus : Status := .ok
  /-- Units that are still to do, in order: what a unit is depends on the take. -/
  todo : List Nat := []
  /-- A suspending take has reached a suspend point. -/
  atPoint : Bool := false
  /-- Memories of TK11 that a wipe has scrubbed already (R572). -/
  skip : List Nat := []
  /-- TK2: deferrals and the tick of the swap boundary; TK5: 1 while a bridge of its own is diagnosed. -/
  aux : List Nat := []
  /-- A reset of PD_HOST has met the take past its commit point: no register shows it and no result is written
  (R489). -/
  lost : Bool := false
  deriving DecidableEq, Repr

/-- Command effects that wait for a boundary (R467, R470). -/
inductive BoundaryAct where
  /-- CTX_START of a context (R163, R182). -/
  | ctxStart (c : Nat)
  /-- CTX_STOP of a context (R182). -/
  | ctxStop (c : Nat)
  /-- SET_TARGET of a HOST set-point slot (R184). -/
  | setSlot (c slot : Nat) (v : Nat)
  /-- SET_TARGET of a profile generator (R184, R186). -/
  | setPgn (u : Nat) (v : Int)
  /-- PGN_LIMITS (R188). -/
  | pgnLimits (u vmax amax jmax : Nat)
  /-- VALVE_SET's gate (R76). -/
  | valveGate (m : Nat) (opn : Bool)
  /-- VALVE_PERIOD (R79). -/
  | valvePeriod (m T : Nat)
  /-- SEC_BASE (R279). -/
  | secBase (first count : Nat) (v : Nat)
  /-- SEC_GATE (R279). -/
  | secGate (first count : Nat) (opn : Bool)
  /-- CUE_APPEND (R299). -/
  | cueAppend (sec : Nat) (cues : List Nat)
  /-- CUE_FLUSH (R306). -/
  | cueFlush (first count : Nat) (close : Bool)
  /-- CMU_SET (R234). -/
  | cmuSet (u : Nat) (v : Int)
  /-- RAIL_START (Table 13.2). -/
  | railStart (r : Nat)
  /-- RAIL_STOP (Table 13.2). -/
  | railStop (r : Nat)
  /-- RAIL_SET (R320): ON, voltage, slew. -/
  | railSet (r : Nat) (on : Bool) (v slew : Nat)
  /-- DCL_LIMIT (R377). -/
  | dclLimit (imax span : Nat)
  /-- DOMAIN_RESET: its steps 2 and 3 (R563). -/
  | domReset (d : Nat)
  deriving DecidableEq, Repr

/-- One waiting command effect: the command and what it does at its boundary. -/
structure PendAct where
  sq : Nat
  op : Nat
  /-- The command's tick. -/
  tick : Nat
  act : BoundaryAct
  /-- The command has been completed already; only its later effect waits. -/
  decided : Bool := false
  deriving DecidableEq, Repr

/-- The host interface (Table 19.9, R455 to R490). -/
structure Hif where
  /-- HIF_ADM_SQ base, 64 bits. -/
  sqBase : Nat := 0
  /-- HIF_ADM_CQ base, 64 bits. -/
  cqBase : Nat := 0
  admEn : Bool := false
  admRdy : Bool := false
  admErr : Bool := false
  sqLg : Nat := 4
  cqLg : Nat := 4
  admVec : Nat := 0
  /-- PCIe link up (Table 19.9). -/
  link : Bool := false
  rings : Tab Ring := []
  flights : List Flight := []
  pend : List PendAct := []
  /-- SQ last served per level: NORMAL, URGENT (R468). -/
  lastNormal : Nat := 31
  lastUrgent : Nat := 31
  /-- Tick of the last descriptor fetch, plus one (R465). -/
  lastFetch : Nat := 0
  /-- MSI-X vectors the host has unmasked. -/
  unmasked : List Nat := []
  /-- MSI-X vectors whose pending bit is set (R473). -/
  pendingVec : List Nat := []
  /-- Everything written upstream, newest first. -/
  sent : List HostMsg := []
  takes : Tab Take := []
  /-- Tick of the next dailies record's interval multiple; 0 before the block starts (R476). -/
  dlyNext : Nat := 0
  /-- Dailies are enabled and their items passed the check at lock (R477). -/
  dlyOn : Bool := false
  /-- PD_HOST has been reset and rdy has not been 1 since: frames for host queues are dropped (R528). -/
  canDrop : Bool := false
  /-- ECC corrections since the previous dailies record (Table 19.10). -/
  dlyEcc : Nat := 0
  /-- Events raised since the previous dailies record (Table 19.10). -/
  dlyEvents : Nat := 0
  deriving DecidableEq, Repr

/-! ## Mailboxes and the event router (chapter 20) -/

/-- Slot states (R494). -/
inductive Slot where | empty | pending | unconsumed
  deriving DecidableEq, Repr

/-- Final status of a message (Table 20.5). -/
inductive MbxFinal where | none | acked | timedOut | aborted
  deriving DecidableEq, Repr

/-- One mailbox channel (R491 to R503, Table 20.5). -/
structure Mbx where
  slot : Slot := .empty
  /-- 64-bit pointer. -/
  ptr : Nat := 0
  /-- 32-bit tag. -/
  tag : Nat := 0
  /-- Deadline; none when the timeout is 0 (R498). -/
  deadline : Option Nat := none
  final : MbxFinal := .none
  lateAck : Bool := false
  waking : Bool := false
  toCnt : Nat := 0
  postCnt : Nat := 0
  /-- The MBX_POST whose completion waits: SQ and tick (R496). -/
  post : Option (Nat × Nat) := .none
  /-- Notices that met a PENDING slot, pointer and tag, oldest first (notes/assumptions/70.md). -/
  kept : List (Nat × Nat) := []
  /-- The channel failed the check of R493 at lock. -/
  bad : Bool := false
  deriving DecidableEq, Repr

/-- The event router (R504, R596). -/
structure Evr where
  /-- cnt per event, saturating at 65,535. -/
  cnt : Tab Nat := []
  /-- cnt as it stood at CONFIG_LOCK (R503). -/
  atLock : Tab Nat := []
  /-- Raises ever of each event since reset: the machine's own trace, newest first, as
  (event, tick, payload); it is what the runtime is delivered (R504). -/
  log : List (Nat × Nat × List Nat) := []
  deriving DecidableEq, Repr

/-! ## CAN controllers (chapter 21) -/

/-- Controller states, coded in CANk_STAT.state in this order (Table 21.3). -/
inductive CanSt where | stopped | integrating | active | passive | busOff | failed
  deriving DecidableEq, Repr

/-- One message object (R514 to R516, Table 21.5). -/
structure CanObj where
  /-- 0 IDLE, 1 ARMED, 2 DONE, 3 ABORTED. -/
  st : Nat := 0
  cause : Nat := 0
  attempts : Nat := 0
  /-- Start-of-frame tick of the last successful transmission. -/
  ts : Nat := 0
  frame : CanFrame := {}
  /-- Order and tick of arming. -/
  order : Nat := 0
  armT : Nat := 0
  /-- not_before has been reached. -/
  eligible : Bool := false
  /-- CAN_TX_ABORT commands that wait for the frame on the bus: SQ and tick. -/
  abort : List (Nat × Nat) := []
  deriving DecidableEq, Repr

/-- One receive queue (R518 to R521, Table 21.4). -/
structure CanQ where
  head : Nat := 0
  owned : Nat := 0
  drop : Nat := 0
  /-- Boundary count at the last EV194, plus one. -/
  ev194 : Nat := 0
  /-- An entry has been delivered since the last notice (R521). -/
  fresh : Bool := false
  deriving DecidableEq, Repr

/-- A frame record written to host memory by a queue. -/
structure CanDeliver where
  queue : Nat
  entry : Nat
  frame : CanFrame
  deriving DecidableEq, Repr

/-- One controller (R506 to R528). -/
structure Can where
  /-- Passed the check at lock with en = 1. -/
  armed : Bool := false
  st : CanSt := .stopped
  noAck : Bool := false
  tec : Nat := 0
  rcnt : Nat := 0
  ackRun : Nat := 0
  boffCnt : Nat := 0
  errCnt : Nat := 0
  rsvLo : Nat := 128
  /-- Reserved objects: user 2 SXE, 3 BSL, 4 ISOBUS, and which: a node, 16 sync, a connection × 2 + receive,
  or 0 send and 1 receive. -/
  users : Tab (Nat × Nat) := []
  objs : Tab CanObj := []
  qs : Tab CanQ := []
  order : Nat := 0
  /-- A self-check runs (R525). -/
  check : Bool := false
  /-- Address held, addresses seen claimed, and frames the runtime has queued (R522). -/
  sa : Nat := 254
  seen : List Nat := []
  iso : List CanFrame := []
  /-- Frame records written to host memory, newest first. -/
  sent : List CanDeliver := []
  deriving DecidableEq, Repr

/-! ## Memories, security and lifecycle (chapter 22) -/

/-- One ECC memory (R529 to R538, Table 22.3). -/
structure EccMem where
  retired : List Nat := []
  corrCnt : Nat := 0
  uncCnt : Nat := 0
  /-- Codewords that read as uncorrectable (R531, R532). -/
  poison : List Nat := []
  /-- Corrections and uncorrectable errors: region and tick. -/
  corrs : List (Nat × Nat) := []
  uncs : List (Nat × Nat) := []
  /-- Regions that are being copied to a spare (R536). -/
  copying : List Nat := []
  /-- Tick of the last EV239, plus one. -/
  ev239 : Nat := 0
  deriving DecidableEq, Repr

/-- The memories. -/
structure Mem where
  mems : Tab EccMem := []
  /-- Last error: memory, uncorrectable, codeword offset, tick. -/
  last : Option (Nat × Bool × Nat × Nat) := none
  deriving DecidableEq, Repr

/-- An image in a NOR slot (R539 to R541). -/
structure NorImg where
  ver : Nat := 0
  key : Nat := 0
  dig : List Nat := []
  deriving DecidableEq, Repr

/-- Security, OTP and NOR contents (R539 to R552). -/
structure Secu where
  /-- Lifecycle state: 0 BLANK, 1 VENDOR_TEST, 2 OWNER_PROVISION, 3 FIELD, 4 RETURNED, 5 SCRAPPED.  From OTP
  (notes/assumptions/60.md). -/
  lc : Nat := 3
  /-- Serial number, 16 bytes little-endian, and the refurbishment count. -/
  serial : Nat := 0
  refurb : Nat := 0
  /-- Programmed key digests by slot, and revoked slots. -/
  keys : Tab (List Nat) := [(0, []), (4, [])]
  revoked : List Nat := []
  /-- Rollback counters RB0 to RB6. -/
  rb : Tab Nat := []
  /-- Slots that run from bank B, as the boot record in force says; the two copies of the boot record in NOR, each with
  its sequence number (R539). -/
  bankB : List Nat := []
  boot : Tab (Nat × List Nat) := [(0, 0, [])]
  /-- Stored images by slot × 2 + bank. -/
  imgs : Tab NorImg := [(0, {}), (2, {}), (4, {}), (6, {}), (8, {}), (10, {}), (12, {})]
  /-- Partition and firmware slots that run; slots whose both banks failed (R543). -/
  dead : List Nat := []
  dbg : Bool := false
  /-- Owner key programming in progress: slot and digest; its result. -/
  keyBusy : Option (Nat × List Nat) := none
  keyResult : Nat := 0
  /-- Accepted lifecycle change: new state and the tick of its acceptance (R547). -/
  lcNext : Option (Nat × Nat) := none
  /-- Digest of the last accepted BOOT loop image. -/
  loopDig : List Nat := []
  /-- The device attestation key exists. -/
  attest : Bool := true
  /-- Tick of the next REPLACE_ADVISED status frame (R552). -/
  rplNext : Nat := 0
  /-- Boot results kept for their events: EV242 and EV243 with payload. -/
  kept : List (Nat × List Nat) := []
  deriving DecidableEq, Repr

/-! ## Power domains (chapter 23) and the configuration lock (chapter 25) -/

/-- State of a domain (R557). -/
inductive DomSt where | off | inReset | running
  deriving DecidableEq, Repr

/-- Core modes (R566). -/
inductive CoreMode where | perf | nom | eco
  deriving DecidableEq, Repr

/-- Auxiliary supply (R22, R560). -/
structure Supply where
  /-- At 9.0 V or above. -/
  ok : Bool := true
  /-- EV254 may be raised (R560). -/
  lowArmed : Bool := true
  deriving DecidableEq, Repr

/-- The gaffer (R555 to R567, Table 23.5). -/
structure Gaf where
  /-- State of domains 1 to 7, powered up in ascending order; domain 0 runs whenever the supply is good (R22,
  R557). -/
  dom : Tab DomSt := [(1, .inReset), (2, .inReset), (3, .inReset), (4, .inReset), (5, .inReset), (6, .inReset), (7, .inReset)]
  coreNow : CoreMode := .perf
  /-- Target of a core-mode change in progress, with the SQ and the tick of its command. -/
  changing : Option (CoreMode × Nat × Nat) := none
  bootDone : Bool := false
  /-- GAF_CAUSE.cause. -/
  cause : Nat := 0
  /-- GAF_CAUSE.domains, 8 bits. -/
  domains : Nat := 0xFF
  wake : Nat := 0
  rstCnt : Nat := 0
  /-- Device time of the last reset. -/
  causeTick : Nat := 0
  /-- GAF_CAUSE_TS_HI capture. -/
  causeHi : Nat := 0
  /-- Last watchdog signal of each application core (R559). -/
  kick : Tab Nat := []
  /-- Partitions that have started, 0 P_TRAC to 5 P_COMM (R557). -/
  partUp : List Nat := []
  /-- Partitions being restarted by TK1 (R488). -/
  restarting : List Nat := []
  /-- DOMAIN_RESETs in progress past their boundary: domain, SQ, tick; 0 and 5 wait for the write of their
  completion, the others for the domain to run (R563). -/
  resets : List (Nat × Nat × Nat) := []
  /-- A reset of domain 0 or 5 that waits for the MSI-X message of a masked vector: domain, vector (R563). -/
  sendOff : Option (Nat × Nat) := none
  /-- EV249 records kept until the EVQ exists or the domain runs: (domain waited for, payload). -/
  kept249 : List (Nat × List Nat) := [(5, [0, 255, 0])]
  /-- In storage mode (R567). -/
  storage : Bool := false
  /-- VIO banks held, 0 A to 3 D (R589). -/
  vioHeld : List Nat := []
  deriving DecidableEq, Repr

/-- CONFIG_LOCK (R578 to R584, Table 25.4). -/
structure Lock where
  locked : Bool := false
  done : Bool := false
  /-- 0 NONE, 1 LOCKED, 2 NOT_READY, 3 BAD_KEY. -/
  result : Nat := 0
  /-- fail mask, 19 bits. -/
  fail : Nat := 0
  /-- Lock tick L. -/
  tick : Nat := 0
  /-- GLB_LOCK_TS_HI capture. -/
  tsHi : Nat := 0
  /-- The window selects of PD_IMPL as they stood at CONFIG_LOCK (R246, R293, R310). -/
  sels : Tab Nat := []
  deriving DecidableEq, Repr

/-! ## The whole machine -/

/-- The state of the AZ9160. -/
@[ext]
structure State where
  /-- Device time in ticks of 2.5 ns; registers show it modulo 2^64 (R9, R24). -/
  now : Nat := 0
  supply : Supply := {}
  /-- BAR0 registers of access RW and RWL that have been written, by register key (R573, R574). -/
  regs : Tab Word := []
  lock : Lock := {}
  gaf : Gaf := {}
  tbu : Tbu := {}
  mod : Mod := {}
  trm : Trm := {}
  gdv : Gdv := {}
  fb : Fb := {}
  lpe : Lpe := {}
  cmus : Tab Cmu := []
  gbx : Gbx := {}
  sxe : Sxe := {}
  vlvs : Tab Vlv := []
  /-- VLV_TOTAL.i_peak (Table 11.9). -/
  vlvPeak : Nat := 0
  /-- REPLACE_ADVISED causes with the object of their first occurrence, and the object of the latest (R551). -/
  rpl : Tab Nat := []
  rplLast : Nat := 0
  rails : Tab Rail := []
  aon : Aon := {}
  ppm : Ppm := {}
  dcl : Dcl := {}
  prec : Prec := {}
  thm : Thm := {}
  afe : Afe := {}
  saf : Saf := {}
  hif : Hif := {}
  mbx : Tab Mbx := []
  evr : Evr := {}
  cans : Tab Can := []
  /-- CAN_OBJ_TS_HI capture (Table 21.5). -/
  canTsHi : Nat := 0
  mem : Mem := {}
  secu : Secu := {}
  /-- The value the last READ_AND_CLEAR returned to the host (R574). -/
  readout : Nat := 0
  /-- The model's own counter of free values used so far (no part of the AZ9160). -/
  free : Nat := 0
  /-- Commands that wait, first in, first out. -/
  pending : List Instr := []
  deriving DecidableEq, Repr

/-- The machine right after a power-on reset (R558, Table 23.4, row 0): device time 0, PD_AON
running and the other domains in reset, every register at its reset value, no command waiting. -/
def State.reset : State := {}

end Sys2Proof.Machine
end

