-- ==== Sys2Proof/Machine/Regs.lean ====
section
/-! DEFINITION. Reading and writing the set-up registers held in State.regs, the windows through their
select registers, and the run state of the power domains. -/

namespace Sys2Proof.Machine

/-- Domain numbers (Table 23.1). -/
def dAon : Nat := 0
def dShl : Nat := 1
def dSfp : Nat := 2
def dCtrl : Nat := 3
def dApp : Nat := 4
def dHost : Nat := 5
def dImpl : Nat := 6
def dConv : Nat := 7

/-- State of domain d (R557); PD_AON runs whenever the supply is good (R22). -/
def State.domSt (s : State) (d : Nat) : DomSt :=
  if d = 0 then (if s.supply.ok then .running else .off) else getD s.gaf.dom d .off

/-- Domain d is running. -/
def State.up (s : State) (d : Nat) : Bool := s.domSt d == .running

/-- The value of the register with key k. -/
def State.reg (s : State) (k : Nat) : Nat := (getD s.regs k (BitVec.ofNat 32 (regReset k))).toNat

/-- Field hi:lo of the register with key k. -/
def State.fld (s : State) (k hi lo : Nat) : Nat := bits (s.reg k) hi lo

/-- Bit i of the register with key k. -/
def State.rb (s : State) (k i : Nat) : Bool := bitAt (s.reg k) i

/-- Write the register with key k. -/
def State.setReg (s : State) (k v : Nat) : State := { s with regs := put s.regs k (BitVec.ofNat 32 v) }

/-- The register key a BAR0 offset reaches: itself, or through a window the selected object's. -/
def State.key (s : State) (off : Nat) : Nat :=
  if 0x3824 ≤ off && off ≤ 0x3830 then 0x10000 + 0x10 * s.fld 0x3820 7 0 + (off - 0x3824)
  else if 0x3844 ≤ off && off ≤ 0x384C then
    if s.rb 0x3840 7 && s.rb 0x3840 3 then 0x60000 else
    0x20000 + 0x10 * (s.fld 0x3840 15 8 * 32 + s.fld 0x3840 7 7 * 16 + s.fld 0x3840 3 0) + (off - 0x3844)
  else if off = 0x3F04 then 0x11000 + 4 * (s.fld 0x3F00 11 8 * 32 + s.fld 0x3F00 4 0)
  else if 0x4094 ≤ off && off ≤ 0x409C then 0x12000 + 0x10 * s.fld 0x4090 7 0 + (off - 0x4094)
  else if 0x42A4 ≤ off && off ≤ 0x42A8 then 0x13000 + 8 * s.fld 0x42A0 7 0 + (off - 0x42A4)
  else if 0x4C08 ≤ off && off ≤ 0x4C2C then 0x14000 + 0x40 * s.fld 0x4C04 6 0 + (off - 0x4C00)
  else if off = 0x4C44 then 0x17000 + 4 * s.fld 0x4C40 15 12
  else if off = 0x4C48 then
    0x18000 + 4 * (((s.fld 0x4C40 15 12 * 32 + s.fld 0x4C40 8 4) * 8 + s.fld 0x4C40 3 1) * 2 + s.fld 0x4C40 0 0)
  else off

/-- The bits that a write with the given byte enables covers (R574). -/
def beMask (be : Nat) : Nat :=
  (if bitAt be 0 then 0xFF else 0) + (if bitAt be 1 then 0xFF00 else 0)
  + (if bitAt be 2 then 0xFF0000 else 0) + (if bitAt be 3 then 0xFF000000 else 0)

/-- old with the bits of mask taken from new. -/
def mergeBits (mask old new : Nat) : Nat := (old &&& (0xFFFFFFFF ^^^ mask)) ||| (new &&& mask)

end Sys2Proof.Machine
end

