-- ==== Sys2Proof/Machine/Flags.lean ====
section
/-! DEFINITION. Event and interrupt flags: raising an event, writing a record to the event ring and
signalling MSI-X vectors (R459, R461, R472, R473, R504, R596). -/

namespace Sys2Proof.Machine

/-- Ring numbers of the event ring and the dailies ring. -/
def evq : Nat := 64
def dly : Nat := 65

def State.ring (s : State) (r : Nat) : Ring := getD s.hif.rings r {}

def State.setRing (s : State) (r : Nat) (v : Ring) : State :=
  { s with hif := { s.hif with rings := put s.hif.rings r v } }

/-- The number of entries of a ring (R458). -/
def Ring.size (r : Ring) : Nat := 2 ^ r.lg

/-- A ring is full when tail + 1 = head modulo the size (R458). -/
def Ring.full (r : Ring) : Bool := (r.tail + 1) % r.size == r.head

/-- The ring after HIF has written one entry: the tail advances and the phase alternates on each wrap
(R459). -/
def Ring.wrote (r : Ring) (now : Nat) : Ring :=
  { r with tail := (r.tail + 1) % r.size, phase := if r.tail + 1 = r.size then !r.phase else r.phase,
           unsig := r.unsig + 1, oldest := if r.unsig = 0 then now else r.oldest }

/-- Add to what HIF has written upstream. -/
def State.send (s : State) (m : HostMsg) : State :=
  { s with hif := { s.hif with sent := m :: s.hif.sent } }

/-- No entry of a ring with vector v is unsignalled. -/
def clearUnsig (v : Nat) (t : Tab Ring) : Tab Ring :=
  t.map (fun x => if 32 ≤ x.1 && x.2.vec == v then (x.1, { x.2 with unsig := 0 }) else x)

/-- Send vector v, or set its pending bit while it is masked (R473). -/
def State.signal (s : State) (v : Nat) : State :=
  if s.hif.unmasked.contains v then
    { s with hif := { s.hif with sent := .msix v :: s.hif.sent, rings := clearUnsig v s.hif.rings } }
  else { s with hif := { s.hif with pendingVec := insN s.hif.pendingVec v } }

/-- Signal ring r after an entry was written to it, when agg_cnt is reached, agg_us is 0 or the entry
asks for an interrupt (R473). -/
def State.signalRing (s : State) (r : Nat) (irq : Bool) : State :=
  let g := s.ring r
  if irq || g.aggUs == 0 || g.aggCnt ≤ g.unsig then s.signal g.vec else s

/-- An event record for the EVQ: dropped and counted when the ring is full (R461), not written while
no EVQ is active. -/
def State.evqWrite (s : State) (n : Nat) (payload : List Nat) : State :=
  let g := s.ring evq
  if g.st != .active then s
  else if g.full then s.setRing evq { g with seq := (g.seq + 1) % 2 ^ 32, lost := g.lost + 1 }
  else
    let m := HostMsg.event g.tail g.phase (0 < g.lost) g.seq n s.now payload
    let g := { g.wrote s.now with seq := (g.seq + 1) % 2 ^ 32, lost := 0 }
    ((s.setRing evq g).send m).signalRing evq false

/-- Raise event n with what its record carries (R504).  While PD_HOST is off or in reset the event is
lost (R596). -/
def State.raise (s : State) (n : Nat) (payload : List Nat) : State :=
  if s.up dHost then
    let s := { s with
      evr := { s.evr with cnt := put s.evr.cnt n (satInc 65535 (getD s.evr.cnt n 0)), log := (n, s.now, payload) :: s.evr.log },
      hif := { s.hif with dlyEvents := s.hif.dlyEvents + 1 } }
    if s.rb (0x6000 + 4 * n) 31 then s.evqWrite n payload else s
  else s

/-- Raise event n when b holds. -/
def State.raiseIf (s : State) (b : Bool) (n : Nat) (payload : List Nat) : State :=
  if b then s.raise n payload else s

/-- The fault LED drive: on while cnt of an event with led = 1 is nonzero and PD_HOST runs (R504,
R596). -/
def State.faultLed (s : State) : Bool :=
  s.up dHost && s.evr.cnt.any (fun x => 0 < x.2 && s.rb (0x6000 + 4 * x.1) 30)

end Sys2Proof.Machine
end

