-- ==== Sys2Proof/Machine/Operands.lean ====
section
/-! DEFINITION. Operand forms of the ring commands: the opcode table (Table 19.6) and the judgement of
a descriptor before its owner sees it (R463, R478, R597). -/

namespace Sys2Proof.Machine

/-- One row of Table 19.6. -/
structure OpRow where
  /-- Opcode. -/
  code : Nat
  /-- Accepted before CONFIG_LOCK (R478). -/
  early : Bool := false
  /-- Domains of the owner (R597). -/
  doms : List Nat
  /-- Partition that serves the command (R597): 2 P_CONV, 3 P_CHG, 4 P_GBX; 6 stands for any. -/
  part : Option Nat := none
  /-- Partition whose restart by TK1 holds the command (R488). -/
  held : Option Nat := none
  /-- Ranges of target; empty when the field is unused. -/
  tgt : List (Nat × Nat) := []
  /-- Range of count; none when the field is unused. -/
  cnt : Option (Nat × Nat) := none
  /-- Ranges of p0, p1, …; words beyond are unused. -/
  par : List (Nat × Nat) := []
  /-- addr and len name a data buffer. -/
  buf : Bool := false
  /-- addr alone is used, as a ring's base. -/
  base : Bool := false
  deriving DecidableEq, Repr

/-- Any 32-bit parameter word. -/
def anyW : Nat × Nat := (0, 0xFFFFFFFF)

/-- Opcodes of chapters 19 and 04 to 07. -/
def opRowsA : List OpRow := [
  -- NOP
  { code := 0x0001, early := true, doms := [dHost] },
  -- RING_CREATE, RING_DELETE
  { code := 0x0002, early := true, doms := [dHost], tgt := [(1, 31), (33, 65)], cnt := some (0, 65535),
    par := [anyW, anyW, (0, 65535)], base := true },
  { code := 0x0003, early := true, doms := [dHost], tgt := [(0, 65)] },
  -- TAKE_START, TAKE_SUSPEND, TAKE_RESUME, TAKE_CANCEL
  { code := 0x0010, early := true, doms := [dHost, dApp], part := some 6, tgt := [(1, 12)],
    par := [anyW, anyW, anyW, anyW, anyW, anyW, anyW, anyW], buf := true },
  { code := 0x0011, early := true, doms := [dHost, dApp], part := some 6, tgt := [(0, 15)] },
  { code := 0x0012, early := true, doms := [dHost, dApp], part := some 6, tgt := [(0, 15)] },
  { code := 0x0013, early := true, doms := [dHost, dApp], part := some 6, tgt := [(0, 15)] },
  -- GRP_ENABLE, GRP_DISABLE, GRP_RUN, TRIP_CLEAR
  { code := 0x0100, doms := [dCtrl], tgt := [(0, 15)] },
  { code := 0x0101, doms := [dCtrl], tgt := [(0, 15)] },
  { code := 0x0102, doms := [dCtrl], tgt := [(0, 15)] },
  { code := 0x0103, doms := [dCtrl], tgt := [(0, 15)] },
  -- LEG_ENABLE, LEG_DISABLE, LEG_SET_CMP
  { code := 0x0200, doms := [dCtrl], tgt := [(0, 67)] },
  { code := 0x0201, doms := [dCtrl], tgt := [(0, 67)] },
  { code := 0x0202, doms := [dCtrl], tgt := [(12, 13)], par := [anyW, (0, 31)] },
  -- VALVE_ENABLE, VALVE_DISABLE, VALVE_SET, VALVE_PERIOD
  { code := 0x0203, doms := [dCtrl], tgt := [(0, 47)] },
  { code := 0x0204, doms := [dCtrl], tgt := [(0, 47)] },
  { code := 0x0205, doms := [dCtrl], tgt := [(0, 47)], par := [(0, 65536), (0, 1), (0, 3)] },
  { code := 0x0206, doms := [dCtrl], tgt := [(0, 47)], par := [anyW] },
  -- FB_ENABLE, FB_DISABLE, CMP_SET
  { code := 0x0300, doms := [dCtrl], tgt := [(0, 19), (32, 47)] },
  { code := 0x0301, doms := [dCtrl], tgt := [(0, 19), (32, 47)] },
  { code := 0x0302, doms := [dCtrl], tgt := [(0, 15)], par := [anyW] },
  -- CTX_START, CTX_STOP, SET_TARGET, PGN_LIMITS
  { code := 0x0400, doms := [dCtrl], held := some 0, tgt := [(0, 191)] },
  { code := 0x0401, doms := [dCtrl], held := some 0, tgt := [(0, 191)] },
  { code := 0x0402, doms := [dCtrl], held := some 0, tgt := [(0, 191), (256, 271)], cnt := some (0, 15), par := [anyW] },
  { code := 0x0403, doms := [dCtrl], held := some 0, tgt := [(0, 15)], par := [anyW, anyW, anyW] }]

/-- Opcodes of chapters 09 to 14. -/
def opRowsB : List OpRow := [
  -- CMU_START, CMU_STOP, CMU_SET
  { code := 0x0500, doms := [dImpl], held := some 0, tgt := [(0, 11)] },
  { code := 0x0501, doms := [dImpl], held := some 0, tgt := [(0, 11)] },
  { code := 0x0502, doms := [dImpl], held := some 0, tgt := [(0, 11)], par := [anyW] },
  -- GEAR_REF, GEAR_SHIFT, GEAR_STOP, PARK_SET, PTO_SET
  { code := 0x0600, doms := [dApp, dImpl], part := some 4, held := some 4, par := [(0, 7), (0, 3), (0, 3)] },
  { code := 0x0601, doms := [dApp, dImpl], part := some 4, held := some 4, par := [(0, 4)] },
  { code := 0x0602, doms := [dApp, dImpl], part := some 4, held := some 4 },
  { code := 0x0603, doms := [dApp, dImpl], part := some 4, held := some 4, par := [(0, 1)] },
  { code := 0x0604, doms := [dApp, dImpl], part := some 4, held := some 4, par := [(0, 1)] },
  -- SEC_BASE, SEC_GATE, CUE_APPEND, CUE_FLUSH, VLV_SET
  { code := 0x0700, doms := [dImpl], held := some 1, tgt := [(0, 159)], cnt := some (0, 65535), par := [anyW] },
  { code := 0x0701, doms := [dImpl], held := some 1, tgt := [(0, 159)], cnt := some (0, 65535), par := [(0, 1)] },
  { code := 0x0702, doms := [dImpl], held := some 1, tgt := [(0, 159)], cnt := some (0, 65535), buf := true },
  { code := 0x0703, doms := [dImpl], held := some 1, tgt := [(0, 159)], cnt := some (0, 65535), par := [(0, 1)] },
  { code := 0x0704, doms := [dImpl], held := some 1, tgt := [(0, 47)], par := [anyW] },
  -- RAIL_START, RAIL_STOP, RAIL_SET, RAIL_RETIRE
  { code := 0x0800, doms := [dConv], held := some 2, tgt := [(0, 1)] },
  { code := 0x0801, doms := [dConv], held := some 2, tgt := [(0, 1)] },
  { code := 0x0802, doms := [dConv], held := some 2, tgt := [(0, 1)], par := [anyW, anyW] },
  { code := 0x0803, doms := [dConv], held := some 2, tgt := [(0, 1)], par := [anyW] },
  -- PATH_SET, CHG_START, CHG_STOP, RSUP_START, RSUP_STOP
  { code := 0x0900, doms := [dConv, dApp], part := some 3, held := some 3, par := [(0, 5), anyW] },
  { code := 0x0901, doms := [dConv, dApp], part := some 3, held := some 3, par := [anyW, anyW, anyW, (0, 1)] },
  { code := 0x0902, doms := [dConv, dApp], part := some 3, held := some 3 },
  { code := 0x0903, doms := [dConv, dApp], part := some 3, held := some 3, par := [(0, 2), anyW, anyW] },
  { code := 0x0904, doms := [dConv, dApp], part := some 3, held := some 3 }]

/-- Opcodes of chapters 15 to 23. -/
def opRowsC : List OpRow := [
  -- DCL_LIMIT, DCL_CLEAR
  { code := 0x0905, doms := [dConv], held := some 2, par := [anyW, anyW] },
  { code := 0x0906, doms := [dConv], held := some 2 },
  -- SAFE_CFG_LOAD, SAFE_CFG_CONFIRM
  { code := 0x0A00, early := true, doms := [dSfp], buf := true },
  { code := 0x0A01, early := true, doms := [dSfp], par := [anyW, anyW] },
  -- MBX_POST, MBX_ACK
  { code := 0x0B00, doms := [dHost], held := some 5, tgt := [(0, 63)], par := [anyW, anyW, anyW, anyW] },
  { code := 0x0B01, doms := [dHost], held := some 5, tgt := [(0, 63)] },
  -- CAN_TX_ARM, CAN_TX_ABORT, CAN_RX_RELEASE, CAN_REINIT
  { code := 0x0C00, doms := [dCtrl], held := some 5,
    tgt := [(0, 127), (256, 383), (512, 639), (768, 895), (1024, 1151), (1280, 1407)], buf := true },
  { code := 0x0C01, doms := [dCtrl], held := some 5,
    tgt := [(0, 127), (256, 383), (512, 639), (768, 895), (1024, 1151), (1280, 1407)] },
  { code := 0x0C02, doms := [dCtrl], held := some 5,
    tgt := [(0, 127), (256, 383), (512, 639), (768, 895), (1024, 1151), (1280, 1407)], cnt := some (0, 65535) },
  { code := 0x0C03, doms := [dCtrl], held := some 5, tgt := [(0, 5)] },
  -- LIFECYCLE_SET
  { code := 0x0D00, early := true, doms := [dCtrl], par := [anyW], buf := true },
  -- DOMAIN_RESET, CORE_MODE
  { code := 0x0E00, doms := [dAon], tgt := [(0, 7)] },
  { code := 0x0E01, doms := [dAon], par := [(0, 2)] }]

/-- Table 19.6. -/
def opRows : List OpRow := opRowsA ++ opRowsB ++ opRowsC

/-- The row of an opcode. -/
def opRow? (code : Nat) : Option OpRow := opRows.find? (fun r => r.code == code)

/-- A number lies in one of the ranges. -/
def inRanges (l : List (Nat × Nat)) (n : Nat) : Bool := l.any (fun r => r.1 ≤ n && n ≤ r.2)

/-- Parameter words within their ranges, and unused words 0. -/
def parOk (rs : List (Nat × Nat)) (p : List Nat) : Bool :=
  match rs, p with
  | _, [] => rs.all (fun r => r.1 == 0)
  | [], w :: q => w == 0 && parOk [] q
  | r :: rs, w :: q => r.1 ≤ w && w ≤ r.2 && parOk rs q

/-- Step 2 of R463: the descriptor's fields are in range and its unused fields are 0. -/
def descOk (r : OpRow) (d : Desc) : Bool :=
  d.flags < 4 && d.rsv == 0
  && (if r.tgt.isEmpty then d.target == 0 else inRanges r.tgt d.target)
  && (match r.cnt with
      | none => d.count == 0
      | some c => c.1 ≤ d.count && d.count ≤ c.2)
  && (r.buf || r.base || d.addr == 0) && (!r.buf || d.addr % 8 == 0) && (r.buf || d.len == 0) && parOk r.par d.p

/-- Parameter words p4 to p7 and input of a TAKE_START by its take (Table 19.12). -/
def takeDescOk (d : Desc) : Bool :=
  let p := d.par
  let z := fun (k : Nat) => (d.p.drop k).all (· == 0)
  let none := d.addr == 0 && d.len == 0
  match d.target with
  | 1 => p 4 ≤ 5 && z 5
  | 2 => p 4 ≤ 31 && z 5
  | 3 => p 4 ≤ 511 && 1 ≤ p 5 && p 4 + p 5 ≤ 512 && z 6 && none
  | 4 => p 4 ≤ 3 && p 5 ≤ 1 && z 6 && none
  | 5 => p 4 < 2 ^ 16 && z 5 && none
  | 6 => p 4 < 2 ^ 9 && z 5 && none
  | 7 => z 4 && none
  | 8 => p 7 < 4 && none
  | 9 => p 4 ≤ 159 && 1 ≤ p 5 && p 5 ≤ 8192 && z 6 && d.len == 8 * p 5
  | 10 => p 4 ≤ 64 && z 5 && d.len == p 4
  | 11 => z 4 && none
  | _ => p 4 ≤ 3 && p 5 ≤ 3 && z 6 && none

/-- Ranges that Table 19.6 gives beyond a field's own. -/
def descExtra (code : Nat) (d : Desc) : Bool :=
  if code = 0x0002 then
    (if d.target < 32 then d.par 0 ≤ 31 && d.par 1 ≤ 1 && d.par 2 == 0 else d.par 0 ≤ 63 && 1 ≤ d.par 1 && d.par 1 ≤ 255)
  else if code = 0x0010 then takeDescOk d
  else if code = 0x0402 then d.target < 256 || d.count == 0
  else if code = 0x0502 then d.par 0 < 2 ^ 15 || 2 ^ 32 - 2 ^ 15 ≤ d.par 0
  else if code = 0x0702 then d.len == 8 * d.count
  else true

/-- Steps 1 to 4 of R463 with R478, R488, R543 and R597: the status a command completes with before its owner
judges it; none when it is passed to the owner.  Before lock a TAKE_START is accepted for TK10 and
TK11 only (R478). -/
def judge (code : Nat) (d : Desc) (s : State) : Option Status :=
  match opRow? code with
  | none => some .unknownOp
  | some r =>
    if !descOk r d || !descExtra code d then some .badDesc
    else if !s.lock.done && !(r.early && (code != 0x10 || d.target == 10 || d.target == 11)) then some .notLocked
    else if r.doms.any (fun x => !s.up x) then some .domainOff
    else if (match r.held with
             | none => false
             | some p => s.secu.dead.contains (p + 1)) then some .refused
    else if (match r.part with
             | none => false
             | some 6 => s.gaf.partUp.isEmpty
             | some p => !s.gaf.partUp.contains p) then some .busy
    else if (match r.held with
             | none => false
             | some p => s.gaf.restarting.contains p) then some .busy
    else none

end Sys2Proof.Machine
end

