-- ==== Sys2Proof/Machine/Ops.lean ====
section
/-! DEFINITION. The operations every command is built from: the passing of time, running a command's
effect, judging and completing a ring command, and free values. -/

namespace Sys2Proof.Machine

/-- The three outcomes of a command. -/
abbrev Out := Host.Outcome State Fault Refusal

/-- Device time reaches tick t; it never runs backwards (R9, R24). -/
def State.advance (s : State) (t : Nat) : State := { s with now := max s.now t }

/-- A state with the device time, the set-up registers, the configuration lock and the command queue of another. -/
def State.keeping (s' s : State) : State :=
  { s' with now := s.now, regs := s.regs, lock := s.lock, pending := s.pending }

/-- A state with the device time and the command queue of another. -/
def State.queueing (s' s : State) : State := { s' with now := s.now, pending := s.pending }

/-- Run a command's effect at tick t.  Below 9.0 V the spec gives no behaviour (R14, R560).  Device time, the set-up
registers, the configuration lock and the queue are none of the effect's business. -/
def run (t : Nat) (s : State) (k : State → State) : Out :=
  if s.supply.ok then .next ((k (s.advance t)).keeping (s.advance t)) else .fault .outsideLimits

/-- Run the effect of a command that may write set-up registers or the configuration lock. -/
def runCfg (t : Nat) (s : State) (k : State → State) : Out :=
  if s.supply.ok then .next ((k (s.advance t)).queueing (s.advance t)) else .fault .outsideLimits

/-- Run an effect when a condition on the advanced state holds; otherwise only time passes. -/
def runIf (t : Nat) (s : State) (c : State → Bool) (k : State → State) : Out :=
  run t s (fun s => if c s then k s else s)

/-- Run an effect when a condition holds; otherwise only time passes. -/
def runCfgIf (t : Nat) (s : State) (c : State → Bool) (k : State → State) : Out :=
  runCfg t s (fun s => if c s then k s else s)

/-- The next free value and the state that has used it (notes/assumptions/2.md). -/
def State.freeNat (s : State) : Nat × State := (Config.freeNat s.free, { s with free := s.free + 1 })

/-- The next signed free value and the state that has used it. -/
def State.freeInt (s : State) : Int × State := (Config.freeInt s.free, { s with free := s.free + 1 })

/-! ### Ring commands -/

/-- A flight whose status is still to be decided, of the command that came from an SQ at a tick: no two commands
share a tick, while cmd_id may be any value (R465, Table 19.3). -/
def Flight.open? (f : Flight) (sq tick : Nat) : Bool := f.sq == sq && f.fetch == tick && f.dec.isNone

/-- Decide the open flight of an SQ and a tick. -/
def decideFirst (sq tick : Nat) (dec : Decision) (l : List Flight) : List Flight :=
  match l with
  | [] => []
  | f :: r => if f.open? sq tick then { f with dec := some dec } :: r else f :: decideFirst sq tick dec r

/-- The command's status is decided at tick done (R467). -/
def State.decide (s : State) (sq tick : Nat) (st : Status) (result done : Nat) : State :=
  { s with hif := { s.hif with flights := decideFirst sq tick { status := st, result := result, done := done } s.hif.flights } }

/-- Note a command that reaches its owner without a ring descriptor before it: an entry for its
completion (notes/assumptions/4.md). -/
def State.enter (s : State) (code : Nat) (d : Desc) : State :=
  if s.hif.flights.any (fun f => f.open? d.sq d.t) then s
  else
    { s with hif := { s.hif with flights := s.hif.flights ++
        [{ sq := d.sq, cmdId := d.cmdId, op := code, irq := bitAt d.flags 1, fetch := d.t,
           sqHead := (s.ring d.sq).head, fromRing := false, dec := none }] } }

/-- Complete the command of a descriptor now. -/
def State.complete (s : State) (d : Desc) (st : Status) (result : Nat) : State :=
  s.decide d.sq d.t st result s.now

/-- Complete the command of a descriptor now with OK and result 0. -/
def State.ok (s : State) (d : Desc) : State := s.complete d .ok 0

/-- Complete the command of a descriptor now with REFUSED. -/
def State.refuse (s : State) (d : Desc) : State := s.complete d .refused 0

/-- A ring command reaches its owner: HIF's judgement first, then the data buffer, then
the owner's effect (R463, R466, R467). -/
def hostRun (code : Nat) (d : Desc) (s : State) (k : State → State) : Out :=
  run d.t s (fun s =>
    let s := s.enter code d
    match judge code d s with
    | some st => s.complete d st 0
    | none => if d.dataErr then (s.complete d .dmaError 0).raise 233 [d.sq, code] else k s)

/-- Put a command's effect off to a boundary (R467, R470). -/
def State.await (s : State) (code : Nat) (d : Desc) (a : BoundaryAct) : State :=
  { s with hif := { s.hif with pend := s.hif.pend ++ [{ sq := d.sq, op := code, tick := d.t, act := a }] } }

/-- Put off only the rest of a command's effect; the command is completed already. -/
def State.awaitRest (s : State) (code : Nat) (d : Desc) (a : BoundaryAct) : State :=
  { s with hif := { s.hif with pend := s.hif.pend ++
      [{ sq := d.sq, op := code, tick := d.t, act := a, decided := true }] } }

/-- The number of the latest boundary (R27, Table 2.8); 0 before the first. -/
def State.boundary (s : State) : Nat := s.tbu.count - 1

/-- Tick of the latest boundary that device time has reached, whether or not its CLAPPER_BOUNDARY has come: what R41
puts before that boundary's outputs acts at it too (R30, R41). -/
def State.boundNow (s : State) : Nat := if s.tbu.running && s.tbu.nextB ≤ s.now then s.tbu.nextB else s.tbu.lastB

/-- The first whole multiple of d from the start after tick b (R30). -/
def nextMultiple (start d b : Nat) : Nat := start + ((b - start) / d + 1) * d

/-- Tick at which a block of a timed interval acts: a boundary while the clapper runs, else the present tick (R30). -/
def State.actTick (s : State) : Nat := if s.tbu.running then s.boundNow else s.now

/-- P, the configured clapper period in ticks (Table 2.2). -/
def State.clapP (s : State) : Nat := s.fld 0x808 18 0

/-- REPLACE_ADVISED gets a cause: 0 ECC, 1 RAIL_PHASE, 2 VALVE, 3 GATE_STRENGTH, 4 CAN; a cause that
arises again adds nothing (R551). -/
def State.advise (s : State) (cause obj : Nat) : State :=
  if s.rpl.any (fun x => x.1 == cause) then s
  else ({ s with rpl := put s.rpl cause obj, rplLast := obj }).raise 250 [cause, obj]

/-- Tick at which a duration in ms ends (R40). -/
def State.inMs (s : State) (ms : Nat) : Nat := s.now + ms * ticksPerMs

/-- Tick at which a duration in µs ends (R40). -/
def State.inUs (s : State) (us : Nat) : Nat := s.now + us * ticksPerUs

end Sys2Proof.Machine
end

