-- ==== Sys2Proof/Machine/LegOps.lean ====
section
/-! DEFINITION. Legs, carriers, the erosion table and valve channels (chapter 03): shared operations. -/

namespace Sys2Proof.Machine

def State.leg (s : State) (n : Nat) : Leg := getD s.mod.legs n {}

def State.setLeg (s : State) (n : Nat) (l : Leg) : State :=
  { s with mod := { s.mod with legs := put s.mod.legs n l } }

def State.valve (s : State) (m : Nat) : Valve := getD s.mod.valves m {}

def State.setValve (s : State) (m : Nat) (v : Valve) : State :=
  { s with mod := { s.mod with valves := put s.mod.valves m v } }

/-- Base of the register block of leg n (R44). -/
def legBase (n : Nat) : Nat := 0x1000 + 0x40 * n

def cmuBase (u : Nat) : Nat := 0x3C00 + 0x40 * u
/-- The commutation unit of leg n (Table 9.1). -/
def legCmu (n : Nat) : Option Nat := if n < 32 then none else if n < 44 then some ((n - 32) / 3) else if n < 68 then some (4 + (n - 44) / 3) else none

/-- The commutation unit of leg n is enabled, and then alone sets and clears en of the leg (R221). -/
def State.cmuOwns (s : State) (n : Nat) : Bool :=
  match legCmu n with
  | some u => s.rb (cmuBase u) 31
  | none => false

/-- Leg n is a fitted phase of a rail with en = 1, and RGC alone sets and clears en of the leg (R311). -/
def State.railOwns (s : State) (n : Nat) : Bool :=
  if 14 ≤ n && n < 20 then s.rb 0x4400 31 && s.rb 0x4400 (n + 8)
  else if 20 ≤ n && n < 24 then s.rb 0x4500 31 && s.rb 0x4500 (n + 2) else false

/-- A block alone sets and clears en of leg n (R221, R311); LEG_ENABLE and LEG_DISABLE are then refused (DEDUCED,
notes/assumptions/56.md). -/
def State.legOwned (s : State) (n : Nat) : Bool := s.cmuOwns n || s.railOwns n

/-- Class F legs: BK0, BK1 and PF3 (Table 3.1). -/
def classF (n : Nat) : Bool := n == 12 || n == 13 || n == 27

/-- Field of TRM_BRIDGE_MAP0 and MAP1 of bridge b: 0 to 3 GX, 4 to 11 AX (Table 4.2). -/
def State.bridgeMap (s : State) (b : Nat) : Nat :=
  if b < 8 then s.fld 0x2800 (4 * b + 3) (4 * b) else s.fld 0x2804 (4 * (b - 8) + 3) (4 * (b - 8))

/-- The group of bridge b; none when its field is illegal (R92). -/
def State.bridgeGroup (s : State) (b : Nat) : Option Nat :=
  if 9 ≤ s.bridgeMap b then some (s.bridgeMap b) else none

/-- The leg group of leg n (Tables 4.1 and 4.2). -/
def State.legGroup (s : State) (n : Nat) : Option Nat :=
  if n < 12 then some (n / 3) else if n < 14 then some 4 else if n < 20 then some 5
  else if n < 24 then some 6 else if n < 28 then some 7 else if n < 32 then some 8
  else if n < 68 then s.bridgeGroup ((n - 32) / 3) else none

/-- The legs of group g, ascending. -/
def State.groupLegs (s : State) (g : Nat) : List Nat := (List.range 68).filter (fun n => s.legGroup n == some g)

/-! ### Outputs -/

def State.grp (s : State) (g : Nat) : Grp := getD s.trm.grps g {}
def State.setGrp (s : State) (g : Nat) (v : Grp) : State := { s with trm := { s.trm with grps := put s.trm.grps g v } }

/-- High-side channel of leg n (Table 5.1). -/
def chHi (n : Nat) : Nat := if n < 12 then 2 * n else if n < 14 then n + 12 else 2 * n - 2

/-- Low-side channel of leg n; none on BK0 and BK1 (Table 5.1). -/
def chLo (n : Nat) : Option Nat := if n < 12 then some (2 * n + 1) else if n < 14 then none else some (2 * n - 1)

/-- The channels of leg n. -/
def legChs (n : Nat) : List Nat := chHi n :: (chLo n).toList

/-- The leg of channel c. -/
def chLeg (c : Nat) : Nat := if c < 24 then c / 2 else if c < 26 then c - 12 else (c + 2) / 2

/-- Channel c is a high-side channel. -/
def chIsHi (c : Nat) : Bool := chHi (chLeg c) == c

/-- Groups of an STO group 0 TA, 1 TB, 2 TC, 3 TD, 4 AX, 5 GX (Table 4.4). -/
def State.stoGroups (s : State) (k : Nat) : List Nat :=
  if k < 4 then [k]
  else (List.range 16).filter (fun g => 9 ≤ g && (List.range 12).any (fun b =>
    (if k = 4 then 4 ≤ b else b < 4) && s.bridgeGroup b == some g))

/-- SFP demands STO of leg group g (Table 4.4). -/
def State.sfpForces (s : State) (g : Nat) : Bool :=
  (List.range 6).any (fun k => bitAt s.saf.sfp.dem k && (s.stoGroups k).contains g)

/-- SFP holds leg n at its disable levels (R407). -/
def State.modHeld (s : State) (n : Nat) : Bool :=
  match s.legGroup n with
  | some g => s.sfpForces g
  | none => false

/-- The domains that the function of leg n needs run (R23, Table 1.4); a charger leg keeps on without PD_APP until its
session has ended (R17, R371). -/
def State.legPowered (s : State) (n : Nat) : Bool :=
  s.up dCtrl && (if n < 12 then s.up dShl && s.up dSfp else if n < 14 then true else if n < 32 then s.up dConv
    else s.up dImpl && s.up dShl && s.up dSfp)

/-- What decides the outputs of a leg. -/
inductive LegSrc where
  /-- A TRM force, or its level held until the next carrier start (R89, R95). -/
  | force (v : Level)
  /-- The disable levels (R70). -/
  | dis
  /-- The modulation. -/
  | mod
  deriving DecidableEq, Repr

/-- TRM's safe level prevails (Table 3.7). -/
def LegSrc.forces : LegSrc → Bool
  | .force _ => true
  | .dis => false
  | .mod => false

/-- The source that prevails for leg n: a TRM force, then the disable levels, then a held level, then the modulation
(R23, R70, R71, R73, R95). -/
def State.legSrc (s : State) (n : Nat) : LegSrc :=
  let l := s.leg n
  let g := match s.legGroup n with
    | some g => s.grp g
    | none => {}
  if g.forced then .force g.level
  else if !l.enabled || !l.active || g.st == .disabled || s.modHeld n || !s.legPowered n then .dis
  else match l.hold with
    | some v => .force v
    | none => .mod

def State.legTd (s : State) (n : Nat) : Nat := s.fld (legBase n + 0x14) 16 0

/-- A low output that a level turns on at instant x: t_d after the high output was on; and a level that comes in a dead
time waits for that dead time's end (R47, R70, R71, R88). -/
def LegEdge.lowAt (e : LegEdge) (td x : Nat) : Bool := e.hi + td ≤ x && (e.lo == e.mark || e.lo + td ≤ x)

/-- The outputs of leg n, high and low, at an instant in fine steps.  Every turn-on comes t_d or more after the other
output was on, also across carrier starts and changes of source (R20, R47, R70, R71, R73, R88, R89, R95). -/
def State.legOut (s : State) (n x : Nat) : Bool × Bool :=
  let l := s.leg n
  let td := s.legTd n
  let lo := (chLo n).isSome
  match s.legSrc n with
  | .force v => (false, lo && v == .asc && l.last.lowAt td x)
  | .dis => (false, lo && s.rb (legBase n) 16 && l.last.lowAt td x)
  | .mod =>
    let y := x - l.start
    (l.shape.hiOn ≤ y && y < l.shape.hiOff && l.last.lo + td ≤ x,
     lo && !(l.shape.loOff ≤ y && y < l.shape.loOn) && l.last.hi + td ≤ x)

/-- The turn-offs of leg n's outputs that instant x looks back on (R47): an output that is on until x ends there. -/
def State.legEdges (s : State) (n x : Nat) : LegEdge :=
  let l := s.leg n
  let e := l.last
  let out := s.legOut n (x - 1)
  let sh := l.shape
  let ran := s.legSrc n == .mod
  let off := l.start + sh.hiOff
  let low := l.start + sh.loOff
  { hi := if out.1 then x else if ran && sh.hiOn < sh.hiOff && off ≤ x && e.lo + s.legTd n < off then off else e.hi
    lo := if out.2 then x else if ran && 0 < sh.loOff && low ≤ x && e.hi + s.legTd n < low then low else e.lo
    mark := x }

/-- The outputs of leg n come under another source or shape at instant x. -/
def State.legMark (s : State) (n x : Nat) : State := s.setLeg n { s.leg n with last := s.legEdges n x }

/-- A force or a DESAT report spoils the measurements of leg n's running period (R121). -/
def State.legSpoil (s : State) (n : Nat) : State := s.setLeg n { s.leg n with spoilt := true }

/-- The outputs of every leg of group g come under another source at this tick. -/
def State.grpMark (s : State) (g : Nat) : State :=
  (s.groupLegs g).foldl (fun s n => (s.legMark n (s.now * 32)).legSpoil n) s

/-- The set that the registers of leg n hold (R50). -/
def State.legRegs (s : State) (n : Nat) : LegSet :=
  let b := legBase n
  { period := s.reg (b + 4), tc := s.reg (b + 8) * 32 + s.fld (b + 0x10) 4 0,
    ph := s.reg (b + 0xC) * 32 + s.fld (b + 0x10) 12 8, trg0 := s.reg (b + 0x20) * 32 + s.fld (b + 0x10) 20 16,
    trg1 := s.reg (b + 0x24) * 32 + s.fld (b + 0x10) 28 24 }

def State.legTmin (s : State) (n : Nat) : Nat := s.fld (legBase n + 0x18) 31 16
def State.legTref (s : State) (n : Nat) : Nat := s.fld (legBase n + 0x18) 15 0
/-- Carrier mode: 0 EDGE, 1 CENTRE, 2 PHASE. -/
def State.legMode (s : State) (n : Nat) : Nat := s.fld (legBase n) 28 27
def State.legSync (s : State) (n : Nat) : Nat := s.fld (legBase n) 23 20

/-- The leg's fields, its period requirement R54, its sync group R64 and its group (R72). -/
def State.legOk (s : State) (n : Nat) : Bool :=
  let b := legBase n
  let T := s.reg (b + 4)
  let td := s.legTd n
  let tm := s.legTmin n
  let tr := s.legTref n
  let sg := s.legSync n
  let div := s.fld (0x2100 + 4 * sg) 12 0
  s.legMode n != 3 && (sg ≤ 7 || sg == 15) && 800 ≤ T && td ≤ 128000 && tm ≤ 64000 && tr ≤ 64000
  && s.reg (b + 0xC) < T && s.reg (b + 0x20) < T && s.reg (b + 0x24) < T
  && 1 ≤ s.fld (b + 0x1C) 27 24
  && (s.legMode n == 1 || (s.fld (b + 0x1C) 21 20 != 2 && s.fld (b + 0x1C) 12 11 != 2))
  && 2 * td + tm + max tm tr ≤ 32 * T
  && (sg == 15 || (s.rb (0x2100 + 4 * sg) 31 && 1 ≤ div && div ≤ 4096 && (div * s.clapP) % T == 0))
  && (s.legGroup n).isSome

/-! ### The erosion table -/

/-- No edge: the low side conducts throughout, or the high side (R51, R53). -/
def Shape.flat (high : Bool) (L : Nat) : Shape :=
  if high then { hiOn := 0, hiOff := L, loOff := 0, loOn := L } else {}

/-- A commanded high time tc from instant on, with dead time td (R46, R47). -/
def Shape.place (on tc td : Nat) : Shape :=
  { hiOn := on + td, hiOff := on + tc, loOff := on, loOn := on + tc + td }

/-- The erosion table (Table 3.8, R51 to R53) for a period of L fine steps: class F, policy STRETCH,
where a commanded high time starts, and t_c, t_d, t_min and t_ref. -/
def erode (f stretch : Bool) (onOf : Nat → Nat) (L tc td tm tr : Nat) : Shape :=
  let lim := L - td - max tm tr
  let cl := !f && lim < tc
  let c := if cl then lim else tc
  let sh : Shape :=
    if f && L ≤ c then
      { Shape.flat true L with region := if 0 < td then 2 else if 0 < tm then 1 else 0, short := 0 < td + tm }
    else if c = 0 then
      { Shape.flat false L with region := if 0 < td then 2 else if 0 < tm then 1 else 0, short := 0 < td + tm }
    else if c < td then { Shape.flat false L with region := 2, short := true }
    else if c < td + tm then
      if stretch then { Shape.place (onOf (td + tm)) (td + tm) td with region := 1, short := true }
      else { Shape.flat false L with region := 1, short := true }
    else if f && L - c < td then { Shape.flat true L with region := 2, short := true }
    else if f && L - c < td + tm then
      if stretch then { Shape.place (onOf (L - td - tm)) (L - td - tm) td with region := 1, short := true }
      else { Shape.flat true L with region := 1, short := true }
    else Shape.place (onOf c) c td
  if cl then { sh with region := 3, clamped := true } else sh

/-- Where a commanded high time starts in a period of L: at the carrier start, or centred (R46). -/
def onAt (centre : Bool) (L tc : Nat) : Nat := if centre then (L - tc) / 2 else 0

/-- Shape of the period of leg n of length L under the active set (R51, R61, R66). -/
def State.legShape (s : State) (n L tc : Nat) : Shape :=
  erode (classF n) (s.rb (legBase n) 25) (onAt (s.legMode n == 1) L) L tc (s.legTd n) (s.legTmin n) (s.legTref n)

/-! ### Carriers -/

/-- x wrapped into −T/2 < x ≤ T/2 (R61). -/
def wrapHalf (T : Nat) (x : Int) : Int :=
  let m := x % (T : Int)
  if 2 * m ≤ (T : Int) then m else m - T

/-- Transfer the shadow set and shape the new period, which starts at the leg's next carrier start
(R57, R61, R73); the counts of the ended period are kept (Table 3.7). -/
def State.carrierBegin (s : State) (n : Nat) : State :=
  let l := s.leg n
  let T := l.shadow.period * 32
  let d := if s.legMode n == 2 && 0 < l.periods then wrapHalf T ((l.shadow.ph : Int) - l.act.ph) else 0
  let L := ((T : Int) + d).toNat
  let sh := s.legShape n L l.shadow.tc
  s.setLeg n { l with
    last := s.legEdges n l.next, act := l.shadow, start := l.next, len := L, next := l.next + L, shape := sh, mid := false, hold := none
    active := l.enabled, periods := l.periods + 1
    lastRegion := if l.active then l.shape.region else l.lastRegion
    clampCnt := if l.active && l.shape.clamped then satInc 255 l.clampCnt else l.clampCnt
    shortCnt := if l.active && l.shape.short then satInc 255 l.shortCnt else l.shortCnt }

/-- The phase offset of a PHASE leg; zero for every other (R63). -/
def State.legOfs (s : State) (n ph : Nat) : Nat := if s.legMode n == 2 then ph else 0

/-- Nominal interval of the restarts of sync group j, in fine steps. -/
def State.sgSpan (s : State) (j : Nat) : Nat := s.fld (0x2100 + 4 * j) 12 0 * s.clapP * 32

/-- By how much a restart at boundary tick b moves the carrier start that comes next: its difference to the phase in
force, modulo the period where the group's interval is a whole number of periods, so that a change of phase on its way
(R61) is not cut and the leg only follows the slaved clapper (R57, R64, R66). -/
def State.restartShift (s : State) (n b : Nat) : Int :=
  let l := s.leg n
  let T := l.act.period * 32
  let x : Int := (b * 32 + s.legOfs n l.act.ph : Nat) - (l.next : Int)
  if 0 < T && s.sgSpan (s.legSync n) % T = 0 then wrapHalf T x else x

/-- A synchronisation group restarts at boundary tick b: the leg's carrier begins there plus its phase offset; a running
period is lengthened or shortened to it, with the erosion table at its actual length (R63, R66). -/
def State.legRestart (s : State) (n b : Nat) : State :=
  let l := s.leg n
  if !l.carrier then s.setLeg n { l with carrier := true, next := b * 32 + s.legOfs n l.shadow.ph, periods := 0 }
  else if l.periods = 0 || s.restartShift n b = 0 then s
  else
    let nx := ((l.next : Int) + s.restartShift n b).toNat
    let L := nx - l.start
    s.setLeg n { l with last := s.legEdges n (b * 32), next := nx, len := L, shape := s.legShape n L l.act.tc }

/-- While the clapper is slaved, the carrier start of leg n that falls on its group's next restart waits for it, since
the period before it ends there, however late (R66). -/
def State.carrierWaits (s : State) (n : Nat) : Bool :=
  let l := s.leg n
  let g := getD s.mod.sgs (s.legSync n) {}
  s.rb 0x808 30 && s.legSync n ≤ 7 && g.started && 0 < l.act.period && s.sgSpan (s.legSync n) % (l.act.period * 32) = 0
  && 0 < l.periods && g.nom + s.legOfs n l.act.ph ≤ l.next

/-- The legs of sync group j that have a carrier. -/
def State.sgLegs (s : State) (j : Nat) : List Nat :=
  (List.range 68).filter (fun n => s.legSync n == j && 0 < (s.leg n).shadow.period)

/-- SYNC_GROUP_RESTART at the boundary tick b (R63). -/
def State.sgBoundary (s : State) (b j : Nat) : State :=
  let g := getD s.mod.sgs j {}
  let div := s.fld (0x2100 + 4 * j) 12 0
  if !s.rb (0x2100 + 4 * j) 31 || div = 0 || 4096 < div then s
  else if !g.started || g.cnt + 1 = div then
    let s := { s with mod := { s.mod with sgs := put s.mod.sgs j { started := true, cnt := 0, nom := b * 32 + s.sgSpan j } } }
    (s.sgLegs j).foldl (fun s n => s.legRestart n b) s
  else { s with mod := { s.mod with sgs := put s.mod.sgs j { g with cnt := g.cnt + 1 } } }

/-- Start an enabled leg: a free-running carrier starts with it (R65, R73). -/
def State.legStart (s : State) (n : Nat) : State :=
  let l := s.leg n
  if s.legSync n == 15 then
    s.setLeg n { l with last := s.legEdges n (s.now * 32), enabled := true, carrier := true, periods := 0
                        next := s.now * 32 + (if s.legMode n == 2 then l.shadow.ph else 0) }
  else s.setLeg n { l with last := s.legEdges n (s.now * 32), enabled := true }

/-- Disable a leg: it holds its disable levels (R70); a free-running carrier stops (R65). -/
def State.legStop (s : State) (n : Nat) : State :=
  let l := s.leg n
  s.setLeg n { l with last := s.legEdges n (s.now * 32), enabled := false, active := false, carrier := l.carrier && s.legSync n != 15 }

/-- Legs with en = 1 whose check R72 fails: EV229 for each, and whether any failed.  DESIGN CHOICE
(notes/assumptions/53.md): the record carries the leg's number. -/
def State.legLockCheck (s : State) : State × Bool :=
  (List.range 68).foldl (fun x n =>
    if x.1.rb (legBase n) 31 && !x.1.legOk n then (x.1.raise 229 [n], true) else x) (s, false)

/-- Shadow sets take the registers' values while they can be written (R57). -/
def State.legLoad (s : State) (n : Nat) : State :=
  let l := s.leg n
  s.setLeg n { l with shadow := s.legRegs n }

/-- Legs with en = 1 start at the clapper start (R72). -/
def State.legsStart (s : State) : State :=
  (List.range 68).foldl (fun s n => if s.rb (legBase n) 31 && s.legOk n && !s.legOwned n then s.legStart n else s) s

/-! ### Valve channels -/

def vlvBase (m : Nat) : Nat := 0x2200 + 0x10 * m

/-- Valve group of channel m. -/
def State.vGroup (s : State) (m : Nat) : Nat := s.fld (vlvBase m) 28 27
/-- duty_src of channel m: 0 host, 1 LPE, 2 SXE, 3 VLV regulator. -/
def State.dutySrc (s : State) (m : Nat) : Nat := s.fld (vlvBase m) 26 25
/-- gate_src of channel m is SXE. -/
def State.gateSxe (s : State) (m : Nat) : Bool := s.rb (vlvBase m) 24
/-- PROP mode. -/
def State.vProp (s : State) (m : Nat) : Bool := s.rb (vlvBase m) 30
/-- The valve group computes its phases. -/
def State.vAuto (s : State) (k : Nat) : Bool := s.rb (0x2120 + 4 * k) 31

/-- The period range of the channel's mode (Table 3.11). -/
def State.vPeriodOk (s : State) (m T : Nat) : Bool :=
  if s.vProp m then 80000 ≤ T && T ≤ 4000000 else 4000000 ≤ T && T ≤ 40000000

/-- On-time of a period of T ticks at duty d, in fine steps, after short pulses are resolved (R75). -/
def valveOn (stretch : Bool) (T d tm : Nat) : Nat :=
  let c := d * T / 65536 * 32
  let L := T * 32
  if 65536 ≤ d then L
  else if c = 0 then 0
  else if c < tm then (if stretch then tm else 0)
  else if L - c < tm then (if stretch then L - tm else L)
  else c

/-- Members of valve group k at lock: en = 1 and vgroup = k (R78). -/
def State.vMembers (s : State) (k : Nat) : List Nat :=
  (List.range 48).filter (fun m => s.rb (vlvBase m) 31 && s.vGroup m == k)

/-- Rank of m in an ascending list. -/
def rankOf (m : Nat) (l : List Nat) : Nat := (l.filter (fun x => x < m)).length

/-- Phase of channel m at period T: computed for a member of an auto group, else its own field (R78). -/
def State.vPhase (s : State) (m T : Nat) : Nat :=
  let ms := s.vMembers (s.vGroup m)
  if s.vAuto (s.vGroup m) && ms.contains m then T * rankOf m ms / ms.length else s.reg (vlvBase m + 0xC)

/-- duty_src or gate_src of channel m is SXE and SXE_VMAPm maps it to no section (R277). -/
def State.vlvUnmapped (s : State) (m : Nat) : Bool := (s.dutySrc m == 2 || s.gateSxe m) && !s.rb (0x40C0 + 4 * m) 31

/-- Fields of channel m against Tables 3.10 and 3.11, and R78 for a member of an auto group. -/
def State.valveFieldsOk (s : State) (m : Nat) : Bool :=
  let T := (s.valve m).period
  let ms := s.vMembers (s.vGroup m)
  s.fld (vlvBase m) 15 0 ≤ 64000 && s.vPeriodOk m T && s.fld (vlvBase m + 8) 16 0 ≤ 65536
  && (if s.vProp m then s.dutySrc m == 3 else s.dutySrc m != 3)
  && (if s.vAuto (s.vGroup m) && ms.contains m then ms.all (fun x => (s.valve x).period == T)
      else s.reg (vlvBase m + 0xC) < T)

/-- Fields of VLVm_CFG and VLVm_PROP against Table 11.9. -/
def State.vlvFieldsOk (s : State) (m : Nat) : Bool :=
  let f := s.fld (0x7400 + 0x10 * m)
  30 ≤ f 31 24 && f 31 24 ≤ 80 && 1 ≤ f 23 16 && f 15 8 ≤ 15 && 1 ≤ f 7 0
  && 1 ≤ s.fld (0x7404 + 0x10 * m) 31 16 && s.fld (0x7404 + 0x10 * m) 31 16 ≤ 2500

/-- Channel m may be enabled (R277, R580, R598). -/
def State.valveOk (s : State) (m : Nat) : Bool := s.valveFieldsOk m && !s.vlvUnmapped m && s.vlvFieldsOk m

/-- VLV's check at lock: a failing channel stays disabled (R580). -/
def State.vlvLockCheck (s : State) : State × Bool := (s, (List.range 48).any (fun m => !s.vlvFieldsOk m))

/-- Channel m drives its load at instant x, in fine steps (R70, R75, R80, R81). -/
def Valve.out (v : Valve) (x : Nat) : Bool :=
  v.enabled && v.gate && v.begun && (x < v.start * 32 + v.onFor || x < v.extraTo)

/-- Fine steps from the last reckoning to instant x in which the modulator has switched the channel on (R288, R290). -/
def Valve.onSince (v : Valve) (x : Nat) : Nat :=
  if v.enabled && v.gate && v.begun then min x (max (v.start * 32 + v.onFor) v.extraTo) - v.since else 0

/-- Reckon the on-time up to instant x. -/
def Valve.reckon (v : Valve) (x : Nat) : Valve :=
  { v with ran := v.ran + v.onSince x, part := v.part + v.onSince x, since := x }

/-- The gate closes at b, or opens at b: in the off-part the output stays on until the earlier of
b + t_c and the next carrier start (R80, R81). -/
def Valve.setGate (v : Valve) (b : Nat) (opn : Bool) : Valve :=
  let v := v.reckon (b * 32)
  if !opn then { v with gate := false, extraTo := 0 }
  else if v.gate then v
  else
  let v := { v with part := 0 }
  if v.begun && v.start * 32 + v.onFor ≤ b * 32 && 0 < v.onFor then
    { v with gate := true, extraTo := min (b * 32 + v.onFor) (v.next * 32) }
  else { v with gate := true }

/-- A valve channel's carrier starts: the shadow duty transfers and the period is shaped (R75, R76). -/
def State.valveBegin (s : State) (m : Nat) : State :=
  let v := s.valve m
  let v := match v.newStart with
    | some (T, st) => if st ≤ v.next || !v.carrier then { v with period := T, next := st, carrier := true, newStart := none } else v
    | none => v
  let on := valveOn (s.rb (vlvBase m) 29) v.period v.shDuty (s.fld (vlvBase m) 15 0)
  s.setValve m { v with
    duty := v.shDuty, begun := true, start := v.next, next := v.next + v.period, onFor := on, extraTo := 0
    ran := 0, part := 0, since := v.next * 32 }

/-- Tick of the channel's next carrier start, if it has one coming (R77, R79). -/
def Valve.due (v : Valve) : Option Nat :=
  match v.newStart with
  | some (_, st) => if v.carrier then some (min v.next st) else some st
  | none => if v.carrier then some v.next else none

/-- The origin of the valve groups: the first boundary after the clapper start (R77). -/
def State.valvesOrigin (s : State) (b : Nat) : State :=
  (List.range 48).foldl (fun s m =>
    let v := s.valve m
    if v.period = 0 then s
    else s.setValve m { v with carrier := true, phase := s.vPhase m v.period, next := b + s.vPhase m v.period })
    { s with mod := { s.mod with vOrigin := some b } }

/-- The gate of channel m is set at boundary tick b (R76, R80, R81). -/
def State.valveGate (s : State) (b m : Nat) (opn : Bool) : State := s.setValve m ((s.valve m).setGate b opn)

/-- The channels whose period a VALVE_PERIOD on channel m changes (R79). -/
def State.vPeriodMembers (s : State) (m : Nat) : List Nat :=
  let ms := (List.range 48).filter (fun x => (s.valve x).member && s.vGroup x == s.vGroup m)
  if s.vAuto (s.vGroup m) && ms.contains m then ms else [m]

/-- A VALVE_PERIOD takes effect at boundary tick b: new origins, phases recomputed (R79). -/
def State.valvePeriod (s : State) (b m T : Nat) : State :=
  (s.vPeriodMembers m).foldl (fun s x =>
    let ph := s.vPhase x T
    s.setValve x { s.valve x with newStart := some (T, b + ph), phase := ph }) s

/-- Valve channels load their shadow values from the registers while these can be written. -/
def State.valveLoad (s : State) (m : Nat) : State :=
  let v := s.valve m
  s.setValve m { v with shDuty := s.fld (vlvBase m + 8) 16 0, period := s.reg (vlvBase m + 4) }

/-- Channels with en = 1 whose check fails at lock: EV229 for each, and whether any failed (R78).  DESIGN CHOICE
(notes/assumptions/53.md): the record carries 68 + m for channel m, beside n for leg n. -/
def State.valveLockCheck (s : State) : State × Bool :=
  (List.range 48).foldl (fun x m =>
    if x.1.rb (vlvBase m) 31 && !x.1.valveFieldsOk m then (x.1.raise 229 [m + 68], true) else x) (s, false)

/-- Channels with en = 1 and legal fields are enabled at the clapper start; membership is fixed (R78). -/
def State.valvesStart (s : State) : State :=
  (List.range 48).foldl (fun s m =>
    if s.rb (vlvBase m) 31 then
      let v := s.valve m
      s.setValve m { v with enabled := s.valveOk m, member := true }
    else s) s

end Sys2Proof.Machine
end

