-- ==== Sys2Proof/Machine/LoopProg.lean ====
section
/-! DEFINITION. Loop programs (chapter 08): operand codes, the meaning of every instruction, one run of a
program, the worst-case op count and the checks a program must pass. -/

namespace Sys2Proof.Machine

/-! ### Numbers (R7, R8, R171) -/

/-- Square root of n rounded down, found bit by bit from bit k − 1. -/
def isqrt (n k : Nat) : Nat :=
  match k with
  | 0 => 0
  | k + 1 => let r := isqrt (n / 4) k; if (2 * r + 1) * (2 * r + 1) ≤ n then 2 * r + 1 else 2 * r

/-- A frac16 result and whether it was limited (sat of R200). -/
def sat16 (v : Int) : Int × Bool := (clampI (-32768) 32767 v, v < -32768 || 32767 < v)

/-- An accumulator value within Q10.30 and whether it was limited (R171). -/
def satA (v : Int) : Int × Bool := (clampI (-549755813888) 549755813887 v, v < -549755813888 || 549755813887 < v)

/-- The store of an accumulator value to frac16 (R8). -/
def store16 (v : Int) : Int × Bool := sat16 (roundEven v 32768)

/-- Entries of the quarter wave from 0 (R203). -/
def sinQ0 : List Nat := [0, 201, 402, 603, 804, 1005, 1206, 1407, 1608, 1809, 2009, 2210, 2410, 2611, 2811,
  3012, 3212, 3412, 3612, 3811, 4011, 4210, 4410, 4609, 4808, 5007, 5205, 5404, 5602, 5800, 5998, 6195, 6393,
  6590, 6786, 6983, 7179, 7375, 7571, 7767, 7962, 8157, 8351]

/-- Entries of the quarter wave from 43 (R203). -/
def sinQ1 : List Nat := [8545, 8739, 8933, 9126, 9319, 9512, 9704, 9896, 10087, 10278, 10469, 10659, 10849,
  11039, 11228, 11417, 11605, 11793, 11980, 12167, 12353, 12539, 12725, 12910, 13094, 13279, 13462, 13645,
  13828, 14010, 14191, 14372, 14553, 14732, 14912, 15090, 15269, 15446, 15623, 15800, 15976, 16151, 16325]

/-- Entries of the quarter wave from 86 (R203). -/
def sinQ2 : List Nat := [16499, 16673, 16846, 17018, 17189, 17360, 17530, 17700, 17869, 18037, 18204, 18371,
  18537, 18703, 18868, 19032, 19195, 19357, 19519, 19680, 19841, 20000, 20159, 20317, 20475, 20631, 20787,
  20942, 21096, 21250, 21403, 21554, 21705, 21856, 22005, 22154, 22301, 22448, 22594, 22739, 22884, 23027,
  23170]

/-- Entries of the quarter wave from 129 (R203). -/
def sinQ3 : List Nat := [23311, 23452, 23592, 23731, 23870, 24007, 24143, 24279, 24413, 24547, 24680, 24811,
  24942, 25072, 25201, 25329, 25456, 25582, 25708, 25832, 25955, 26077, 26198, 26319, 26438, 26556, 26674,
  26790, 26905, 27019, 27133, 27245, 27356, 27466, 27575, 27683, 27790, 27896, 28001, 28105, 28208, 28310,
  28411]

/-- Entries of the quarter wave from 172 (R203). -/
def sinQ4 : List Nat := [28510, 28609, 28706, 28803, 28898, 28992, 29085, 29177, 29268, 29358, 29447, 29534,
  29621, 29706, 29791, 29874, 29956, 30037, 30117, 30195, 30273, 30349, 30424, 30498, 30571, 30643, 30714,
  30783, 30852, 30919, 30985, 31050, 31113, 31176, 31237, 31297, 31356, 31414, 31470, 31526, 31580, 31633,
  31685]

/-- Entries of the quarter wave from 215 (R203). -/
def sinQ5 : List Nat := [31736, 31785, 31833, 31880, 31926, 31971, 32014, 32057, 32098, 32137, 32176, 32213,
  32250, 32285, 32318, 32351, 32382, 32412, 32441, 32469, 32495, 32521, 32545, 32567, 32589, 32609, 32628,
  32646, 32663, 32678, 32692, 32705, 32717, 32728, 32737, 32745, 32752, 32757, 32761, 32765, 32766, 32767]

/-- T[0] to T[256] of R203: rnd(32,767 × sin(2π·i/1,024)). -/
def sinQ : List Nat := sinQ0 ++ sinQ1 ++ sinQ2 ++ sinQ3 ++ sinQ4 ++ sinQ5

/-- T[i] of R203, from the quarter wave. -/
def sinT (i : Nat) : Int :=
  let j := i % 1024
  if j ≤ 256 then (sinQ.getD j 0 : Int) else if j ≤ 512 then (sinQ.getD (512 - j) 0 : Int)
  else if j ≤ 768 then -(sinQ.getD (j - 512) 0 : Int) else -(sinQ.getD (1024 - j) 0 : Int)

/-- sin of R203 at table index i and fraction f of 64. -/
def sinAt (i f : Nat) : Int := sinT i + roundEven ((sinT (i + 1) - sinT i) * f) 64

/-! ### The state of a run (R195, R196) -/

/-- An open LOOP: its body, how often it runs, and its present iteration. -/
structure LoopFrame where
  start : Nat
  stop : Nat
  count : Nat
  iter : Nat
  deriving DecidableEq, Repr

/-- What a run reads and what it has written. -/
structure RunSt where
  /-- Program words and constant segment. -/
  prog : List Nat
  consts : List Nat
  ins : List Nat
  inv : Nat
  /-- State words at the end of the last complete run. -/
  words : List Nat
  /-- Output values in force. -/
  outs : Tab Nat
  first : Bool
  blo : Nat
  pc : Nat
  loops : List LoopFrame := []
  w : Tab Nat := []
  a0 : Int := 0
  a1 : Int := 0
  lt : Bool := false
  eq : Bool := false
  sat : Bool := false
  /-- Output slots and state words written by this run. -/
  outW : Tab Nat := []
  wordW : Tab Nat := []
  /-- END has been executed. -/
  ended : Bool := false
  deriving DecidableEq, Repr

/-- Iteration of the innermost loop (LCNT). -/
def RunSt.lcnt (r : RunSt) : Nat :=
  match r.loops with
  | [] => 0
  | f :: _ => f.iter

/-- FLG (Table 8.2). -/
def RunSt.flg (r : RunSt) : Nat :=
  b2n r.eq * 2 ^ 19 + b2n r.lt * 2 ^ 18 + b2n r.first * 2 ^ 17 + b2n r.sat * 2 ^ 16 + r.inv % 2 ^ 16

/-- K0 to K7 (Table 8.1). -/
def loopK : List Nat := [0, 0x7FFF, 0xFFFF8000, 0x4000, 0x49E7, 0x6EDA, 0x5555, 0xFFFFC000]

/-- An output slot: written by this run, else in force, else 0 (R198). -/
def RunSt.out (r : RunSt) (j : Nat) : Nat := getD r.outW j (getD r.outs j 0)

/-- Operand code after the indexed codes IX0 to IX12, IXI and IXO have been resolved. -/
def RunSt.code (r : RunSt) (c : Nat) : Nat :=
  if 0x34 ≤ c && c ≤ 0x37 then (r.lcnt + 4 * (c - 0x34)) % 16
  else if c = 0x38 then 0x10 + r.lcnt % 16 else if c = 0x39 then 0x20 + r.lcnt % 8 else c

/-- The 32 bits an operand reads (Table 8.1). -/
def RunSt.rd (r : RunSt) (c : Nat) : Nat :=
  let c := r.code c
  if c < 0x10 then getD r.w c 0 else if c < 0x20 then r.ins.getD (c - 0x10) 0
  else if c < 0x28 then r.out (c - 0x20) else if c < 0x30 then loopK.getD (c - 0x28) 0
  else if c = 0x30 then r.flg else if c = 0x31 then r.lcnt else if c = 0x32 then r.blo % 2 ^ 32 else 0

/-- Write 32 bits to an operand. -/
def RunSt.wr (r : RunSt) (c v : Nat) : RunSt :=
  let c := r.code c
  let v := v % 2 ^ 32
  if c < 0x10 then { r with w := put r.w c v }
  else if 0x20 ≤ c && c < 0x28 then { r with outW := put r.outW (c - 0x20) v } else r

/-- A frac16 operand (R197). -/
def RunSt.rf (r : RunSt) (c : Nat) : Int := sx 16 (r.rd c)
/-- A signed 32-bit operand. -/
def RunSt.rw (r : RunSt) (c : Nat) : Int := sx 32 (r.rd c)
/-- A frac16 result, sign-extended (R197); its limiting sets sat. -/
def RunSt.wf (r : RunSt) (c : Nat) (v : Int × Bool) : RunSt :=
  { r.wr c (toBits 32 v.1) with sat := r.sat || v.2 }
/-- Set the sat flag. -/
def RunSt.note (r : RunSt) (b : Bool) : RunSt := { r with sat := r.sat || b }
/-- A state word (R196). -/
def RunSt.word (r : RunSt) (o : Nat) : Nat := getD r.wordW o (r.words.getD o 0)
/-- Write a state word. -/
def RunSt.setWord (r : RunSt) (o v : Nat) : RunSt := { r with wordW := put r.wordW o (v % 2 ^ 32) }
/-- An accumulator in state words o and o + 1 (Table 8.6). -/
def RunSt.acc40 (r : RunSt) (o : Nat) : Int := sx 40 (r.word o % 2 ^ 32 + r.word (o + 1) % 256 * 2 ^ 32)
/-- Write an accumulator to state words o and o + 1. -/
def RunSt.setAcc40 (r : RunSt) (o : Nat) (v : Int) : RunSt :=
  (r.setWord o (toBits 32 v)).setWord (o + 1) (toBits 32 (v / (2 ^ 32 : Nat)))
/-- Accumulator A0 or A1. -/
def RunSt.acc (r : RunSt) (one : Bool) : Int := if one then r.a1 else r.a0
/-- Set an accumulator, saturating (R171). -/
def RunSt.setAcc (r : RunSt) (one : Bool) (v : Int) : RunSt :=
  let (x, b) := satA v
  let r := r.note b
  if one then { r with a1 := x } else { r with a0 := x }
/-- A coefficient word times a frac16 value, in accumulator units (Table 8.5). -/
def coef (w : Nat) (e : Int) : Int := sx 16 w * e * (2 ^ bits w 19 16 : Nat)

/-- Condition of SKIP and SEL (R201). -/
def RunSt.cond (r : RunSt) (c : Nat) : Bool :=
  match c with
  | 0 => true
  | 1 => r.eq
  | 2 => !r.eq
  | 3 => r.lt
  | 4 => !r.lt
  | 5 => r.lt || r.eq
  | 6 => !(r.lt || r.eq)
  | 7 => r.inv != 0
  | 8 => r.inv == 0
  | 9 => r.sat
  | 10 => !r.sat
  | 11 => r.first
  | 12 => !r.first
  | _ => false

/-! ### Composite operations (Table 8.7) -/

/-- CLARKE. -/
def RunSt.clarke (r : RunSt) (d a x : Nat) : RunSt :=
  let p := r.rf a
  let q := r.rf (a + 1)
  let k : Int := 0x49E7
  let al := if x = 2 then sat16 (-(p + q)) else (p, false)
  let be := if x = 0 then (p + 2 * q) * k else if x = 1 then -((p + 2 * q) * k) else (p - q) * k
  (r.wf d al).wf (d + 1) (store16 be)

/-- PARK. -/
def RunSt.park (r : RunSt) (d a b : Nat) : RunSt :=
  let al := r.rf a
  let be := r.rf (a + 1)
  let s := r.rf b
  let c := r.rf (b + 1)
  (r.wf d (store16 (al * c + be * s))).wf (d + 1) (store16 (be * c - al * s))

/-- IPARK. -/
def RunSt.ipark (r : RunSt) (d a b : Nat) : RunSt :=
  let x := r.rf a
  let y := r.rf (a + 1)
  let s := r.rf b
  let c := r.rf (b + 1)
  (r.wf d (store16 (x * c - y * s))).wf (d + 1) (store16 (x * s + y * c))

/-- SINCOS (R203). -/
def RunSt.sincos (r : RunSt) (d a : Nat) : RunSt :=
  let i := bits (r.rd a) 15 6
  let f := bits (r.rd a) 5 0
  (r.wf d (sat16 (sinAt i f))).wf (d + 1) (sat16 (sinAt (i + 256) f))

/-- SVM, in units of 2^-31 before the last product. -/
def RunSt.svm (r : RunSt) (d a : Nat) : RunSt :=
  let al := r.rf a
  let be := r.rf (a + 1)
  let u := al * 65536
  let v := (-16384 * al + 0x6EDA * be) * 2
  let w := (-16384 * al - 0x6EDA * be) * 2
  let z := -((max u (max v w) + min u (min v w)) / 2)
  let st := fun (x : Int) => sat16 (roundEven ((x + z) * 2 * 0x49E7) (2 ^ 31))
  ((r.wf d (st u)).wf (d + 1) (st v)).wf (d + 2) (st w)

/-- VLIM. -/
def RunSt.vlim (r : RunSt) (d a b : Nat) : RunSt :=
  let x := r.rf a
  let y := r.rf (a + 1)
  let (L, sl) := sat16 (r.rf b).natAbs
  let q := (x * x + y * y).toNat
  let r := r.note sl
  if q ≤ L.natAbs * L.natAbs then ((r.wf d (x, false)).wf (d + 1) (y, false)).wr (d + 2) 0
  else
    let scale := fun (z : Int) =>
      let m : Int := isqrt (z.natAbs * z.natAbs * (L.natAbs * L.natAbs) / q) 20
      if z < 0 then -m else m
    ((r.wf d (scale x, false)).wf (d + 1) (scale y, false)).wr (d + 2) 1

/-- DIV. -/
def RunSt.div (r : RunSt) (d a b : Nat) : RunSt :=
  let x := r.rf a
  let y := r.rf b
  if y = 0 then r.wf d (if x = 0 then (0, true) else if x < 0 then (-32768, true) else (32767, true))
  else
    let n := if y < 0 then -(x * 32768) else x * 32768
    let m := y.natAbs
    if 32767 * (m : Int) < n then r.wf d (32767, true)
    else if n < -32768 * (m : Int) then r.wf d (-32768, true)
    else r.wf d (roundEven n m, false)

/-- SQRT. -/
def RunSt.sqrt (r : RunSt) (d a : Nat) : RunSt :=
  let x := r.rf a
  if x < 0 then r.wf d (0, true)
  else
    let n := x.natAbs * 32768
    let k := isqrt n 20
    r.wf d (if k * k + k < n then k + 1 else k, false)

/-- PID: each named quantity is formed exactly and saturates once (R202, R204). -/
def RunSt.pid (r : RunSt) (d a m : Nat) : RunSt :=
  let e := r.rf a
  let (l16, sl) := sat16 (r.rf d).natAbs
  let L := l16 * 32768
  let (p, s0) := satA (coef (r.word m) e)
  let (g, s1) := satA (coef (r.word (m + 1)) e)
  let (q, s2) := satA (coef (r.word (m + 2)) (e - sx 16 (r.word (m + 5))))
  let i := r.acc40 (m + 3)
  let (it, s3) := satA (i + g)
  let (ut, s4) := satA (p + it + q)
  let i' := if (L < ut && 0 < g) || (ut < -L && g < 0) then i else clampI (-L) L it
  let v := p + i' + q
  let lim := v < -L || L < v
  let r := (r.note (sl || s0 || s1 || s2 || s3 || s4)).wf d (store16 (clampI (-L) L v))
  let r := r.wr (d + 1) (b2n lim)
  (r.setAcc40 (m + 3) i').setWord (m + 5) (toBits 32 e)

/-- BIQ: every sum is exact and stored once (R202, R205). -/
def RunSt.biq (r : RunSt) (d a m : Nat) : RunSt :=
  let x := r.rf a
  let (y, s0) := store16 (coef (r.word m) x + r.acc40 (m + 5))
  let (z1, s1) := satA (coef (r.word (m + 1)) x - coef (r.word (m + 3)) y + r.acc40 (m + 7))
  let (z2, s2) := satA (coef (r.word (m + 2)) x - coef (r.word (m + 4)) y)
  let r := (r.note (s1 || s2)).wf d (y, s0)
  (r.setAcc40 (m + 5) z1).setAcc40 (m + 7) z2

/-! ### Instructions (Table 8.4) -/

/-- The plain instructions of format A below 0x20. -/
def RunSt.plain (r : RunSt) (op d a b x : Nat) : RunSt :=
  match op with
  | 0x02 => r.wr d (r.rd a)
  | 0x08 => r.wf d (sat16 (r.rf a + r.rf b))
  | 0x09 => r.wf d (sat16 (r.rf a - r.rf b))
  | 0x0A => r.wf d (sat16 (-(r.rf a)))
  | 0x0B => r.wf d (sat16 (r.rf a).natAbs)
  | 0x0C => r.wf d (min (r.rf a) (r.rf b), false)
  | 0x0D => r.wf d (max (r.rf a) (r.rf b), false)
  | 0x0E =>
    let (L, sl) := sat16 (r.rf b).natAbs
    (r.note sl).wf d (clampI (-L) L (r.rf a), false)
  | 0x0F => r.wf d (store16 (r.rf a * r.rf b))
  | 0x10 => r.wf d (store16 (r.rf a * r.rf b * (2 ^ x : Nat)))
  | 0x11 => { r with lt := r.rf a < r.rf b, eq := r.rf a == r.rf b }
  | 0x12 => r.wr d (if r.cond x then r.rd a else r.rd b)
  | 0x13 => r.wf d (roundEven (r.rf a) (2 ^ x), false)
  | 0x14 => r.wr d (r.rd a + r.rd b)
  | 0x15 => r.wr d (r.rd a + 2 ^ 32 - r.rd b)
  | 0x16 => r.wr d (r.rd a * r.rd b)
  | 0x17 => r.wr d (r.rd a * 2 ^ x)
  | 0x18 => r.wr d (toBits 32 (r.rw a / (2 ^ x : Nat)))
  | 0x19 => r.wr d (r.rd a &&& r.rd b)
  | 0x1A => r.wr d (r.rd a ||| r.rd b)
  | 0x1B => r.wr d (r.rd a ^^^ r.rd b)
  | 0x1C => r.wf d (sat16 (roundEven (r.rw a) (2 ^ x)))
  | 0x1D => r.wr d (toBits 32 (r.rf a * (2 ^ x : Nat)))
  | 0x1E => { r with lt := r.rw a < r.rw b, eq := r.rw a == r.rw b }
  | _ => r

/-- The accumulator and composite instructions of format A from 0x20. -/
def RunSt.wide (r : RunSt) (op d a b x : Nat) : RunSt :=
  let one := bitAt x 7
  let sh := bits x 4 0
  match op with
  | 0x20 => r.setAcc one 0
  | 0x21 => r.setAcc one (r.rf a * 32768)
  | 0x22 => r.setAcc one (r.acc one + r.rf a * r.rf b)
  | 0x23 => r.setAcc one (r.acc one - r.rf a * r.rf b)
  | 0x24 => r.setAcc one (r.acc one + r.rf a * 32768)
  | 0x25 => r.setAcc one (roundEven (r.acc one) (2 ^ sh))
  | 0x26 => r.wf d (store16 (r.acc one * (2 ^ sh : Nat)))
  | 0x38 => r.clarke d a x
  | 0x39 => r.park d a b
  | 0x3A => r.ipark d a b
  | 0x3B => r.sincos d a
  | 0x3C => r.svm d a
  | 0x3D => r.vlim d a b
  | 0x3E => r.div d a b
  | 0x3F => r.sqrt d a
  | _ => r

/-- One instruction word, executed at the run's pc (Tables 8.3 and 8.4). -/
def RunSt.instr (r : RunSt) (i : Nat) : RunSt :=
  let op := bits i 31 26
  let d := bits i 25 20
  let a := bits i 19 14
  let nx := { r with pc := r.pc + 1 }
  match op with
  | 0x03 => nx.wr d (toBits 32 (sx 16 i))
  | 0x04 => nx.wr d (bits i 15 0 * 2 ^ 16 + r.rd d % 2 ^ 16)
  | 0x05 => nx.wr d (r.word (bits i 15 0))
  | 0x06 => nx.setWord (bits i 15 0) (r.rd d)
  | 0x07 => nx.wr d (r.consts.getD (bits i 15 0) 0)
  | 0x27 => nx.setAcc (bitAt i 19) (r.acc40 (bits i 15 0))
  | 0x28 => nx.setAcc40 (bits i 15 0) (r.acc (bitAt i 19))
  | 0x30 => if r.cond (bits i 16 12) then { r with pc := r.pc + 1 + bits i 11 0 } else nx
  | 0x31 => { nx with loops := { start := r.pc + 1, stop := r.pc + 1 + bits i 11 0, count := bits i 25 17, iter := 0 } :: r.loops }
  | 0x32 => { nx with ended := true }
  | 0x34 => nx.pid d a (bits i 13 0)
  | 0x35 => nx.biq d a (bits i 13 0)
  | _ =>
    if op < 0x20 then nx.plain op d a (bits i 13 8) (bits i 7 0) else nx.wide op d a (bits i 13 8) (bits i 7 0)

/-- One move of a run: the end of a loop's pass, or one instruction. -/
def RunSt.move (r : RunSt) : RunSt :=
  match r.loops with
  | f :: rest =>
    if r.pc = f.stop then
      if f.iter + 1 < f.count then { r with pc := f.start, loops := { f with iter := f.iter + 1 } :: rest }
      else { r with loops := rest }
    else r.instr (r.prog.getD r.pc 0)
  | [] => r.instr (r.prog.getD r.pc 0)

/-- Run to END; the fuel bounds the moves (every program ends within its worst-case count, R207). -/
def RunSt.go (r : RunSt) (fuel : Nat) : RunSt :=
  match fuel with
  | 0 => r
  | k + 1 => if r.ended then r else r.move.go k

/-! ### The worst-case op count (R207) -/

/-- Cost of an instruction in ops (Table 8.4). -/
def opCost (op : Nat) : Nat :=
  match op with
  | 0x05 => 4
  | 0x06 => 4
  | 0x07 => 4
  | 0x0F => 2
  | 0x10 => 2
  | 0x16 => 2
  | 0x22 => 2
  | 0x23 => 2
  | 0x27 => 6
  | 0x28 => 6
  | 0x38 => 8
  | 0x39 => 14
  | 0x3A => 14
  | _ => if 0x34 ≤ op then 16 else 1

/-- Worst-case ops from address i up to stop, by the procedure of R207; every call is at a higher address,
so the fuel of the program's length is enough. -/
def wcFrom (p : List Nat) (i stop fuel : Nat) : Nat :=
  match fuel with
  | 0 => 0
  | k + 1 =>
    if i = stop then 0
    else
      let w := p.getD i 0
      match bits w 31 26 with
      | 0x32 => 1
      | 0x30 =>
        let t := i + 1 + bits w 11 0
        if bits w 16 12 = 0 then 1 + wcFrom p t stop k
        else 1 + max (wcFrom p (i + 1) stop k) (wcFrom p t stop k)
      | 0x31 =>
        let e := i + 1 + bits w 11 0
        2 + bits w 25 17 * (wcFrom p (i + 1) e k + 1) + wcFrom p e stop k
      | op => opCost op + wcFrom p (i + 1) stop k

/-- wc_ops of the program of words p (R207). -/
def wcOps (p : List Nat) : Nat := wcFrom p 0 p.length (p.length + 1)

/-! ### The checks of a program (R200, R202, R206, R208) -/

/-- Operand code is legal to read. -/
def rdOk (c : Nat) : Bool := c ≤ 0x32 || (0x34 ≤ c && c ≤ 0x39)
/-- Operand code is legal to write. -/
def wrOk (c : Nat) : Bool := c < 0x10 || (0x20 ≤ c && c < 0x28) || (0x34 ≤ c && c ≤ 0x37) || c = 0x39
/-- Operand code is indexed by LCNT. -/
def ixCode (c : Nat) : Bool := 0x34 ≤ c && c ≤ 0x39
/-- k operands from c lie within one of W, IN and OUT (R202). -/
def groupOk (c k : Nat) : Bool :=
  c + k ≤ 0x10 || (0x10 ≤ c && c + k ≤ 0x20) || (0x20 ≤ c && c + k ≤ 0x28)

/-- Which fields an instruction of format A uses. -/
structure FmtA where
  d : Bool
  a : Bool
  b : Bool
  /-- Largest x. -/
  x : Nat := 0
  /-- Accumulator instruction with its largest shift. -/
  acc : Option Nat := none

/-- Format A rows of Table 8.4. -/
def fmtA (op : Nat) : Option FmtA :=
  match op with
  | 0x01 => some { d := false, a := false, b := false }
  | 0x02 => some { d := true, a := true, b := false }
  | 0x0A => some { d := true, a := true, b := false }
  | 0x0B => some { d := true, a := true, b := false }
  | 0x10 => some { d := true, a := true, b := true, x := 15 }
  | 0x11 => some { d := false, a := true, b := true }
  | 0x12 => some { d := true, a := true, b := true, x := 12 }
  | 0x13 => some { d := true, a := true, b := false, x := 15 }
  | 0x17 => some { d := true, a := true, b := false, x := 31 }
  | 0x18 => some { d := true, a := true, b := false, x := 31 }
  | 0x1C => some { d := true, a := true, b := false, x := 31 }
  | 0x1D => some { d := true, a := true, b := false, x := 31 }
  | 0x1E => some { d := false, a := true, b := true }
  | 0x20 => some { d := false, a := false, b := false, acc := some 0 }
  | 0x21 => some { d := false, a := true, b := false, acc := some 0 }
  | 0x22 => some { d := false, a := true, b := true, acc := some 0 }
  | 0x23 => some { d := false, a := true, b := true, acc := some 0 }
  | 0x24 => some { d := false, a := true, b := false, acc := some 0 }
  | 0x25 => some { d := false, a := false, b := false, acc := some 31 }
  | 0x26 => some { d := true, a := false, b := false, acc := some 9 }
  | 0x38 => some { d := true, a := true, b := false, x := 2 }
  | 0x39 => some { d := true, a := true, b := true }
  | 0x3A => some { d := true, a := true, b := true }
  | 0x3B => some { d := true, a := true, b := false }
  | 0x3C => some { d := true, a := true, b := false }
  | 0x3D => some { d := true, a := true, b := true }
  | 0x3E => some { d := true, a := true, b := true }
  | 0x3F => some { d := true, a := true, b := false }
  | _ => if (0x08 ≤ op && op ≤ 0x0F) || (0x14 ≤ op && op ≤ 0x16) || (0x19 ≤ op && op ≤ 0x1B) then
           some { d := true, a := true, b := true } else none

/-- Operand groups of the composite instructions (R202). -/
def groupsOk (op d a b : Nat) : Bool :=
  match op with
  | 0x34 => groupOk d 2
  | 0x38 => groupOk d 2 && groupOk a 2
  | 0x39 => groupOk d 2 && groupOk a 2 && groupOk b 2
  | 0x3A => groupOk d 2 && groupOk a 2 && groupOk b 2
  | 0x3B => groupOk d 2
  | 0x3C => groupOk d 3 && groupOk a 2
  | 0x3D => groupOk d 3 && groupOk a 2
  | _ => true

/-- An instruction word's own fields (R200, R202, R208), with the state size and the number of constants. -/
def instrOk (w size nConst : Nat) : Bool :=
  let op := bits w 31 26
  let d := bits w 25 20
  let a := bits w 19 14
  let b := bits w 13 8
  let x := bits w 7 0
  let m := bits w 13 0
  let off := bits w 15 0
  match op with
  | 0x03 => wrOk d && bits w 19 16 = 0
  | 0x04 => wrOk d && bits w 19 16 = 0
  | 0x05 => wrOk d && bits w 19 16 = 0 && off < size
  | 0x06 => rdOk d && bits w 19 16 = 0 && off < size
  | 0x07 => wrOk d && bits w 19 16 = 0 && off < nConst
  | 0x27 => d = 0 && bits w 18 16 = 0 && off + 1 < size
  | 0x28 => d = 0 && bits w 18 16 = 0 && off + 1 < size
  | 0x30 => bits w 25 17 = 0 && bits w 16 12 ≤ 12
  | 0x31 => bits w 16 12 = 0 && 1 ≤ bits w 25 17 && bits w 25 17 ≤ 256 && 1 ≤ bits w 11 0
  | 0x32 => bits w 25 0 = 0
  | 0x34 => wrOk d && rdOk a && groupsOk op d a 0 && m + 6 ≤ size
  | 0x35 => wrOk d && rdOk a && m + 9 ≤ size
  | _ =>
    match fmtA op with
    | none => false
    | some f =>
      (if f.d then wrOk d else d = 0) && (if f.a then rdOk a else a = 0) && (if f.b then rdOk b else b = 0)
      && (match f.acc with
          | some k => bits x 6 5 = 0 && bits x 4 0 ≤ k
          | none => x ≤ f.x)
      && groupsOk op d a b

/-- Operands of a word, for the rules on indexed operands. -/
def operands (w : Nat) : List Nat :=
  let op := bits w 31 26
  if 0x30 ≤ op && op ≤ 0x32 then []
  else if op = 0x27 || op = 0x28 then []
  else if (0x03 ≤ op && op ≤ 0x07) then [bits w 25 20]
  else if op = 0x34 || op = 0x35 then [bits w 25 20, bits w 19 14]
  else [bits w 25 20, bits w 19 14, bits w 13 8]

/-- The loop bodies of a program: first address, end address and count, outer before inner. -/
def loopBodies (p : List Nat) : List (Nat × Nat × Nat) :=
  ((List.range p.length).filter (fun i => bits (p.getD i 0) 31 26 = 0x31)).map (fun i =>
    (i + 1, i + 1 + bits (p.getD i 0) 11 0, bits (p.getD i 0) 25 17))

/-- The bodies that hold address i. -/
def bodiesAt (ls : List (Nat × Nat × Nat)) (i : Nat) : List (Nat × Nat × Nat) :=
  ls.filter (fun b => b.1 ≤ i && i < b.2.1)

/-- The control-flow rules of R206 for the word at address i. -/
def flowOk (p : List Nat) (ls : List (Nat × Nat × Nat)) (i : Nat) : Bool :=
  let w := p.getD i 0
  let op := bits w 31 26
  let here := bodiesAt ls i
  let t := i + 1 + bits w 11 0
  here.length ≤ 2
  && (op != 0x32 || here.isEmpty)
  && (op != 0x30 ||
      (t < p.length && (match here.getLast? with
        | none => (bodiesAt ls t).isEmpty
        | some b => b.1 ≤ t && t ≤ b.2.1
                    && (t == b.2.1 || (bodiesAt ls t).length ≤ here.length))))
  && (op != 0x31 || (t < p.length && here.length ≤ 1 && here.all (fun b => t ≤ b.2.1)))
  && (operands w).all (fun c => !ixCode c ||
      (match here.getLast? with
       | none => false
       | some b => (c != 0x39 || b.2.2 ≤ 8) && (c != 0x38 || b.2.2 ≤ 16)))

/-- A program passes R208 with a state size and a number of constants. -/
def progOk (p : List Nat) (size nConst : Nat) : Bool :=
  let ls := loopBodies p
  p.getLast? == some (0x32 * 2 ^ 26) && (List.range p.length).all (fun i =>
    instrOk (p.getD i 0) size nConst && flowOk p ls i)
  && wcOps p ≤ 65535

end Sys2Proof.Machine
end

