-- ==== Sys2Proof/Machine/LpeOps.lean ====
section
/-! DEFINITION. The loop engine (chapters 07 and 08): contexts and bindings, their checks and admission,
conversions of values, loop images and profile generators: shared operations. -/

namespace Sys2Proof.Machine

def State.ctx (s : State) (c : Nat) : Ctx := getD s.lpe.ctxs c {}
def State.setCtx (s : State) (c : Nat) (v : Ctx) : State := { s with lpe := { s.lpe with ctxs := put s.lpe.ctxs c v } }
def State.pgn (s : State) (u : Nat) : Pgn := getD s.lpe.pgns u {}
def State.setPgn (s : State) (u : Nat) (v : Pgn) : State := { s with lpe := { s.lpe with pgns := put s.lpe.pgns u v } }

/-- A register of the context or binding window, by register key. -/
def State.lw (s : State) (k : Nat) : Nat := (getD s.lpe.win k (BitVec.ofNat 32 (regReset k))).toNat
def State.lf (s : State) (k hi lo : Nat) : Nat := bits (s.lw k) hi lo
def State.setLw (s : State) (k v : Nat) : State := { s with lpe := { s.lpe with win := put s.lpe.win k (BitVec.ofNat 32 v) } }

/-- Key of LPE_CTX_CFG of context c; PER, PROG and DATA follow at +4, +8 and +12 (Table 7.2). -/
def ctxKey (c : Nat) : Nat := 0x10000 + 0x10 * c
/-- Key of LPE_BIND_CFG of a binding; SCALE and VAL follow (Table 7.4). -/
def bindKey (c : Nat) (out : Bool) (slot : Nat) : Nat := 0x20000 + 0x10 * (c * 32 + (if out then 16 else 0) + slot)

def State.ctxEn (s : State) (c : Nat) : Bool := bitAt (s.lw (ctxKey c)) 31
def State.ctxLane (s : State) (c : Nat) : Nat := s.lf (ctxKey c) 30 29
def State.ctxSet (s : State) (c : Nat) : Nat := s.lf (ctxKey c) 28 24
def State.ctxOvrMax (s : State) (c : Nat) : Nat := s.lf (ctxKey c) 23 16
def State.ctxN (s : State) (c : Nat) : Nat := s.lf (ctxKey c + 4) 28 16
def State.ctxPhase (s : State) (c : Nat) : Nat := s.lf (ctxKey c + 4) 11 0
def State.ctxEntry (s : State) (c : Nat) : Nat := s.lf (ctxKey c + 8) 14 0
def State.ctxBase (s : State) (c : Nat) : Nat := s.lf (ctxKey c + 12) 31 16
def State.ctxSize (s : State) (c : Nat) : Nat := s.lf (ctxKey c + 12) 14 0

/-- B is a boundary of context c (R160). -/
def State.ctxAt (s : State) (c B : Nat) : Bool := B % s.ctxN c == s.ctxPhase c

/-- One binding (Table 7.4). -/
structure Bind where
  en : Bool
  kind : Nat
  index : Nat
  line : Nat
  fmt : Nat
  stop : Nat
  sub : Nat
  mul : Int
  sh : Nat
  ofs : Int
  val : Int
  deriving DecidableEq, Repr

/-- The binding of a context, direction and slot. -/
def State.bind (s : State) (c : Nat) (out : Bool) (slot : Nat) : Bind :=
  let k := bindKey c out slot
  let w := s.lw k
  { en := bitAt w 31, kind := bits w 30 26, index := bits w 25 18, line := bits w 17 13, fmt := bits w 12 11
    stop := bits w 10 9, sub := bits w 8 5, mul := sx 16 (s.lf (k + 4) 31 16), sh := s.lf (k + 4) 15 11
    ofs := sx 16 (s.lf (k + 8) 31 16), val := sx 16 (s.lf (k + 8) 15 0) }

/-- Enabled bindings of a context that are used, with their slots. -/
def State.binds (s : State) (c : Nat) (out : Bool) : List (Nat × Bind) :=
  ((List.range (if out then 8 else 16)).map (fun j => (j, s.bind c out j))).filter (fun x => x.2.en && x.2.kind != 0)

/-- Context and slot of every output binding whose registers have been written. -/
def State.outKeys (s : State) : List (Nat × Nat) :=
  (s.lpe.win.filter (fun x => 0x20000 ≤ x.1 && (x.1 - 0x20000) % 0x10 == 0 && 16 ≤ (x.1 - 0x20000) / 0x10 % 32)).map
    (fun x => ((x.1 - 0x20000) / 0x200, (x.1 - 0x20000) / 0x10 % 16))

/-- How many enabled output bindings name a target (R170). -/
def State.targetCount (s : State) (kind index sub : Nat) : Nat :=
  (s.outKeys.filter (fun x =>
    let b := s.bind x.1 true x.2
    b.en && b.kind == kind && b.index == index && b.sub == sub)).length

/-- An enabled output binding names cmp0 of a BK leg (R45, Table 7.6). -/
def State.lpeOwnsCmp (s : State) (n : Nat) : Bool := 0 < s.targetCount 1 n 0

/-! ### Triggers and conversions (R67 to R69, R168) -/

/-- Trigger k of leg n: its selection, its line, the carriers from one to the next, and its instant in a period that
uses the values of set v, from the carrier start (R67). -/
def State.trigSel (s : State) (n k : Nat) : Nat :=
  if k = 0 then s.fld (legBase n + 0x1C) 12 11 else s.fld (legBase n + 0x1C) 21 20

def State.trigLine (s : State) (n k : Nat) : Nat :=
  if k = 0 then s.fld (legBase n + 0x1C) 10 6 else s.fld (legBase n + 0x1C) 19 15

def State.trigDiv (s : State) (n : Nat) : Nat := max 1 (s.fld (legBase n + 0x1C) 27 24)

def State.trigOfs (s : State) (n k : Nat) (v : LegSet) : Nat :=
  match s.trigSel n k with
  | 1 => 0
  | 2 => v.period * 16
  | _ => if k = 0 then v.trg0 else v.trg1

/-- Triggers that pulse a line: leg and trigger. -/
def State.lineTrigs (s : State) (l : Nat) : List (Nat × Nat) :=
  ((List.range 68).map (fun n => ([0, 1] : List Nat).map (fun k => (n, k)))).flatten.filter (fun x =>
    s.trigSel x.1 x.2 != 0 && s.trigLine x.1 x.2 == l)

/-- Legs that drive a trigger line. -/
def State.lineLegs (s : State) (l : Nat) : List Nat := ((s.lineTrigs l).map (·.1)).foldl insN []

/-- Boundary count at which sync group j restarts, modulo its div: 0 unless it has started later (R63). -/
def State.sgOffset (s : State) (j : Nat) : Nat :=
  let g := getD s.mod.sgs j {}
  let div := s.fld (0x2100 + 4 * j) 12 0
  if g.started && 0 < div then (s.boundary + div - g.cnt % div) % div else 0

/-- The sync group of a leg restarts at every boundary of context c (R170); `same`: and at no other one
(R160). -/
def State.legRestarts (s : State) (n c : Nat) (same : Bool) : Bool :=
  let j := s.legSync n
  let div := s.fld (0x2100 + 4 * j) 12 0
  j ≤ 7 && s.rb (0x2100 + 4 * j) 31 && 0 < div && s.ctxN c % div == 0 && s.ctxPhase c % div == s.sgOffset j
  && (!same || s.ctxN c == div)

/-- AFE inputs bound on a line, ascending. -/
def State.lineInputs (s : State) (l : Nat) : List Nat :=
  (List.range 96).filter (fun i => (s.lpe.win.filter (fun x => 0x20000 ≤ x.1 && (x.1 - 0x20000) % 0x10 == 0
      && (x.1 - 0x20000) / 0x10 % 32 < 16)).any (fun x =>
    let w := x.2.toNat
    bitAt w 31 && bits w 30 26 == 1 && bits w 25 18 == i && bits w 17 13 == l))

/-- Lines other than l that start conversions on converter v. -/
def State.otherLines (s : State) (l v : Nat) : List Nat :=
  (List.range 32).filter (fun m => m != l && (s.lineInputs m).any (fun i => i / 4 == v))

/-- Position of input i of line l on its converter, counting the inputs of the other lines that the
configuration can place ahead of it (R168). -/
def State.convPos (s : State) (l i : Nat) : Nat :=
  ((s.lineInputs l).filter (fun j => j / 4 == i / 4 && j < i)).length
  + ((s.otherLines l (i / 4)).map (fun m => ((s.lineInputs m).filter (fun j => j / 4 == i / 4)).length)).sum

/-- The latest tick, from a restart of the leg's group, of its first trigger k at or after the restart: e is the trigger's
instant in the carrier that begins at the restart, and that carrier is a multiple of the gcd of the carriers between
restarts and the trigger's division from a carrier that triggers (R63, R67, R168). -/
def State.trigFirst (s : State) (n k : Nat) : Nat :=
  let v := (s.leg n).shadow
  let T := v.period * 32
  let e := s.trigOfs n k v + (if s.legMode n = 2 then v.ph else 0)
  let d := s.trigDiv n
  let g := if v.period = 0 then d else Nat.gcd (s.fld (0x2100 + 4 * s.legSync n) 12 0 * s.clapP / v.period) d
  let first := fun (r : Nat) =>
    if (r + d - 1) % d = 0 && T ≤ e then e - T else (d - r) % d * T + e
  ((((List.range d).filter (fun r => r % g == 0)).map first).foldl max 0) / 32

/-- The latest tick from a context's boundary of the first trigger of a line at or after it (R168). -/
def State.lineFirst (s : State) (l : Nat) : Nat :=
  match (s.lineTrigs l).map (fun x => s.trigFirst x.1 x.2) with
  | [] => 0
  | a :: r => r.foldl min a

/-- The ready time of an input binding, from the boundary: an AFE input's conversion starts with its line's trigger
(R168, R173). -/
def State.bindReady (s : State) (b : Bind) : Nat :=
  match b.kind with
  | 1 => s.lineFirst b.line + 260 + 80 * s.convPos b.line b.index
  | 2 =>
    let r := 0x3400 + 0x20 * b.index
    let half := s.fld (r + 0xC) 31 21
    let nb := s.fld (r + 0xC) 20 15
    if s.fld r 30 28 = 4 then 2 * half * (nb + 1) else if s.fld r 30 28 = 5 then 8000 + 2 * half * (nb + 8) else 0
  | _ => 0

/-- t_in of context c (R173). -/
def State.ctxTin (s : State) (c : Nat) : Nat := ((s.binds c false).map (fun x => s.bindReady x.2)).foldl max 0

/-! ### The check of a context (R163, R170, R177) -/

/-- An input binding's fields (Tables 7.4 and 7.5, R170). -/
def State.inBindOk (s : State) (c : Nat) (b : Bind) : Bool :=
  b.kind ≤ 9 && b.fmt ≤ 1 && b.stop == 0
  && (match b.kind with
      | 1 => b.index ≤ 95 && (s.lineLegs b.line).all (fun n => s.legRestarts n c false)
      | 2 => b.index ≤ 15 && b.sub ≤ 3
      | 3 => b.index ≤ 3 && b.sub ≤ 2
      | 5 => b.index ≤ 15 && b.sub ≤ 2
      | 6 => b.index ≤ 191 && b.sub ≤ 7
      | 7 => b.index ≤ 159 && b.sub ≤ 1
      | 8 => b.index ≤ 1
      | 9 => b.index ≤ 127
      | _ => true)

/-- LPE is the writer of the target of an output binding in the owning block (R170); on a BK leg the lock has fixed it
(R45). -/
def State.lpeWrites (s : State) (b : Bind) : Bool :=
  match b.kind with
  | 1 => b.index ≤ 13 && b.sub ≤ 3
         && (!s.lock.done || b.index < 12 || b.sub != 0 || s.mod.lpeBk.contains b.index)
  | 2 => b.index ≤ 47 && s.dutySrc b.index == 1
  | 3 => b.index ≤ 1 && (b.sub ≤ 5 || b.sub == 15)
  | 4 => b.index ≤ 11 && b.sub == 0 && s.rb (0x3C00 + 0x40 * b.index) 26
  | 5 => b.index ≤ 15 && s.rb (0x3A00 + 0x20 * b.index) 29
  | 6 => true
  | 7 => b.index ≤ 15 && s.rb (0x3780 + 8 * b.index) 20
  | _ => false

/-- An output binding's fields (Tables 7.4 and 7.6, R170). -/
def State.outBindOk (s : State) (c : Nat) (b : Bind) : Bool :=
  b.kind ≤ 7 && b.stop != 3
  && (b.fmt ≤ 1 || (b.kind == 1 && b.sub ≤ 1) || b.kind == 2)
  && (b.stop != 2 || b.kind == 1 || b.kind == 2)
  && s.lpeWrites b && (b.kind == 6 || s.targetCount b.kind b.index b.sub ≤ 1)
  && (b.kind != 1 || s.legRestarts b.index c true)

/-- The program of context c: the one of its set whose start is its entry (R210). -/
def State.ctxProg (s : State) (c : Nat) : Option (LSet × List Nat) :=
  if !(s.ctx c).alloc then none
  else
    (s.lpe.sets.filter (fun x => x.1 == s.ctxSet c)).findSome? (fun x =>
      (x.2.ptab.find? (fun p => x.2.progAt + p.1 == s.ctxEntry c)).map (fun p => (x.2, (x.2.prog.drop p.1).take p.2)))

/-- State areas of two contexts overlap (R163). -/
def State.areaClash (s : State) (a b : Nat) : Bool :=
  let x := s.ctxBase a
  let y := s.ctxBase b
  x < y + 2 * s.ctxSize b && y < x + 2 * s.ctxSize a

/-- What is wrong with context c but for admission: 1 a field, 2 its state area, 3 a binding, 4 its entry
(R163); 0 nothing. -/
def State.ctxFault (s : State) (c : Nat) : Nat :=
  let n := s.ctxN c
  if !(1 ≤ n && n ≤ 4096 && s.ctxPhase c < n && 1 ≤ s.ctxOvrMax c) then 1
  else if 65536 < s.ctxBase c + 2 * s.ctxSize c
    || s.lpe.ctxs.any (fun x => x.1 != c && x.2.alloc && s.areaClash c x.1) then 2
  else if !((s.binds c false).all (fun x => s.inBindOk c x.2) && (s.binds c true).all (fun x => s.outBindOk c x.2)) then 3
  else if (s.ctxProg c).isNone then 4 else 0

/-- wc_ops of context c (R207). -/
def State.ctxWc (s : State) (c : Nat) : Nat :=
  match s.ctxProg c with
  | some p => wcOps p.2
  | none => 0

/-- t_op in hundredths of a tick (Table 7.8). -/
def opTime (m : CoreMode) : Nat :=
  match m with
  | .perf => 72
  | .nom => 96
  | .eco => 144

/-- The mode of two with the slower figures. -/
def CoreMode.slower : CoreMode → CoreMode → CoreMode
  | .eco, _ => .eco
  | .nom, .eco => .eco
  | .nom, _ => .nom
  | .perf, m => m

/-- The core mode that work is judged by: the slower of the two while a change is in progress (R38, R179, R566). -/
def State.selMode (s : State) : CoreMode :=
  match s.gaf.changing with
  | some (m, _) => s.gaf.coreNow.slower m
  | none => s.gaf.coreNow

/-- The clapper period that work is budgeted for (R32). -/
def State.minClap (s : State) : Nat := if s.rb 0x808 30 then s.clapP - s.fld 0x80C 7 0 else s.clapP

/-- w and d of admission check for context c, w in hundredths of a tick (R177). -/
def State.admTerm (s : State) (m : CoreMode) (c : Nat) : Nat × Int :=
  (((s.ctx c).wcOps + 48 + 2 * ((s.binds c false).length + (s.binds c true).length)) * opTime m,
   (s.ctxN c * s.minClap : Nat) - ((s.ctx c).tIn : Int))

/-- Context c has been admitted: it starts with the clapper, or its CTX_START waits for its boundary (R163, R182). -/
def State.ctxStarting (s : State) (c : Nat) : Bool := (s.ctx c).armed || s.hif.pend.any (fun p => p.act == .ctxStart c)

/-- Contexts of a lane that are ACTIVE or admitted. -/
def State.laneCtxs (s : State) (l : Nat) : List Nat :=
  (s.lpe.ctxs.filter (fun x => (x.2.st == .active || s.ctxStarting x.1) && s.ctxLane x.1 == l)).map (·.1)

/-- The density u of a list of contexts as a fraction (R177); none when some d is not above 0. -/
def State.density (s : State) (m : CoreMode) (cs : List Nat) : Option (Nat × Nat) :=
  cs.foldl (fun u c =>
    match u with
    | none => none
    | some (p, q) =>
      let (w, d) := s.admTerm m c
      if d ≤ 0 then none else some (p * (100 * d.toNat) + w * q, q * (100 * d.toNat))) (some (0, 1))

/-- Admission (R177). -/
def State.admits (s : State) (m : CoreMode) (cs : List Nat) : Bool :=
  match s.density m cs with
  | none => false
  | some (p, q) => 10 * p ≤ 9 * q

/-- A density in 1/65,536; all ones where some d is not above 0 (Table 7.3). -/
def densWord (u : Option (Nat × Nat)) : Nat :=
  match u with
  | none => 0xFFFFFFFF
  | some (p, q) => p * 65536 / q

/-- Check context c; the answer says whether it passes (R163).  wc_ops and t_in are computed with it. -/
def State.ctxCheck (s : State) (m : CoreMode) (c : Nat) : State × Bool :=
  let s := s.setCtx c { s.ctx c with wcOps := s.ctxWc c, tIn := s.ctxTin c }
  let f := s.ctxFault c
  if f != 0 then (s.raise 103 [c, f], false)
  else
    let cs := (s.laneCtxs (s.ctxLane c)).filter (fun x => x != c) ++ [c]
    if s.admits m cs then (s, true) else (s.raise 102 [s.ctxLane c, densWord (s.density m cs)], false)

/-- Every lane passes admission check in mode m; else EV102 of the first that does not (R179). -/
def State.lanesAdmit (s : State) (m : CoreMode) : State × Bool :=
  match (List.range 4).find? (fun l => !s.admits m (s.laneCtxs l)) with
  | none => (s, true)
  | some l => (s.raise 102 [l, densWord (s.density m (s.laneCtxs l))], false)

/-! ### Values (R166, R167, R183) -/

/-- The value an input binding delivers of a raw source value (R166). -/
def Bind.inVal (b : Bind) (raw : Int) : Nat :=
  if b.fmt = 0 then toBits 32 (clampI (-32768) 32767 (roundEven (raw * b.mul) (2 ^ b.sh) + b.ofs)) else toBits 32 raw

/-- Raw value of a HOST slot (R183). -/
def State.hostRaw (s : State) (c slot : Nat) : Int :=
  match (s.ctx c).host.find? (fun x => x.1 == slot) with
  | some x => sx 32 x.2
  | none => (s.bind c false slot).val

/-- Write a HOST slot (R183). -/
def State.hostPut (s : State) (c slot v : Nat) : State :=
  s.setCtx c { s.ctx c with host := put (s.ctx c).host slot (v % 2 ^ 32) }

/-- A write of a HOST slot by a block at this tick: a boundary of this same tick that is still to come latches the old value,
since only a boundary of a greater tick sees a write (R184). -/
def State.hostPutAt (s : State) (c slot v : Nat) : State :=
  if s.tbu.running && s.tbu.nextB ≤ s.now then { s with lpe := { s.lpe with late := s.lpe.late ++ [(c, slot, v)] } }
  else s.hostPut c slot v

/-- The writes that have waited for the boundary's input latch (R184). -/
def State.hostLate (s : State) : State :=
  s.lpe.late.foldl (fun s x => s.hostPut x.1 x.2.1 x.2.2) { s with lpe := { s.lpe with late := [] } }

/-- The range of an output target's field (Tables 7.6 and 9.9). -/
def State.targetRange (s : State) (b : Bind) : Int × Int :=
  match b.kind with
  | 1 => if b.sub = 0 then (0, 2 ^ 37 - 1) else (0, ((s.leg b.index).shadow.period * 32 : Nat) - 1)
  | 2 => (0, 65536)
  | 3 => (0, 4095)
  | 4 => (-2 ^ 15, 2 ^ 15 - 1)
  | _ => (-2 ^ 31, 2 ^ 31 - 1)

/-- A RAW32 word as its target reads it: unchanged, as far as the target's field has bits for it (R167).  DEDUCED
(notes/assumptions/19.md). -/
def rawOut (kind w : Nat) : Int :=
  match kind with
  | 1 => w
  | 2 => bits w 16 0
  | 3 => bits w 11 0
  | 4 => sx 16 w
  | _ => sx 32 w

/-- The value an output binding takes from a stored word, and whether it was limited (R167). -/
def State.outVal (s : State) (b : Bind) (w : Nat) : Int × Bool :=
  let v := sx 16 w
  let (lo, hi) := s.targetRange b
  let T := (s.leg b.index).shadow.period
  match b.fmt with
  | 0 =>
    let x := roundEven (v * b.mul) (2 ^ b.sh)
    (clampI lo hi x, x < lo || hi < x)
  | 1 => (rawOut b.kind w, false)
  | 2 => if b.kind = 1 then (roundEven (max v 0 * 32 * T) 32768, false) else (max v 0 * 2, false)
  | _ => if b.kind = 1 then (roundEven ((v + 32768) * 32 * T) 65536, false) else (v + 32768, false)

/-! ### The start at lock and with the clapper (Tables 7.1 and 7.10) -/

/-- Contexts with en = 1 at lock, in ascending number (R163). -/
def State.ctxLockCheck (s : State) (m : CoreMode) : State × Bool :=
  (List.range 192).foldl (fun x c =>
    if !x.1.ctxEn c then x
    else
      let (s, ok) := x.1.ctxCheck m c
      if ok then (s.setCtx c { s.ctx c with armed := true }, x.2) else (s, true)) (s, false)

/-- Contexts and units that passed at lock start with the clapper (Table 7.1). -/
def State.lpeStart (s : State) : State :=
  let s := (s.lpe.ctxs.map (·.1)).foldl (fun s c =>
    if (s.ctx c).armed then s.setCtx c { s.ctx c with armed := false, st := .active, first := true, ovrRun := 0 } else s) s
  (s.lpe.pgns.map (·.1)).foldl (fun s u =>
    if (s.pgn u).armed then s.setPgn u { s.pgn u with armed := false, active := true } else s) s

/-! ### Loop images (R209 to R213, Tables 8.8 and 8.9) -/

/-- A failed check: result code of Table 8.10 and byte offset. -/
abbrev ImgErr := Nat × Nat

/-- Little-endian 32-bit words of a byte list. -/
def wordsOf (l : List Nat) (n : Nat) : List Nat := (List.range n).map (fun i => field l (4 * i) 4)

/-- Bytes of the section of a type, with its offset; none when the image has no such section. -/
def imgSect (l : List Nat) (ty : Nat) : Option (Nat × List Nat) :=
  ((List.range (field l 0x14 1)).find? (fun j => field l (64 + 16 * j) 2 == ty)).map (fun j =>
    let o := field l (64 + 16 * j + 4) 4
    (o, (l.drop o).take (field l (64 + 16 * j + 8) 4)))

/-- Section table legal: entries' zero bytes, alignment, within the body, no overlap, types from a to b, none
twice. -/
def imgTableIn (a b : Nat) (l : List Nat) : Bool :=
  let n := field l 0x14 1
  let body := field l 0x10 4
  let js := List.range n
  let lo := fun j => field l (64 + 16 * j + 4) 4
  let len := fun j => field l (64 + 16 * j + 8) 4
  1 ≤ n && n ≤ 16 && js.all (fun j =>
    field l (64 + 16 * j + 2) 2 == 0 && field l (64 + 16 * j + 12) 4 == 0 && lo j % 4 == 0
    && 64 + 16 * n ≤ lo j && lo j + len j ≤ body && a ≤ field l (64 + 16 * j) 2 && field l (64 + 16 * j) 2 ≤ b
    && js.all (fun i => i == j || (field l (64 + 16 * i) 2 != field l (64 + 16 * j) 2
        && (lo i + len i ≤ lo j || lo j + len j ≤ lo i))))

/-- Header fields of Table 8.8 that every kind of image shares; the part number is judged apart. -/
def imgHead (magic : Nat) (l : List Nat) : Bool :=
  let len := field l 0xC 4
  field l 0 4 == magic && field l 4 2 == 1 && len == l.length && len % 4 == 0
  && 3140 ≤ len && field l 0x10 4 + 3076 == len && field l 0x15 1 ≤ 7 && field l 0x17 1 == 0
  && (l.drop 0x20).take 32 == List.replicate 32 0

/-- Header fields of a loop image. -/
def imgHeadOk (l : List Nat) : Bool :=
  let k := field l 6 2
  imgHead 0x504C5A41 l && (k == 1 || k == 2) && l.length ≤ 1048576 && field l 0x16 1 ≤ 31
  && (if k = 1 then field l 0x18 4 == 0 && field l 0x1C 4 == 0
      else 1 ≤ field l 0x18 4 && field l 0x18 4 ≤ 1048576 && field l 0x1C 4 < field l 0x18 4)

/-- The words of Table 7.4 that a BIND record gives. -/
def imgBind (r : List Nat) : ImgBind :=
  let sb := field r 1 1
  { c := field r 0 1, out := bitAt sb 7, slot := sb % 16
    cfg := b2n (bitAt sb 6) * 2 ^ 31 + field r 2 1 % 32 * 2 ^ 26 + field r 3 1 * 2 ^ 18 + field r 4 1 % 32 * 2 ^ 13
      + field r 5 1 % 4 * 2 ^ 11 + field r 6 1 % 4 * 2 ^ 9 + field r 7 1 % 16 * 2 ^ 5
    scale := field r 8 2 * 2 ^ 16 + field r 10 1 % 32 * 2 ^ 11
    val := (if bitAt sb 7 then 0 else field r 12 2 * 2 ^ 16) + field r 14 2 }

/-- A BIND record's fields lie in their ranges. -/
def imgBindOk (r : List Nat) : Bool :=
  let sb := field r 1 1
  field r 0 1 ≤ 191 && bits sb 5 4 == 0 && (!bitAt sb 7 || sb % 16 ≤ 7) && field r 2 1 < 32 && field r 4 1 < 32
  && field r 5 1 < 4 && field r 6 1 < (if bitAt sb 7 then 3 else 1) && field r 7 1 < 16 && field r 10 1 < 32 && field r 11 1 == 0

/-- A CTX record. -/
def imgCtx (r : List Nat) : ImgCtx :=
  { c := field r 0 1, en := bitAt (field r 1 1) 0, lane := bits (field r 1 1) 2 1, ovrMax := field r 2 1
    n := field r 4 2, phase := field r 6 2, prog := field r 8 2, size := field r 10 2 }

/-- A CTX record's fields lie in their ranges, with np programs. -/
def imgCtxOk (r : List Nat) (np : Nat) : Bool :=
  let x := imgCtx r
  x.c ≤ 191 && field r 1 1 < 8 && 1 ≤ x.ovrMax && field r 3 1 == 0 && 1 ≤ x.n && x.n ≤ 4096 && x.phase < x.n
  && x.prog < np && x.size ≤ 32767 && field r 12 4 == 0

/-- The records of k bytes of a section, with their offsets; none when its length is no multiple of k. -/
def records (k : Nat) (s : Nat × List Nat) : Option (List (Nat × List Nat)) :=
  if s.2.length % k != 0 then none
  else some ((List.range (s.2.length / k)).map (fun j => (s.1 + k * j, (s.2.drop (k * j)).take k)))

/-- Initial words of each context from the STATE section: ctx, words. -/
def imgStates (l : List Nat) (fuel : Nat) : Option (List (Nat × List Nat)) :=
  match fuel with
  | 0 => if l.isEmpty then some [] else none
  | k + 1 =>
    if l.isEmpty then some []
    else
      let n := field l 2 2
      if l.length < 4 + 4 * n || field l 1 1 != 0 then none
      else (imgStates (l.drop (4 + 4 * n)) k).map (fun r => (field l 0 1, wordsOf (l.drop 4) n) :: r)

/-- First record that fails a test: its offset. -/
def firstBad (rs : List (Nat × List Nat)) (ok : List Nat → Bool) : Option Nat :=
  (rs.find? (fun r => !ok r.2)).map (·.1)

/-- Parse a loop image: header, section table and records (Tables 8.8 and 8.9). -/
def parseImg (l : List Nat) : Except ImgErr Img :=
  if !imgHeadOk l then .error (2, 0)
  else if field l 8 4 != 0x0AE19160 then .error (3, 8)
  else if !imgTableIn 1 7 l then .error (2, 64)
  else
    match imgSect l 1, imgSect l 2, imgSect l 4 with
    | some sp, some st, some sc =>
      match records 4 sp, records 4 st, records 16 sc,
            records 16 ((imgSect l 5).getD (0, [])), records 8 ((imgSect l 7).getD (0, [])),
            records 4 ((imgSect l 3).getD (0, [])), imgStates ((imgSect l 6).getD (0, [])).2 192 with
      | some ps, some ts, some cs, some bs, some xs, some ks, some ws =>
        let np := ts.length
        let cx := cs.map (fun r => imgCtx r.2)
        let words := fun (c : Nat) => ((ws.find? (fun w => w.1 == c)).map (·.2)).getD []
        match firstBad cs (fun r => imgCtxOk r np), firstBad bs imgBindOk,
              firstBad ts (fun r => 1 ≤ field r 2 2 && field r 0 2 + field r 2 2 ≤ ps.length) with
        | some o, _, _ => .error (2, o)
        | _, some o, _ => .error (2, o)
        | _, _, some o => .error (2, o)
        | none, none, none =>
          if !(cx.all (fun x => (words x.c).length == x.size && (cx.filter (fun y => y.c == x.c)).length == 1)
               && bs.all (fun b => cx.any (fun x => x.c == field b.2 0 1))
               && ws.all (fun w => cx.any (fun x => x.c == w.1))
               && (field l 6 2 == 2 || xs.isEmpty)) then .error (2, sc.1)
          else .ok {
            kind := field l 6 2, set := field l 0x16 1, per := field l 0x18 4, phase := field l 0x1C 4
            prog := ps.map (fun r => field r.2 0 4), ptab := ts.map (fun r => (field r.2 0 2, field r.2 2 2))
            consts := ks.map (fun r => field r.2 0 4), ctxs := cx.map (fun x => { x with words := words x.c })
            binds := bs.map (fun r => imgBind r.2)
            xfers := xs.map (fun r => { old := field r.2 0 1, new := field r.2 1 1, count := field r.2 2 2
                                        oldOfs := field r.2 4 2, newOfs := field r.2 6 2 }) }
      | _, _, _, _, _, _, _ => .error (2, 64)
    | _, _, _ => .error (2, 64)

/-- The signature of an image: public key and signature (R209).  keyOk says whether a key digest stands
in a slot valid for signing configurations. -/
def imgSigned (keyOk : Nat → List Nat → Bool) (l : List Nat) : Option ImgErr :=
  let body := field l 0x10 4
  let pk := (l.drop body).take 1793
  let sg := (l.drop (body + 1796)).take 1280
  if !keyOk (field l 0x15 1) (Config.shake256 64 pk) then some (4, 0x15)
  else if (l.drop (body + 1793)).take 3 == [0, 0, 0] && Config.falconVerify pk (Config.shake256 64 (l.take body)) sg then none
  else some (5, body + 1796)

/-- Every program of an image passes R208 with the sizes of the contexts that use it; one that no context uses has no
state size to keep to. -/
def Img.progsOk (g : Img) : Bool :=
  (List.range g.ptab.length).all (fun j =>
    let p := g.ptab.getD j (0, 0)
    let sizes := (g.ctxs.filter (fun x => x.prog == j)).map (·.size)
    let least := match sizes with
      | [] => 2 ^ 17
      | a :: r => r.foldl min a
    progOk ((g.prog.drop p.1).take p.2) least g.consts.length)

/-- Words of data memory an image needs: constants and two copies of each state area. -/
def Img.dataWords (g : Img) : Nat := g.consts.length + 2 * (g.ctxs.map (·.size)).sum

/-- prog_free (Table 7.3). -/
def State.progFree (s : State) : Nat := 32768 - (s.lpe.sets.map (fun x => x.2.prog.length)).sum

/-- Contexts allocated now. -/
def State.allocated (s : State) : List Nat := (s.lpe.ctxs.filter (fun x => x.2.alloc)).map (·.1)

/-- data_free (Table 7.3). -/
def State.dataFree (s : State) : Nat :=
  65536 - (s.lpe.sets.map (fun x => x.2.consts.length)).sum - 2 * (s.allocated.map s.ctxSize).sum

/-- The address that the device chooses for len units in a memory of size units: a free value among the addresses that
keep clear of the areas in use (R210).  DESIGN CHOICE (notes/assumptions/32.md). -/
def placeAt (size : Nat) (used : List (Nat × Nat)) (len f : Nat) : Nat :=
  let ok := fun (x : Nat) => x + len ≤ size && used.all (fun a => x + len ≤ a.1 || a.1 + a.2 ≤ x)
  if ok (f % size) then f % size
  else match (0 :: used.map (fun a => a.1 + a.2)).filter ok with
    | [] => f % size
    | a :: r => r.getD (f % (r.length + 1)) a

/-- Areas of data memory in use: address and length. -/
def State.dataUsed (s : State) : List (Nat × Nat) :=
  s.lpe.sets.map (fun x => (x.2.constAt, x.2.consts.length)) ++ s.allocated.map (fun c => (s.ctxBase c, 2 * s.ctxSize c))

/-- Write one context of an accepted image (R210): its registers, both copies of its state, allocated. -/
def State.imgPutCtx (s : State) (g : Img) (st : LSet) (x : ImgCtx) : State :=
  let k := ctxKey x.c
  let (f, s) := s.freeNat
  let base := placeAt 65536 s.dataUsed (2 * x.size) f
  let s := s.setLw k (b2n x.en * 2 ^ 31 + x.lane * 2 ^ 29 + g.set * 2 ^ 24 + x.ovrMax * 2 ^ 16)
  let s := s.setLw (k + 4) (x.n * 2 ^ 16 + x.phase)
  let s := s.setLw (k + 8) ((st.progAt + (st.ptab.getD x.prog (0, 0)).1) % 32768)
  let s := s.setLw (k + 12) (base * 2 ^ 16 + x.size)
  s.setCtx x.c { s.ctx x.c with alloc := true, words := x.words, st := .idle, run := none, first := true }

/-- Apply an accepted image whole, at addresses of the device's own choosing (R210). -/
def State.imgApply (s : State) (g : Img) : State :=
  let (p, s) := s.freeNat
  let (f, s) := s.freeNat
  let st : LSet := { prog := g.prog, ptab := g.ptab, consts := g.consts
                     progAt := placeAt 32768 (s.lpe.sets.map (fun x => (x.2.progAt, x.2.prog.length))) g.prog.length p
                     constAt := placeAt 65536 s.dataUsed g.consts.length f }
  let s := { s with lpe := { s.lpe with sets := s.lpe.sets ++ [(g.set, st)] } }
  let s := g.ctxs.foldl (fun s x => s.imgPutCtx g st x) s
  g.binds.foldl (fun s b =>
    let k := bindKey b.c b.out b.slot
    ((s.setLw k b.cfg).setLw (k + 4) b.scale).setLw (k + 8) b.val) s

/-- The checks of a BOOT image beyond its form and signature: programs, room, free contexts (R209,
R211). -/
def State.imgFits (s : State) (g : Img) : Option ImgErr :=
  if !g.progsOk then some (6, 0)
  else if s.progFree < g.prog.length || s.dataFree < g.dataWords then some (7, 0)
  else if g.ctxs.any (fun x => (s.ctx x.c).alloc) then some (8, 0) else none

/-- Release the contexts, programs and constants of a set; what the CTX outputs last delivered stays, so that no context
outside the set notices (R192, R211). -/
def State.setFree (s : State) (set : Nat) : State :=
  let old := s.allocated.filter (fun c => s.ctxSet c == set)
  let s := old.foldl (fun s c => s.setCtx c { s.ctx c with alloc := false, st := .idle, run := none, words := [], outs := [], host := [], last := [] }) s
  { s with lpe := { s.lpe with sets := del s.lpe.sets set } }

end Sys2Proof.Machine
end

