-- ==== Sys2Proof/Machine/FbOps.lean ====
section
/-! DEFINITION. Feedback channels, resolvers and compare outputs (chapter 06): shared operations. -/

namespace Sys2Proof.Machine

def State.pfi (s : State) (i : Nat) : Pfi := getD s.fb.pfis i {}
def State.setPfi (s : State) (i : Nat) (p : Pfi) : State := { s with fb := { s.fb with pfis := put s.fb.pfis i p } }
def State.rsv (s : State) (r : Nat) : Rsv := getD s.fb.rsvs r {}
def State.setRsv (s : State) (r : Nat) (v : Rsv) : State := { s with fb := { s.fb with rsvs := put s.fb.rsvs r v } }
def State.cmp (s : State) (j : Nat) : Cmp := getD s.fb.cmps j {}
def State.setCmp (s : State) (j : Nat) (c : Cmp) : State := { s with fb := { s.fb with cmps := put s.fb.cmps j c } }

def pfiBase (i : Nat) : Nat := 0x3400 + 0x20 * i
def rsvBase (r : Nat) : Nat := 0x3700 + 0x20 * r
def cmpBase (j : Nat) : Nat := 0x3780 + 8 * j

/-- Mode of channel i: 0 QUAD, 1 HALL, 2 STEPDIR, 3 UPDOWN, 4 SSI, 5 BISS, 6 FREQ (Table 6.3). -/
def State.pfiMode (s : State) (i : Nat) : Nat := s.fld (pfiBase i) 30 28
def State.zMode (s : State) (i : Nat) : Nat := s.fld (pfiBase i) 26 25
def State.pfiWin (s : State) (i : Nat) : Nat := s.fld (pfiBase i + 4) 31 16
def State.pfiCpr (s : State) (i : Nat) : Nat := s.fld (pfiBase i + 8) 23 0

/-- The fields of channel i against Tables 6.3 and 6.4 and R150 (R151). -/
def State.pfiOk (s : State) (i : Nat) : Bool :=
  let m := s.pfiMode i
  let z := s.zMode i
  let b := pfiBase i
  let half := s.fld (b + 0xC) 31 21
  let nb := s.fld (b + 0xC) 20 15
  let pb := s.fld (b + 0xC) 14 9
  let w := s.pfiWin i * s.clapP
  m != 7 && z != 3 && (z != 2 || m == 0) && (z == 0 || !(m == 1 || m == 4 || m == 5))
  && (m != 1 || 1 ≤ s.fld b 15 8) && 1 ≤ s.pfiWin i && 20000 ≤ w && w ≤ 400000000 && 1 ≤ s.pfiCpr i
  && 20 ≤ half && half ≤ 2000 && 1 ≤ nb && nb ≤ 40 && 1 ≤ pb && pb ≤ 32 && pb ≤ nb
  && s.fld (b + 0xC) 8 3 ≤ nb - pb

/-- The fields of resolver r against Table 6.8. -/
def State.rsvOk (s : State) (r : Nat) : Bool :=
  let b := rsvBase r
  1 ≤ s.fld b 30 28 && 5 ≤ s.fld b 27 22 && s.fld b 27 22 ≤ 40 && s.fld b 21 16 ≤ 60
  && 1 ≤ s.fld (b + 4) 31 24 && 129 ≤ s.fld (b + 4) 23 16 && 1 ≤ s.fld (b + 4) 15 0 && s.fld (b + 4) 15 0 ≤ 32767

/-- The fields of compare output j against Table 6.10. -/
def State.cmpOk (s : State) (j : Nat) : Bool :=
  let b := cmpBase j
  s.fld b 30 26 ≤ 19 && s.fld b 22 21 != 3 && (s.fld b 24 23 != 3 || 1 ≤ s.fld b 11 0)

/-- The present clapper period as a mark for events raised at most once per period. -/
def State.periodMark (s : State) : Nat := s.tbu.count + 1

/-- Raise an event of channel i at most once per clapper period (Table 6.11). -/
def State.pfiEv (s : State) (i n : Nat) (payload : List Nat) : State :=
  let p := s.pfi i
  if getD p.evs n 0 = s.periodMark then s
  else (s.setPfi i { p with evs := put p.evs n s.periodMark }).raise n payload

def State.rsvEv (s : State) (r n : Nat) (payload : List Nat) : State :=
  let p := s.rsv r
  if getD p.evs n 0 = s.periodMark then s
  else (s.setRsv r { p with evs := put p.evs n s.periodMark }).raise n payload

def State.cmpEv (s : State) (j n : Nat) (payload : List Nat) : State :=
  let p := s.cmp j
  if getD p.evs n 0 = s.periodMark then s
  else (s.setCmp j { p with evs := put p.evs n s.periodMark }).raise n payload

/-- Source number as in spd_src: 0–3 RSV, 4–19 PFI (Table 4.9). -/
def State.srcValid (s : State) (n : Nat) : Bool :=
  if n < 4 then (s.rsv n).en && (s.rsv n).conv && !(s.rsv n).fault
  else if n < 20 then (s.pfi (n - 4)).valid && (s.pfi (n - 4)).running else false

/-- Speed in 0.25 rpm that the source latched at the latest boundary (R157). -/
def State.srcRpm (s : State) (n : Nat) : Int :=
  if n < 4 then (s.rsv n).rpmL else (s.pfi (n - 4)).rpm

/-- Magnitude of a source's latched speed; none when it reports no valid speed (R157). -/
def State.srcSpeed (s : State) (n : Nat) : Option Nat :=
  if s.srcValid n then some (s.srcRpm n).natAbs else none

/-! ### Compare outputs -/

/-- Live position of a compare source: 0–15 PFI, 16–19 RSV (Table 6.10). -/
def State.livePos (s : State) (src : Nat) : Nat :=
  if src < 16 then (s.pfi src).cnt else (s.rsv (src - 16)).pos

/-- pos − val as a signed 32-bit number (R156). -/
def posDiff (pos val : Nat) : Int := sx 32 (pos + 2 ^ 32 - val % 2 ^ 32)

/-- A counter that goes from old to new, forward or back by their signed difference, reaches or crosses val: pos − val
reaches or crosses 0 on the way, and the wrap between 2^31 − 1 and −2^31 is no crossing (R156). -/
def crosses (old new val : Nat) (fwd : Bool) : Bool :=
  let d := posDiff new old
  let n : Nat := if fwd then (val + 2 ^ 32 - old % 2 ^ 32) % 2 ^ 32 else (old + 2 ^ 32 - val % 2 ^ 32) % 2 ^ 32
  0 < n && (n : Int) ≤ (if fwd then d else -d)

/-- Output j fires: its action, and it disarms (R156, Table 6.10). -/
def State.cmpFire (s : State) (j : Nat) : State :=
  let c := s.cmp j
  let act := s.fld (cmpBase j) 24 23
  s.setCmp j { c with
    armed := false
    pin := if act = 0 then true else if act = 1 then false else if act = 2 then !c.pin else true
    pulseEnd := if act = 3 then some (s.now + s.fld (cmpBase j) 11 0 * 40) else c.pulseEnd }

/-- Write the compare value of output j and arm it (R155). -/
def State.cmpArm (s : State) (j val : Nat) : State :=
  let pos := s.livePos (s.fld (cmpBase j) 30 26)
  let d := (val + 2 ^ 32 - pos % 2 ^ 32) % 2 ^ 32
  let dir := s.fld (cmpBase j) 22 21
  let behind := if dir = 0 then 2 ^ 31 ≤ d else if dir = 1 then 1 ≤ d && d ≤ 2 ^ 31 else false
  let s := s.setCmp j { s.cmp j with val := val, armed := !behind }
  if behind then s.cmpEv j 75 [j, val, pos] else if d = 0 then s.cmpFire j else s

/-- After the position of a source went from old to new: armed outputs that reach or cross their value
in a permitted direction fire (R156). -/
def State.cmpPass (s : State) (src old new : Nat) : State :=
  (List.range 16).foldl (fun s j =>
    let c := s.cmp j
    let dir := s.fld (cmpBase j) 22 21
    let fwd := crosses old new c.val true && dir != 1
    let rev := crosses old new c.val false && dir != 0
    if c.armed && s.fld (cmpBase j) 30 26 == src && (fwd || rev) then s.cmpFire j else s) s

/-- The pin of output j: low while the output is disabled (Table 6.10). -/
def Cmp.level (c : Cmp) : Bool := c.en && c.pin

/-! ### Counting -/

/-- A count of d on channel i at a fine timestamp, as n edges, with rev applied (R138, R149). -/
def State.pfiCount (s : State) (i ts : Nat) (d : Int) (n : Nat) : State :=
  let p := s.pfi i
  let d := if s.rb (pfiBase i) 27 then -d else d
  let new := toBits 32 ((p.cnt : Int) + d)
  let s' := s.setPfi i { p with
    cnt := new, edge := ts, wNet := p.wNet + d, wEdges := p.wEdges + n
    wFwd := p.wFwd || 0 < d, wRev := p.wRev || d < 0
    idxNet := p.idxNet + d, idxFwd := p.idxFwd || 0 < d, idxRev := p.idxRev || d < 0 }
  s'.cmpPass i p.cnt new

/-- Fault sets on channel i (Table 6.11). -/
def State.pfiFault (s : State) (i : Nat) : State :=
  let p := s.pfi i
  let s' := s.setPfi i { p with fault := true, wBad := true }
  if p.fault then s' else s'.pfiEv i 69 [i + 4]

/-- Fault ends on channel i. -/
def State.pfiClear (s : State) (i : Nat) : State :=
  let p := s.pfi i
  if p.fault then (s.setPfi i { p with fault := false }).pfiEv i 70 [i + 4] else s

/-- Count an error of channel i. -/
def State.pfiErr (s : State) (i : Nat) : State :=
  s.setPfi i { s.pfi i with errCnt := satInc 255 (s.pfi i).errCnt }

/-- Step of a hall state H3 H2 H1 in the forward sequence (Table 6.2); none for 0b000 and 0b111. -/
def hallStep (st : Nat) : Option Nat :=
  match st with
  | 1 => some 0
  | 3 => some 1
  | 2 => some 2
  | 6 => some 3
  | 4 => some 4
  | 5 => some 5
  | _ => none

/-- The state of channel i's hall lines, H3 H2 H1. -/
def Pfi.hallState (p : Pfi) : Nat := b2n p.a + 2 * b2n p.b + 4 * b2n p.z

/-- The invalid hall state of channel i has lasted hall_inv (R142). -/
def State.hallLong (s : State) (i : Nat) : Bool :=
  match (s.pfi i).invSince with
  | some x => !(s.pfi i).hallInv && x + s.fld (pfiBase i) 15 8 * ticksPerUs ≤ s.now
  | none => false

/-- Such a state sets hall_inv and fault: EV66 and EV69 (R142). -/
def State.hallFail (s : State) (i : Nat) : State :=
  let p := s.pfi i
  ((s.setPfi i { p with hallInv := true }).pfiEv i 66 [i, p.hallState]).pfiFault i

/-- A new hall state on channel i; an invalid state that ends after hall_inv or later has set its fault first (R141,
R142).  A jump of three steps is no step that gives a speed (R223). -/
def State.hallEdge (s : State) (i ts st : Nat) : State :=
  match hallStep st with
  | none =>
    let p := s.pfi i
    s.setPfi i { p with invSince := if p.invSince.isNone then some s.now else p.invSince }
  | some k =>
    let s := if s.hallLong i then s.hallFail i else s
    let p := s.pfi i
    let short := p.invSince.isSome && !p.hallInv
    let s := s.setPfi i { p with invSince := none, hallInv := false, hall := some k }
    let s := if short then s.pfiErr i else s
    let s := s.pfiClear i
    match p.hall with
    | none => s
    | some o =>
      let d := (k + 6 - o) % 6
      let q := s.pfi i
      let s := if d = 0 || d = 3 then s
               else s.setPfi i { q with hallT := ts, hallDt := if q.hallT = 0 then 0 else ts - q.hallT
                                        hallFwd := (d == 1 || d == 2) != s.rb (pfiBase i) 27 }
      if d = 0 then s
      else if d = 1 then s.pfiCount i ts 1 1
      else if d = 5 then s.pfiCount i ts (-1) 1
      else if d = 2 then ((s.pfiCount i ts 2 2).pfiErr i).pfiEv i 67 [i, 2]
      else if d = 4 then ((s.pfiCount i ts (-2) 2).pfiErr i).pfiEv i 67 [i, 2]
      else ((s.setPfi i { s.pfi i with wBad := true }).pfiErr i).pfiEv i 67 [i, 3]

/-- A rising edge of Z on channel i (R146, R147). -/
def State.zEdge (s : State) (i : Nat) : State :=
  let p := s.pfi i
  let zm := s.zMode i
  if zm = 0 then s
  else
    let s := s.setPfi i { p with capPos := p.cnt, capTs := s.now % 2 ^ 32, capNew := true, capOvr := p.capOvr || p.capNew }
    if zm = 2 then
      let bad := p.idxSeen && (p.idxFwd != p.idxRev) && p.idxNet.natAbs != s.pfiCpr i
      let p := s.pfi i
      let s := s.setPfi i { p with
        cnt := 0, idxErr := p.idxErr || bad, idxSeen := true, idxNet := 0, idxFwd := false, idxRev := false }
      if bad then s.pfiEv i 65 [i, toBits 32 p.idxNet] else s
    else s

/-- Counting edges that new levels of A and B bring, by mode (Table 6.1, R140). -/
def State.abEdges (s : State) (i ts : Nat) (a b z : Bool) : State :=
  let p := s.pfi i
  let ra := a && !p.a
  let rb := b && !p.b
  let ca := a != p.a
  let cb := b != p.b
  match s.pfiMode i with
  | 0 =>
    if ca && cb then (s.pfiErr i).pfiEv i 64 [i]
    else if ca then s.pfiCount i ts (if a == p.b then -1 else 1) 1
    else if cb then s.pfiCount i ts (if b == p.a then 1 else -1) 1
    else s
  | 1 =>
    if ca || cb || z != p.z then s.hallEdge i ts (b2n a + 2 * b2n b + 4 * b2n z) else s
  | 2 => if ra then s.pfiCount i ts (if p.b then 1 else -1) 1 else s
  | 3 =>
    let s := if ra then s.pfiCount i ts 1 1 else s
    if rb then s.pfiCount i ts (-1) 1 else s
  | 6 => if ra then s.pfiCount i ts 1 1 else s
  | _ => s

/-- Accepted levels of a channel's lines at a fine timestamp: counting edges, then Z (R137 to R146). -/
def State.pfiLines (s : State) (i ts : Nat) (a b z : Bool) : State :=
  let rz := z && !(s.pfi i).z
  let s := if (s.pfi i).running then s.abEdges i ts a b z else s
  let s := if (s.pfi i).running && rz && s.pfiMode i != 1 then s.zEdge i else s
  let p := s.pfi i
  let at' := fun (new old : Bool) (T : Nat) => if new == old then T else s.now
  s.setPfi i { p with a := a, b := b, z := z, aT := at' a p.a p.aT, bT := at' b p.b p.bT, zT := at' z p.z p.zT }

/-- The level that the filter passes on of a line at new, whose level old was accepted at tick T: a change needs filt ticks of
a stable level, which can begin at that acceptance at the earliest (R137). -/
def State.filtered (s : State) (i : Nat) (new old : Bool) (T : Nat) : Bool :=
  if T + s.fld (pfiBase i) 23 16 ≤ s.now then new else old

/-- Levels of a channel's lines, as far as the filter accepts them (R137). -/
def State.pfiInput (s : State) (i ts : Nat) (a b z : Bool) : State :=
  let p := s.pfi i
  s.pfiLines i ts (s.filtered i a p.a p.aT) (s.filtered i b p.b p.bT) (s.filtered i z p.z p.zT)

/-! ### Serial frames -/

/-- CRC-6 with x^6 + x + 1 over the low n bits of w, most significant first (R144). -/
def crc6 (w n : Nat) : Nat :=
  match n with
  | 0 => 0
  | k + 1 =>
    let step := fun (c b : Nat) => let f := (c / 32 + b) % 2; (c * 2) % 64 ^^^ (if f = 1 then 3 else 0)
    (List.range (k + 1)).foldl (fun c j => step c (bits w (k - j) (k - j))) 0

/-- Gray decoding of n bits. -/
def grayDecode (w n : Nat) : Nat :=
  (List.range n).foldl (fun acc j => acc ^^^ (w >>> j)) 0 % 2 ^ n

/-- Position in a frame of nbits data bits (R144). -/
def State.framePos (s : State) (i w : Nat) : Nat :=
  let b := pfiBase i + 0xC
  let nb := s.fld b 20 15
  let pb := s.fld b 14 9
  let raw := (w >>> (nb - s.fld b 8 3 - pb)) % 2 ^ pb
  if s.rb b 2 && s.pfiMode i == 4 then grayDecode raw pb else raw

/-- A bad frame of the given kind: 0 CRC, 1 nE, 2 line, 3 start bit, 4 incomplete (R145). -/
def State.frameBad (s : State) (i kind : Nat) : State :=
  let p := s.pfi i
  let s := ((s.setPfi i { p with badRun := p.badRun + 1 }).pfiErr i).pfiEv i 68 [i, kind]
  if 3 ≤ p.badRun + 1 then s.pfiFault i else s

/-- Channel i is a serial one. -/
def State.pfiSerial (s : State) (i : Nat) : Bool := s.pfiMode i == 4 || s.pfiMode i == 5

/-- MA of channel i has an edge at tick t: while a transfer runs, every half ticks from its boundary (R143). -/
def State.maEdge (s : State) (i t : Nat) : Bool :=
  match (s.pfi i).xfer with
  | some b => b ≤ t && (t - b) % max 1 (s.fld (pfiBase i + 0xC) 31 21) == 0
  | none => false

/-- A good frame of raw position r for the boundary at tick b (R143). -/
def State.frameGood (s : State) (i b r : Nat) : State :=
  let p := s.pfi i
  let pb := s.fld (pfiBase i + 0xC) 14 9
  let s := (s.setPfi i { p with raw := some r, badRun := 0 }).pfiClear i
  let ts := b * 32
  let s := match p.raw with
    | none => s.setPfi i { s.pfi i with cnt := r % 2 ^ 32, edge := ts }
    | some o =>
      let d := sx pb (r + 2 ^ pb - o)
      if d = 0 then s.setPfi i { s.pfi i with edge := ts } else s.pfiCount i ts d d.natAbs
  s.setPfi i { s.pfi i with pos := (s.pfi i).cnt, edgeL := ts }

/-! ### Boundaries -/

/-- Close channel i's window and publish its values (R149). -/
def State.windowClose (s : State) (i : Nat) : State :=
  let p := s.pfi i
  let ok := !p.wBad && !p.fault
  let den := s.pfiCpr i * s.pfiWin i * s.clapP
  s.setPfi i { p with
    valid := ok, still := p.wEdges == 0, low := 1 ≤ p.wEdges && p.wEdges ≤ 3, dirCh := p.wFwd && p.wRev
    net := p.wNet, rpm := if ok then (p.wNet * 96000000000).tdiv den else 0
    wB := 0, wNet := 0, wEdges := 0, wFwd := false, wRev := false, wBad := p.fault }

/-- Channel i starts at boundary tick b: its window opens, and a hall channel takes the state its lines show (R141, R142,
R148). -/
def State.pfiBegin (s : State) (b i : Nat) : State :=
  let p := s.pfi i
  let k := if s.pfiMode i = 1 then hallStep p.hallState else none
  s.setPfi i { p with
    running := true, begun := b, pos := p.cnt, edgeL := p.edge
    wB := 0, wNet := 0, wEdges := 0, wFwd := false, wRev := false, wBad := p.fault
    hall := k, invSince := if s.pfiMode i = 1 && k.isNone then some b else none }

/-- A serial channel at boundary tick b: a frame that is not complete is bad, and the next transfer starts (R143, R145). -/
def State.xferStart (s : State) (b i : Nat) : State :=
  if !s.pfiSerial i then s
  else
    let s := if (s.pfi i).xfer.isSome then s.frameBad i 4 else s
    s.setPfi i { s.pfi i with xfer := some b }

/-- Channel i at boundary tick b: it starts, or latches and counts its window (R139, R148). -/
def State.pfiBoundary (s : State) (b i : Nat) : State :=
  let p := s.pfi i
  if !p.en then s
  else if !p.running then (if p.enTick < b then (s.pfiBegin b i).xferStart b i else s)
  else
    let s := s.setPfi i { p with pos := p.cnt, edgeL := p.edge, wB := p.wB + 1 }
    (if s.pfiWin i ≤ p.wB + 1 then s.windowClose i else s).xferStart b i

/-- Resolver r at a boundary (R152). -/
def State.rsvBoundary (s : State) (r : Nat) : State :=
  let v := s.rsv r
  s.setRsv r { v with posL := v.pos, rpmL := v.rpm }

/-- Device time has reached a boundary whose CLAPPER_BOUNDARY has not come: what happens from here on belongs to the
interval after it (R139, R148). -/
def State.pastBound (s : State) : Bool := s.lock.done && s.tbu.running && s.tbu.nextB ≤ s.now

/-- Channel i latches such a boundary before an edge that comes at its tick or later (R139, R148). -/
def State.pfiCatch (s : State) (i : Nat) : State :=
  let b := s.tbu.nextB
  if s.pastBound && (s.pfi i).latched != b + 1 then
    let s := s.pfiBoundary b i
    s.setPfi i { s.pfi i with latched := b + 1 }
  else s

/-- Resolver r latches such a boundary before its next update (R152). -/
def State.rsvCatch (s : State) (r : Nat) : State :=
  let b := s.tbu.nextB
  if s.pastBound && (s.rsv r).latched != b + 1 then
    let s := s.rsvBoundary r
    s.setRsv r { s.rsv r with latched := b + 1 }
  else s

/-- POSITION_LATCH and SPEED_WINDOW_CLOSE at boundary tick b, where they have not been made ahead (R139, R149, R152). -/
def State.fbBoundary (s : State) (b : Nat) : State :=
  let s := ((s.fb.pfis.map (·.1)).filter (fun i => (s.pfi i).latched != b + 1)).foldl (fun s i => s.pfiBoundary b i) s
  ((s.fb.rsvs.map (·.1)).filter (fun r => (s.rsv r).latched != b + 1)).foldl (fun s r => s.rsvBoundary r) s

/-- Enable a PFI channel as from tick t; its counter keeps its value (R151, R159). -/
def State.pfiEnable (s : State) (t i : Nat) : State :=
  let p := s.pfi i
  s.setPfi i { p with en := true, enTick := t, running := false, raw := none, hall := none, hallT := 0, hallDt := 0, invSince := none,
                      hallInv := false, fault := false, badRun := 0, idxSeen := false, xfer := none }

/-- A resolver starts and has still to converge; its position stays (R151, R153, R154). -/
def State.rsvEnable (s : State) (r : Nat) : State :=
  s.setRsv r { s.rsv r with en := true, conv := false, fault := false, los := false, dos := false, trk := false, exc := false
                            nLos := 0, nDos := 0, nTrk := 0, nExc := 0, clean := 0, nConv := 0 }

/-- Stop a PFI channel: its valid flag reads 0 (R151). -/
def State.pfiDisable (s : State) (i : Nat) : State :=
  s.setPfi i { s.pfi i with en := false, running := false, valid := false, invSince := none, xfer := none }

/-- Checks at lock for channels, resolvers and outputs with en = 1 (R151, Table 6.11). -/
def State.fbLockCheck (s : State) : State × Bool :=
  let x := (List.range 16).foldl (fun x i =>
    if x.1.rb (pfiBase i) 31 && !x.1.pfiOk i then (x.1.raise 76 [i + 4], true) else x) (s, false)
  let x := (List.range 4).foldl (fun x r =>
    if x.1.rb (rsvBase r) 31 && !x.1.rsvOk r then (x.1.raise 76 [r], true) else x) x
  (List.range 16).foldl (fun x j =>
    if x.1.rb (cmpBase j) 31 && !x.1.cmpOk j then (x.1.raise 76 [j + 32], true) else x) x

/-- Channels, resolvers and outputs with en = 1 and legal fields start with the first boundary after
tick t (R148, R151). -/
def State.fbStart (s : State) (t : Nat) : State :=
  let s := (List.range 16).foldl (fun s i => if s.rb (pfiBase i) 31 && s.pfiOk i then s.pfiEnable t i else s) s
  let s := (List.range 4).foldl (fun s r => if s.rb (rsvBase r) 31 && s.rsvOk r then s.setRsv r { en := true } else s) s
  (List.range 16).foldl (fun s j => if s.rb (cmpBase j) 31 && s.cmpOk j then s.setCmp j { s.cmp j with en := true } else s) s

/-- The level of pin CMPj; none while its VIO bank, C for CMP0 to CMP7 and D above, is held and the pin is
high-impedance (R156, R589, Table 26.3). -/
def State.cmpLevel (s : State) (j : Nat) : Option Bool :=
  if s.gaf.vioHeld.contains (if j < 8 then 2 else 3) then none else some (s.cmp j).pin

end Sys2Proof.Machine
end

