-- ==== Sys2Proof/Machine/TrmOps.lean ====
section
/-! DEFINITION. The trip matrix (chapter 04) with the arming and reports of the gate channels that route
into it (chapter 05): shared operations. -/

namespace Sys2Proof.Machine

def State.ch (s : State) (c : Nat) : Ch := getD s.gdv.chs c {}
def State.setCh (s : State) (c : Nat) (v : Ch) : State := { s with gdv := { s.gdv with chs := put s.gdv.chs c v } }

def grpBase (g : Nat) : Nat := 0x2600 + 0x20 * g

/-- safe_lvl of group g: 0 OFF, 1 ASC, 2 SPEED (Table 4.9). -/
def State.safeLvl (s : State) (g : Nat) : Nat := s.fld (grpBase g) 27 26

/-- Kind of a source: 0 desat, 1 uvlo, 2 ocl, 3 vc, 4 thm, 5 shl, 6 sfp, 7 cross (Table 4.3). -/
def srcKind (n : Nat) : Nat :=
  if n < 272 then (if n % 4 < 2 then 0 else 1) else if n < 304 then 2 else if n < 312 then 3 else if n < 328 then 4
  else if n < 334 then 5 else if n < 350 then 6 else 7

/-- Severity of a source (Table 4.3). -/
def srcSev (n : Nat) : Nat :=
  match srcKind n with
  | 2 => 1
  | 4 => 3
  | 5 => 4
  | 6 => 4
  | _ => 2

/-- Rank of a source in R41: SHL, TRM, THM, SFP. -/
def srcRank (n : Nat) : Nat :=
  match srcKind n with
  | 5 => 1
  | 4 => 3
  | 6 => 4
  | _ => 2

/-- Route register of a source that has one (Table 4.5). -/
def routeReg (n : Nat) : Option Nat :=
  match srcKind n with
  | 2 => some (0x2840 + 4 * (n - 272))
  | 3 => some (0x28C0 + 4 * (n - 304))
  | 7 => some (0x2900 + 4 * (n - 350))
  | _ => none

/-- Threshold pair of VCj breaks R86 (checked only while thr_set is not 0). -/
def State.vcBad (s : State) (j : Nat) : Bool :=
  let set := s.fld (0x28E0 + 4 * j) 31 16
  let rel := s.fld (0x28E0 + 4 * j) 15 0
  set != 0 && (12000 < set || (if j = 1 then rel ≤ set else set ≤ rel))

/-- A route register has an illegal field (R85, R92). -/
def State.routeBad (s : State) (n : Nat) : Bool :=
  match routeReg n with
  | none => false
  | some r => s.fld r 29 28 == 3 || (srcKind n == 7 && s.rb r (n - 350)) || (srcKind n == 3 && s.vcBad (n - 304))

/-- Source n is routed to group g (R84, R85, R92, Tables 4.3 and 4.4). -/
def State.routed (s : State) (n g : Nat) : Bool :=
  match srcKind n with
  | 0 => s.legGroup (n / 4) == some g && s.rb (grpBase g) 25 && !(n % 4 == 1 && (chLo (n / 4)).isNone)
  | 1 => s.legGroup (n / 4) == some g && s.rb (grpBase g) 24
         && (if n % 4 = 2 then (s.ch (chHi (n / 4))).uvOk
             else match chLo (n / 4) with
                  | some c => (s.ch c).uvOk
                  | none => false)
  | 4 => n == 312 + g
  | 5 => (s.stoGroups (n - 328)).contains g
  | 6 => n == 334 + g
  | _ => match routeReg n with
         | some r => s.rb r 31 && s.rb r g && !s.routeBad n
         | none => false

/-- Asserted sources routed to group g. -/
def State.routedOn (s : State) (g : Nat) : List Nat := s.trm.srcs.filter (fun n => s.routed n g)

/-- The source acts cycle by cycle in RUN (Table 4.5). -/
def State.isCbc (s : State) (n : Nat) : Bool := srcKind n == 2 && s.rb (0x2840 + 4 * (n - 272)) 30

/-- Level a source demands of group g: none for GROUP (R90). -/
def State.demand (s : State) (n g : Nat) : Option Level :=
  match srcKind n with
  | 0 => if s.rb (grpBase g) 23 then none else some .off
  | 1 => if s.rb (grpBase g) 23 then none else some .off
  | _ => match routeReg n with
         | some r => if s.fld r 29 28 = 1 then some .off else if s.fld r 29 28 = 2 then some .asc else none
         | none => none

/-- spd_src of group g as a source number of feedback, and its latched speed (R91, R157). -/
def State.grpSpeed (s : State) (g : Nat) : Option Nat := s.srcSpeed (s.fld (grpBase g + 4) 31 27)

/-- The safe levels Table 4.1 allows group g: OFF always, ASC, SPEED. -/
def safeLegal (g lvl : Nat) : Bool :=
  if lvl = 0 then true
  else if lvl = 3 then false
  else if g < 4 || 9 ≤ g then true
  else if g = 5 || g = 6 then lvl = 1
  else false

/-- The level of safe_lvl (R89, R91, R92): SPEED is ASC at or above spd_hi, OFF below spd_lo, and keeps
its present level between; ASC without a valid speed. -/
def State.safeLevel (s : State) (g : Nat) (prev : Option Level) : Level :=
  let lvl := s.safeLvl g
  if !safeLegal g lvl then .off
  else if lvl = 0 then .off
  else if lvl = 1 then .asc
  else match s.grpSpeed g with
    | none => .asc
    | some v =>
      let hi := 8 * s.fld (grpBase g + 4) 25 13
      let lo := 8 * s.fld (grpBase g + 4) 12 0
      if prev = some .asc then (if v < lo then .off else .asc) else (if hi ≤ v then .asc else .off)

/-- The level of a force by the sources asserted now (R90), and whether safe_lvl decides it. -/
def State.forceLevel (s : State) (g : Nat) (srcs : List Nat) (prev : Option Level) : Level × Bool :=
  if srcs.any (fun n => s.demand n g == some .off) then (.off, false)
  else if srcs.any (fun n => s.demand n g == some .asc) then (.asc, false)
  else (s.safeLevel g prev, true)

/-- Kinds that force a DISABLED group: VC, THM, SHL, SFP, CROSS (Table 4.11). -/
def forcesDisabled (n : Nat) : Bool := 3 ≤ srcKind n

/-- The enabled leg of group g with the lowest index (R96). -/
def State.refLeg (s : State) (g : Nat) : Option Nat := (s.groupLegs g).find? (fun n => (s.leg n).enabled)

/-- A force of group g holds in its present state (Table 4.11, R96, R101). -/
def State.forceNow (s : State) (g : Nat) : Bool :=
  let v := s.grp g
  match v.st with
  | .disabled => (s.routedOn g).any forcesDisabled
  | .latched => true
  | .recovery => v.held
  | .run => (v.cbcHold && (s.refLeg g).isSome)
            || (((s.refLeg g).isNone || v.cbcPeriod.isNone) && (s.routedOn g).any s.isCbc)
  | _ => false

/-- MOD's output to channel c is on at an instant in fine steps. -/
def State.chOut (s : State) (c x : Nat) : Bool :=
  let o := s.legOut (chLeg c) x
  if chIsHi c then o.1 else o.2

/-- The soft sink step of the turn-offs that TRM commands at this tick, from the state before it, while a DESAT report of
the leg is asserted; it holds until the channel's next on command (R125). -/
def State.softSinks (s before : State) (g : Nat) : State :=
  ((s.groupLegs g).filter (fun n => (legChs n).any (fun c => (s.ch c).dsat))).foldl (fun s n =>
    ((legChs n).filter (fun c => before.chOut c (s.now * 32 - 1) && !s.chOut c (s.now * 32))).foldl (fun s c =>
      s.setCh c { s.ch c with soft := some (if c < 62 then s.fld (0x2A08 + 0x10 * c) 10 6 else 1) }) s) s

/-- Legs of a group whose force ends hold its level to their next carrier start (R95). -/
def State.holdLegs (s : State) (g : Nat) (lv : Level) : State :=
  (s.groupLegs g).foldl (fun s n =>
    if (s.leg n).active then s.setLeg n { s.leg n with hold := some lv } else s) s

/-- Bring the force of group g and its level up to the sources and its state (R90, R91, R95). -/
def State.refresh (s : State) (g : Nat) : State :=
  let v := s.grp g
  let want := s.forceNow g
  let srcs := if v.st == .disabled then (s.routedOn g).filter forcesDisabled else s.routedOn g
  if want then
    let (lv, safe) := s.forceLevel g srcs (if v.forced then some v.level else none)
    let bad := safe && s.safeLvl g == 2 && safeLegal g 2 && (s.grpSpeed g).isNone
    let s0 := if v.forced && v.level == lv then s else s.grpMark g
    let s1 := s0.setGrp g { v with forced := true, level := lv, spdBad := bad
                                   tripCnt := if v.forced then v.tripCnt else satInc 65535 v.tripCnt }
    let s1 := if v.forced && v.level == lv then s1 else s1.softSinks s g
    let s1 := s1.raiseIf (bad && !(v.forced && v.spdBad)) 10 [g]
    s1.raiseIf (v.forced && safe && s.safeLvl g == 2 && lv != v.level) 9 [g]
  else if v.forced then ((s.grpMark g).setGrp g { v with forced := false, spdBad := false }).holdLegs g v.level
  else s

/-- Add a source to the causes of group g (R105, Table 4.13). -/
def Grp.cause (v : Grp) (n ts : Nat) : Grp :=
  let first := !v.hasCause || (ts / 32 == v.firstTs / 32
    && (srcRank n < srcRank v.firstSrc || (srcRank n == srcRank v.firstSrc && n < v.firstSrc)))
  { v with kinds := insN v.kinds (srcKind n), maxSev := max v.maxSev (srcSev n), hasCause := true
           firstSrc := if first then n else v.firstSrc, firstTs := if first then ts % 2 ^ 64 else v.firstTs }

/-- TRM_GRPg_CAUSE cleared (Table 4.13). -/
def Grp.clearCause (v : Grp) : Grp :=
  { v with kinds := [], recLimit := false, escalated := false, maxSev := 0, firstSrc := 0, hasCause := false, firstTs := 0 }

/-- Group g enters LATCHED (R93); the count of its open window stays until the deadline (R97). -/
def State.latchGrp (s : State) (g : Nat) : State :=
  let v := s.grp g
  ((s.setGrp g { v with st := .latched, latch := true, cbcHold := false, held := false }).refresh g).raise 1 [g]

/-- The trip at a fine timestamp falls within a dead time of a leg of group g: MOD shapes the leg, and it holds both
outputs off, which a leg with two outputs does in its dead times only (R98). -/
def State.inDeadTime (s : State) (g ts : Nat) : Bool :=
  (s.groupLegs g).any (fun n =>
    s.legSrc n == .mod && 0 < s.legTd n && (chLo n).isSome && s.legOut n ts == (false, false))

/-- A trip within a dead time: counted, and EV5 (R98). -/
def State.deadTrip (s : State) (g ts : Nat) : State :=
  if s.inDeadTime g ts && !(s.grp g).forced then
    (s.setGrp g { s.grp g with dtCnt := satInc 65535 (s.grp g).dtCnt }).raise 5 [g]
  else s

/-- A counted cycle-by-cycle trip of group g (R96, R97). -/
def State.cbcCount (s : State) (g : Nat) : State :=
  let v := s.grp g
  let opn := v.cbcCnt = 0 || v.cbcDl ≤ s.now
  let cnt := if opn then 1 else v.cbcCnt + 1
  let dl := if opn then s.now + s.fld (grpBase g + 8) 15 0 * s.clapP else v.cbcDl
  let ev := v.ev0 != s.periodMark
  let s := (s.setGrp g { v with cbcCnt := cnt, cbcDl := dl, ev0 := s.periodMark }).raiseIf ev 0 [g]
  if s.fld (grpBase g + 8) 31 24 ≤ cnt then s.latchGrp g else s

/-- The start of the carrier period of leg n in which this tick lies: a tick equal to a carrier start lies in the period
that starts there, also before its LEG_CARRIER_START (R96). -/
def State.periodNow (s : State) (n : Nat) : Nat :=
  let l := s.leg n
  if l.carrier && l.next / 32 ≤ s.now then l.next else l.start

/-- A cycle-by-cycle source asserts in RUN: a force for the reference leg's period, which counts once; with no enabled
leg one for as long as a source is asserted, which counts each time (R96, R97). -/
def State.cbcTrip (s : State) (g : Nat) : State :=
  let v := s.grp g
  match s.refLeg g with
  | none => ((s.setGrp g { v with cbcHold := false, cbcPeriod := none }).cbcCount g).refresh g
  | some n =>
    let st := s.periodNow n
    if v.cbcHold && v.cbcPeriod == some st then s.refresh g
    else ((s.setGrp g { v with cbcHold := true, cbcPeriod := some st }).refresh g).cbcCount g

/-- The recovery deadline of group g has passed without a trip: RUN (R100). -/
def State.recoverDue (s : State) (g : Nat) : State :=
  let v := s.grp g
  if v.st == .recovery && !v.held && v.recDl ≤ s.now then
    ((s.setGrp g { v.clearCause with st := .run }).refresh g).raise 3 [g]
  else s

/-- Source n, asserted at a fine timestamp, meets group g (Table 4.11). -/
def State.tripGroup (s : State) (n ts g : Nat) : State :=
  let s := s.recoverDue g
  let v := s.grp g
  match v.st with
  | .disabled => if forcesDisabled n then ((s.setGrp g (v.cause n ts)).refresh g) else s
  | .startup => ((s.deadTrip g ts).setGrp g ((s.deadTrip g ts).grp g |>.cause n ts)).latchGrp g
  | .test => ((s.deadTrip g ts).setGrp g ((s.deadTrip g ts).grp g |>.cause n ts)).latchGrp g
  | .run =>
    let s := s.deadTrip g ts
    let s := s.setGrp g ((s.grp g).cause n ts)
    if s.isCbc n then s.cbcTrip g else s.latchGrp g
  | .latched => (s.setGrp g (v.cause n ts)).refresh g
  | .recovery =>
    let s := s.deadTrip g ts
    let v := s.grp g
    if srcSev n ≤ v.maxSev then (s.setGrp g { v.cause n ts with held := true }).refresh g
    else ((s.setGrp g { v.cause n ts with escalated := true }).raise 7 [g]).latchGrp g

/-- Source n asserts at the matrix; every affected group sees it, in ascending number (R88). -/
def State.tripIn (s : State) (n ts : Nat) : State :=
  if s.trm.srcs.contains n then s
  else
    let s := { s with trm := { s.trm with srcs := insN s.trm.srcs n } }
    (List.range 16).foldl (fun s g => if s.routed n g then s.tripGroup n ts g else s) s

/-- Recoveries within the last 60 s (R103). -/
def State.recHist (s : State) (g : Nat) : List Nat := (s.grp g).recs.filter (fun t => s.now < t + 60 * ticksPerS)

/-- Start of a recovery or its restart would be the third within 60 s (R103). -/
def State.recThird (s : State) (g : Nat) : Bool :=
  match (s.grp g).recs with
  | _ :: b :: _ => s.now < b + 60 * ticksPerS
  | _ => false

/-- Record a recovery at this tick, with its deadline. -/
def State.recNote (s : State) (g : Nat) : State :=
  let v := s.grp g
  s.setGrp g { v with recs := s.now :: v.recs.take 1, recDl := s.now + s.fld (grpBase g) 15 0 * ticksPerMs }

/-- The last routed source releases while a force in RECOVERY holds: restart, or latch at the third
recovery (R101, R103). -/
def State.recRestart (s : State) (g : Nat) : State :=
  let s := s.setGrp g { s.grp g with held := false }
  if s.recThird g then
    ((s.setGrp g { s.grp g with recLimit := true, limPend := true }).raise 8 [g]).latchGrp g
  else ((s.recNote g).refresh g).raise 6 [g]

/-- Group g after a source has released. -/
def State.releaseGroup (s : State) (g : Nat) : State :=
  let v := s.grp g
  if v.st == .recovery && v.held && (s.routedOn g).isEmpty then s.recRestart g else s.refresh g

/-- Source n releases (R101). -/
def State.releaseIn (s : State) (n : Nat) : State :=
  if s.trm.srcs.contains n then
    let s := { s with trm := { s.trm with srcs := s.trm.srcs.filter (fun x => x != n) } }
    (List.range 16).foldl (fun s g => s.releaseGroup g) s
  else s

/-- CROSS sources follow the LATCHED groups until nothing changes (Table 4.3).  A CROSS source asserts at the tick of
the latch with fine part 0: DESIGN CHOICE (notes/assumptions/52.md). -/
def State.settle (s : State) (fuel : Nat) : State :=
  match fuel with
  | 0 => s
  | k + 1 =>
    match (List.range 16).find? (fun g => ((s.grp g).st == .latched) != s.trm.srcs.contains (350 + g)) with
    | none => s
    | some g =>
      if (s.grp g).st == .latched then (s.tripIn (350 + g) (s.now * 32)).settle k else (s.releaseIn (350 + g)).settle k

/-- A source asserts, with what follows from it at the matrix. -/
def State.assertSrc (s : State) (n ts : Nat) : State := (s.tripIn n ts).settle 64

/-- A source releases, with what follows from it at the matrix. -/
def State.releaseSrc (s : State) (n : Nat) : State := (s.releaseIn n).settle 64

/-- Fields of group g that its enabling checks (R92, Tables 4.9 and 4.10). -/
def State.grpFieldsOk (s : State) (g : Nat) : Bool :=
  let b := grpBase g
  safeLegal g (s.safeLvl g) && 1 ≤ s.fld b 15 0 && s.fld (b + 4) 31 27 ≤ 19
  && s.fld (b + 4) 12 0 ≤ s.fld (b + 4) 25 13 && 1 ≤ s.fld (b + 8) 31 24 && 1 ≤ s.fld (b + 8) 15 0

/-- A route or threshold with an illegal field reaches group g by its grp_mask (R92). -/
def State.routesBadFor (s : State) (g : Nat) : Bool :=
  ((List.range 94).map (· + 272)).any (fun n =>
    match routeReg n with
    | some r => s.routeBad n && s.rb r g
    | none => false)

/-- OCLi has an illegal field and is routed to group g (Table 4.8, R92): the groups in the grp_mask of its route, and
only while the route's en is 1: DESIGN CHOICE (notes/assumptions/52.md). -/
def State.oclBadFor (s : State) (g : Nat) : Bool :=
  (List.range 32).any (fun i =>
    let c := 0x2940 + 4 * i
    (95 < s.fld c 31 25 || s.fld c 14 13 == 3) && s.rb (0x2840 + 4 * i) 31 && s.rb (0x2840 + 4 * i) g)

/-- The whole check of R92 for group g. -/
def State.grpOk (s : State) (g : Nat) : Bool := s.grpFieldsOk g && !s.routesBadFor g && !s.oclBadFor g

/-! ### Gate channels' configuration -/

/-- GDV_SUP_CFG fields that are out of range: 0 pos_margin, 1 neg_margin, 2 bs_thr, 3 uv_filt, 4 il_gap
(Table 5.7). -/
def State.supBad (s : State) (k : Nat) : Bool :=
  let r := 0x3380
  match k with
  | 0 => !(4 ≤ s.fld r 31 28 && s.fld r 31 28 ≤ 12)
  | 1 => !(2 ≤ s.fld r 27 24 && s.fld r 27 24 ≤ 8)
         || (List.range 62).any (fun c => 4 + s.fld r 27 24 > 8 + 2 * s.fld (0x2A00 + 0x10 * c) 23 20)
  | 2 => !(70 ≤ s.fld r 23 16 && s.fld r 23 16 ≤ 110)
  | 3 => !(5 ≤ s.fld r 15 8 && s.fld r 15 8 ≤ 100)
  | _ => !(s.fld r 7 0 ≤ 80)

/-- The own fields of channel c against Tables 5.2, 5.3 and 5.6. -/
def State.chFieldsOk (s : State) (c : Nat) : Bool :=
  let b := 0x2A00 + 0x10 * c
  let src := s.fld b 19 15
  let snk := s.fld b 14 10
  let mx := s.fld b 9 5
  let mn := s.fld b 4 0
  40 ≤ s.fld (b + 4) 23 16 && s.fld (b + 4) 23 16 ≤ 100 && 60 ≤ s.fld (b + 4) 11 0 && s.fld (b + 4) 11 0 ≤ 1000
  && (if c < 62 then
        s.fld b 27 24 ≤ 10 && s.fld b 23 20 ≤ 6 && 1 ≤ mx && mx ≤ 16 && 1 ≤ mn && mn ≤ mx
        && mn ≤ src && src ≤ mx && mn ≤ snk && snk ≤ mx
        && 20 ≤ s.fld (b + 8) 31 24 && s.fld (b + 8) 31 24 ≤ 200 && 20 ≤ s.fld (b + 8) 23 16
        && s.fld (b + 8) 23 16 ≤ 200 && 1 ≤ s.fld (b + 8) 15 11
        && 1 ≤ s.fld (b + 8) 10 6 && s.fld (b + 8) 10 6 ≤ 16
      else 1 ≤ src && src ≤ 4 && 1 ≤ snk && snk ≤ 4)

/-- Channel c passes the check of R114, with the fields of GDV_SUP_CFG that apply to it. -/
def State.chOk (s : State) (c : Nat) : Bool :=
  s.chFieldsOk c && !s.supBad 3 && !s.supBad 4
  && (if c < 62 then !s.supBad 0 && !s.supBad 1 else !s.supBad 2)

/-- Source step in use (Table 5.12): the configured starting step, clamped, until it has been adapted. -/
def State.srcNow (s : State) (c : Nat) : Nat :=
  let b := 0x2A00 + 0x10 * c
  match (s.ch c).src with
  | some k => k
  | none => if c < 62 then clampN (s.fld b 4 0) (s.fld b 9 5) (s.fld b 19 15) else s.fld b 19 15

/-- Sink step in use (Table 5.12). -/
def State.snkNow (s : State) (c : Nat) : Nat :=
  let b := 0x2A00 + 0x10 * c
  match (s.ch c).snk with
  | some k => k
  | none => if c < 62 then clampN (s.fld b 4 0) (s.fld b 9 5) (s.fld b 14 10) else s.fld b 14 10

/-- Check channel c when its group is enabled: an illegal channel is disarmed, with EV38 (R114). -/
def State.chCheck (s : State) (c : Nat) : State :=
  if s.chOk c then s.setCh c { s.ch c with bad := false }
  else
    let s := s.setCh c { s.ch c with bad := true, armed := false }
    if s.chFieldsOk c then s else s.raise 38 [c]

/-- Channels of group g. -/
def State.groupChs (s : State) (g : Nat) : List Nat := ((s.groupLegs g).map legChs).flatten

/-- The UVLO sources of group g's channels count once their monitors report the supplies valid after this enabling
(R84). -/
def State.uvRestart (s : State) (g : Nat) : State :=
  (s.groupChs g).foldl (fun s c => s.setCh c { s.ch c with uvOk := (s.ch c).armed && (s.ch c).uv.isEmpty }) s

/-- Group g enters STARTUP: EV12, its causes cleared, and routed sources that are asserted latch it in the same tick,
so that a force that holds goes on (R91, R93).  Such a source becomes a cause at this tick with fine part 0: DESIGN CHOICE
(notes/assumptions/52.md). -/
def State.grpStartup (s : State) (g : Nat) : State :=
  let s := (s.grpMark g).uvRestart g
  let s := s.setGrp g { (s.grp g).clearCause with st := .startup, bad := false }
  match s.routedOn g with
  | [] => (s.refresh g).raise 12 [g]
  | n :: r =>
    let s := s.raise 12 [g]
    let s := s.setGrp g (r.foldl (fun v x => v.cause x (s.now * 32)) ((s.grp g).cause n (s.now * 32)))
    (s.latchGrp g).settle 64

/-- Every group whose fields, routes or limit checks are illegal stays DISABLED with EV11 at lock, whatever its en; a
bridge in no group raises EV11 with 255 (R92). -/
def State.trmLockCheck (s : State) : State × Bool :=
  let x := (List.range 16).foldl (fun x g =>
    if x.1.grpOk g then x else ((x.1.setGrp g { x.1.grp g with bad := true }).raise 11 [g], true)) (s, false)
  (List.range 12).foldl (fun x b => if (x.1.bridgeGroup b).isNone then (x.1.raise 11 [255, b], true) else x) x

/-- The gate channels' check at lock (R114). -/
def State.gdvLockCheck (s : State) : State × Bool :=
  let x := (List.range 134).foldl (fun x c => if x.1.chOk c then x else (x.1.chCheck c, true)) (s, false)
  let x := (List.range 5).foldl (fun x k => if x.1.supBad k then (x.1.raise 38 [0x3380], true) else x) x
  let d := s.fld 0x3384 6 0
  if 1 ≤ d && d ≤ 100 then x
  else (({ x.1 with gdv := { x.1.gdv with diagBad := true } }).raise 38 [0x3384], true)

/-- The channels of group g pass R114, with EV38 for those that do not. -/
def State.grpChannels (s : State) (g : Nat) : State × Bool :=
  let cs := s.groupChs g
  let sup := fun (k : Nat) => s.supBad k && (if k < 2 then cs.any (· < 62) else if k = 2 then cs.any (62 ≤ ·) else !cs.isEmpty)
  let ok := cs.all s.chOk
  let s := cs.foldl (fun s c => s.chCheck c) s
  ((List.range 5).foldl (fun s k => s.raiseIf (sup k) 38 [0x3380]) s, ok)

/-- Groups with en = 1 whose fields and channels are legal enter STARTUP at the clapper start (R114, Table 4.11). -/
def State.trmStart (s : State) : State :=
  (List.range 16).foldl (fun s g =>
    if s.rb (grpBase g) 31 && s.grpOk g && (s.grp g).st == .disabled && !(s.grp g).latch then
      let x := s.grpChannels g
      if x.2 then x.1.grpStartup g else x.1
    else s) s

/-- A cycle-by-cycle hold of a group whose legs have all been disabled has no period left to end (R96). -/
def State.cbcLapse (s : State) (g : Nat) : State :=
  if (s.grp g).cbcHold && (s.refLeg g).isNone then s.setGrp g { s.grp g with cbcHold := false } else s

/-- SPEED levels of forced groups at a boundary (R91, SAFE_LEVEL_CHANGE). -/
def State.trmBoundary (s : State) : State :=
  (s.trm.grps.map (·.1)).foldl (fun s g => if (s.grp g).forced then (s.cbcLapse g).refresh g else s) s

/-- Carrier start of leg n: a cycle-by-cycle force of its group, if n is the reference leg, ends or goes
on for the new period (R96, R97). -/
def State.cbcCarrier (s : State) (n : Nat) : State :=
  match s.legGroup n with
  | none => s
  | some g =>
    let v := s.grp g
    let on := (s.routedOn g).any s.isCbc
    if s.refLeg g != some n || v.st != .run || v.cbcPeriod == some (s.leg n).start then s
    else if v.cbcHold || (v.forced && on) then
      if on then (s.setGrp g { v with cbcHold := true, cbcPeriod := some (s.leg n).start }).cbcCount g
      else
        let s := (s.setGrp g { v with cbcHold := false }).refresh g
        s.setLeg n { s.leg n with hold := none }
    else s

end Sys2Proof.Machine
end

