-- ==== Sys2Proof/Machine/ThmOps.lean ====
section
/-! DEFINITION. Analogue readings (chapter 26) and the thermal estimator (chapter 16): shared operations. -/

namespace Sys2Proof.Machine

/-! ### Analogue readings -/

/-- Code of the latest conversion of input i (R587). -/
def State.afeCode (s : State) (i : Nat) : Int := (getD s.afe.ins i {}).code

/-- A voltage input of ±1,000 V in 0.1 V (Table 26.8). -/
def State.afeVolt (s : State) (i : Nat) : Int := (s.afeCode i * 10000).tdiv 8191

/-- Bus voltage V_b of leg n's bridge in 0.1 V, from the AFE input of that bus (Tables 26.7 and 26.8).  DEDUCED
(notes/assumptions/54.md): the rails' legs and DA2 and DA3 lie on the link, DA0 and DA1 on the PFC bus. -/
def State.busVolt (s : State) (n : Nat) : Nat :=
  let b := fun (i : Nat) => ((s.afeCode i * 800).tdiv 8191).toNat
  if n < 12 then (s.afeVolt (8 + n / 3)).toNat
  else if n < 14 then (s.afeVolt 27).toNat
  else if n < 24 then (s.afeVolt 36).toNat
  else if n < 30 then (s.afeVolt 31).toNat
  else if n < 32 then (s.afeVolt 36).toNat
  else if n < 44 then b 41 else b 42

/-- ln(p / q) in 2^-40, by the exponent and the series of artanh. -/
def lnQ (p q : Nat) : Int :=
  let e : Int := (Nat.log2 p : Int) - Nat.log2 q
  -- m in 2^-40, between 1/2 and 2
  let m : Int := if 0 ≤ e then (p * 2 ^ 40 / (q * 2 ^ e.toNat) : Nat) else (p * 2 ^ (-e).toNat * 2 ^ 40 / q : Nat)
  let one : Int := 2 ^ 40
  let y := (m - one) * one / (m + one)
  let y2 := y * y / one
  let sum := (List.range 24).foldl (fun (x : Int × Int) k => (x.1 + x.2 / (2 * k + 1 : Nat), x.2 * y2 / one)) (0, y)
  2 * sum.1 + e * 762123384786

/-- NTC temperature in 0.1 °C from its code, by R395 and R588. -/
def State.ntc (s : State) (k : Nat) : Int :=
  let code := s.afeCode (60 + k)
  if code ≤ 0 then 32767
  else if 8191 ≤ code then -2731
  else
    let c := code.toNat
    let r25 := s.fld (0x4C80 + 4 * k) 31 16
    let β : Int := (s.fld (0x4C80 + 4 * k) 15 0 : Nat)
    let l := lnQ (1000 * c) ((8191 - c) * (max 1 r25))
    let den := 100 * β * 2 ^ 40 + 29815 * l
    if den ≤ 0 then 32767 else roundEven (298150 * β * 2 ^ 40 * 2 - 5463 * den) (2 * den).toNat

/-! ### Estimates -/

def State.est (s : State) (e : Nat) : Est := getD s.thm.ests e {}
def State.setEst (s : State) (e : Nat) (v : Est) : State := { s with thm := { s.thm with ests := put s.thm.ests e v } }
def estKey (e : Nat) : Nat := 0x14000 + 0x40 * e
/-- The leg of estimate e (Table 16.1). -/
def estLeg (e : Nat) : Nat := if e < 62 then chLeg e else e - 30
/-- The estimates of leg n. -/
def legEsts (n : Nat) : List Nat := if n < 32 then legChs n else [n + 30]
def State.estEn (s : State) (e : Nat) : Bool := s.rb (estKey e + 8) 31
def State.estDch (s : State) (e : Nat) : Nat := s.fld (estKey e + 8) 22 16

/-- Estimate e is active (Table 16.1). -/
def State.estActive (s : State) (e : Nat) : Bool :=
  s.thm.run && s.estEn e && !(s.est e).bad && (s.leg (estLeg e)).enabled

/-- Current of estimate e at a carrier start in 0.1 A / 8,191 (R392). -/
def State.estCur (s : State) (e : Nat) (iPh : Int) : Int :=
  let k := estKey e
  let fs : Int := (s.fld (k + 0xC) 31 16 : Nat)
  match s.fld (k + 8) 15 14 with
  | 0 => s.afeCode (s.fld (k + 8) 13 7) * fs
  | 1 => -((s.afeCode (s.fld (k + 8) 13 7) + s.afeCode (s.fld (k + 8) 6 0)) * fs)
  | _ => iPh * 8191

/-- Energy of a device table at a step and edge for a current x in 0.1 A / 8,191: numerator over
i_step × 8,191, in units of the table (R391). -/
def State.devEnergy (s : State) (dev step edge : Nat) (x : Nat) : Nat :=
  let st := s.fld (0x17000 + 4 * dev) 31 16 * 8191
  let pt := fun (k : Nat) => ((s.fld (0x18000 + 4 * (((dev * 32 + step) * 8 + k) * 2 + edge)) 15 0 : Nat) : Int)
  let k := min 6 (x / max 1 st)
  (pt k * st + (pt (k + 1) - pt k) * ((x : Int) - (k * st : Nat))).toNat

/-- On-times, dead time and edges of the ended period: high, low, dt, edges of high and low (R390). -/
def Shape.delivered (sh : Shape) (len : Nat) : CutPeriod :=
  let hi := sh.hiOff - sh.hiOn
  let lo := len - (sh.loOn - sh.loOff)
  { hi := hi, lo := lo, dt := (sh.loOn - sh.loOff) - hi, nHi := if 0 < hi && hi < len then 1 else 0
    nLo := if 0 < lo && lo < len then 1 else 0 }

/-- Energy of one switch of a leg in a period, in 10^-18 J: its on-time t, the dead time it carries by
its diode, and its switching edges (R390, R391). -/
def State.switchEnergy (s : State) (e c : Nat) (x : Int) (t dt edges : Nat) : Nat :=
  let k := estKey e
  let dev := s.fld (k + 8) 30 27
  let cfg := 0x17000 + 4 * dev
  let tj := (s.est e).tj
  let rn : Nat := ((67108864 : Int) + (s.fld (k + 0x14) 15 0 : Nat) * (tj - 25600)).toNat
  let a := x.natAbs
  let cond := a * a * s.fld (k + 0x14) 31 16 * rn * t * 25 / (8191 * 8191 * 67108864 * 32)
  let diode := s.fld (k + 0x10) 15 0 * a * dt * 78125 / 8191
  let off := match (s.ch c).soft with
    | some q => q
    | none => s.snkNow c
  let en := s.devEnergy dev (s.srcNow c) 0 a + s.devEnergy dev off 1 a
  let vb := (s.afeCode (s.fld (k + 0xC) 15 9)).toNat * s.fld (k + 0x10) 31 16
  let unit := 10 ^ (10 + s.fld cfg 1 0)
  let sw := edges * en * unit * vb / (max 1 (s.fld cfg 31 16) * 8191 * 8191 * max 1 (s.fld cfg 15 2))
  cond + diode + sw

/-- Energy that estimate e gains in a period of leg n (R390). -/
def State.estEnergy (s : State) (e n : Nat) (iPh : Int) (p : CutPeriod) : Nat :=
  let x := s.estCur e iPh
  let hi := chHi n
  let hiE := s.switchEnergy e hi x p.hi (if x < 0 || chLo n == none then p.dt else 0) (if 0 < x || chLo n == none then p.nHi else 0)
  let loE := match chLo n with
    | some c => s.switchEnergy e c x p.lo (if 0 < x then p.dt else 0) (if x < 0 then p.nLo else 0)
    | none => 0
  if 62 ≤ e then hiE + loE else if e = hi then hiE else loE

/-- The losses of the period of leg n that ends (R390). -/
def State.thmPeriod (s : State) (n : Nat) (m : LegMeas) : State :=
  let l := s.leg n
  let p := match m.cut with
    | some p => p
    | none => l.shape.delivered l.len
  ((legEsts n).filter s.estActive).foldl (fun s e =>
    s.setEst e { s.est e with energy := (s.est e).energy + s.estEnergy e n m.iPh p }) s

/-- exp(−p / q) in 2^-40: a Taylor series at p / (256 q), squared eight times. -/
def expNeg (p q : Nat) : Nat :=
  if 64 * q ≤ p then 0
  else
    let one : Int := 2 ^ 40
    let y : Int := (p * 2 ^ 40 / (256 * q) : Nat)
    let e := one - y + y * y / one / 2 - y * y / one * y / one / 6 + y * y / one * y / one * y / one / 24
    ((List.range 8).foldl (fun v _ => v * v / one) e).toNat

/-- Sensor k is in fault (R395). -/
def State.snsFlt (s : State) (k : Nat) : Bool := s.thm.flt.contains k

/-- Reading of sensor k in 0.1 °C (R395, Table 16.5). -/
def State.snsTemp (s : State) (k : Nat) : Int := if k < 12 then s.ntc k else if k = 12 then s.thm.dieV else s.thm.dieC

/-- T_ref of estimate e in 0.1 °C (R395). -/
def State.tRef (s : State) (e : Nat) : Int :=
  let k := s.fld (estKey e + 8) 26 23
  if s.snsFlt k then sx 16 (s.fld 0x4C00 15 0) else s.snsTemp k

/-- ΔT_k over dt ticks, in 1/1,024 K, to the nearest (R394). -/
def nodeStep (old : Int) (r tau energy dt : Nat) : Int :=
  let a := expNeg dt (tau * 4000)
  let den := 2 ^ 40 * dt * 10 ^ 14
  roundEven (old * a * (dt * 10 ^ 14 : Nat) + (r * 4096 * energy * (2 ^ 40 - a) : Nat)) den

/-- The result as THM holds it, within a bound b in 1/1,024 K of the rounded exact value: 10 for a node and 12 for T_j, whose four
nodes are rounded too, hold every value within 0.01 K of the exact one (R394). -/
def State.within (s : State) (b : Int) (v : Int) : Int × State :=
  let (e, s) := s.freeInt
  (v + clampI (-b) b e, s)

/-- Factor of estimate e at T_j, thresholds in 0.1 °C (R397). -/
def estFactor (tj tDer tSd : Int) : Nat :=
  if tj * 10 ≤ tDer * 1024 then 32767
  else if tSd * 1024 ≤ tj * 10 then 0
  else ((32767 * (tSd * 1024 - tj * 10)) / ((tSd - tDer) * 1024)).toNat

/-- Least factor of derating channel d (R397). -/
def State.thmFactor (s : State) (d : Nat) : Nat :=
  s.thm.ests.foldl (fun f x => if s.estActive x.1 && s.estDch x.1 == d then min f x.2.factor else f) 32767

/-- Factor of a derating channel, 32,767 where none is named (R315, R355). -/
def State.derate (s : State) (d : Nat) : Nat := if d < 128 then s.thmFactor d else 32767

/-- T_j in 0.1 °C, rounded. -/
def tj10 (tj : Int) : Int := roundEven (tj * 10) 1024

/-- Threshold field of estimate e. -/
def State.estThr (s : State) (e ofs hi lo : Nat) : Int := sx 16 (s.fld (estKey e + ofs) hi lo)

/-- EV17 and its rearming for derating channel d (R397). -/
def State.derateEv (s : State) (d : Nat) : State :=
  let f := s.thmFactor d
  let on := s.thm.derated.contains d
  if f < 32767 && !on then ({ s with thm := { s.thm with derated := insN s.thm.derated d } }).raise 17 [d, f]
  else if f = 32767 && on then { s with thm := { s.thm with derated := s.thm.derated.filter (fun x => x != d) } }
  else s

/-- Limits of estimate e at its new T_j (R396 to R399); the second answer says whether sd has changed. -/
def State.estLimits (s : State) (e : Nat) : State × Bool :=
  let v := s.est e
  let t := v.tj * 10
  let hys : Int := (s.fld 0x4C00 23 19 * 10 : Nat)
  let margin : Int := (s.fld 0x4C00 30 24 * 10 : Nat)
  let tW := s.estThr e 0x28 31 16
  let tD := s.estThr e 0x28 15 0
  let tS := s.estThr e 0x2C 31 16
  let tR := s.estThr e 0x2C 15 0
  let warn := tW * 1024 ≤ t && !v.warned
  let sdOn := tS * 1024 ≤ t && !v.sd
  let sdOff := t < tR * 1024 && v.sd
  let fast := if (tD - margin) * 1024 ≤ t then true else if t < (tD - margin - hys) * 1024 then false else v.fast
  let s := s.setEst e { v with
    warned := warn || (v.warned && !(t < (tW - hys) * 1024)), sd := (v.sd || sdOn) && !sdOff, fast := fast
    factor := estFactor v.tj tD tS }
  let g := (s.legGroup (estLeg e)).getD 255
  let s := s.raiseIf warn 16 [e, toBits 16 (tj10 v.tj)]
  let s := s.raiseIf sdOn 18 [e, g, toBits 16 (tj10 v.tj)]
  (s.raiseIf sdOff 19 [e], sdOn || sdOff)

/-- THM_SD of the group of estimate e follows the sd flags of the group (R398). -/
def State.thmSource (s : State) (e : Nat) : State :=
  match s.legGroup (estLeg e) with
  | none => s
  | some g =>
    if s.thm.ests.any (fun x => x.2.sd && s.legGroup (estLeg x.1) == some g) then s.assertSrc (312 + g) (s.now * 32)
    else s.releaseSrc (312 + g)

/-- The network of estimate e advances to now (R394). -/
def State.estNetwork (s : State) (e : Nat) : State :=
  let v := s.est e
  let dt := s.now - v.last
  if dt = 0 then s
  else
    let k := estKey e
    let exact := (List.range 4).map (fun i =>
      nodeStep (v.nodes.getD i 0) (s.fld (k + 0x18 + 4 * i) 31 16) (max 1 (s.fld (k + 0x18 + 4 * i) 15 0)) v.energy dt)
    let (nodes, s) := exact.foldl (fun (x : List Int × State) n => let (m, s) := x.2.within 10 n; (x.1 ++ [m], s)) ([], s)
    let (tj, s) := s.within 12 (roundEven (s.tRef e * 1024) 10 + exact.sum)
    s.setEst e { v with nodes := nodes, tj := tj, energy := 0, last := s.now, pW := min 4095 (v.energy * 4 / (dt * 10 ^ 10)) }

def State.snsSt (s : State) (k : Nat) : Sns := getD s.thm.sns k {}

/-- Sensor k has a new reading (R395). -/
def State.snsRead (s : State) (k : Nat) : State :=
  let x := s.snsSt k
  let out := s.snsTemp k < -500 || 1750 < s.snsTemp k
  let x : Sns := if out then { bad := min 10 (x.bad + 1), okSince := none } else { bad := 0, okSince := some (x.okSince.getD s.now) }
  { s with thm := { s.thm with sns := put s.thm.sns k x } }

/-- Die temperatures and what follows from them; they are read once in a millisecond (R395, R401). -/
def State.thmDies (s : State) (m : ThmMeas) : State :=
  let h := s.thm
  let vOn := 1700 ≤ m.dieV && !h.vlvHot
  let cOn := 1250 ≤ m.dieC && !h.ctlHot
  let s := { s with thm := { h with dieV := m.dieV, dieC := m.dieC, vlvHot := (h.vlvHot || vOn) && !(m.dieV < 1500)
                                    ctlHot := 1250 ≤ m.dieC } }
  let s := if h.dieAt + ticksPerMs ≤ s.now then
      (({ s with thm := { s.thm with dieAt := s.now } } : State).snsRead 12).snsRead 13 else s
  (s.raiseIf vOn 22 [toBits 16 m.dieV]).raiseIf cOn 23 [toBits 16 m.dieC]

/-- Estimate e is due for an update (R393). -/
def State.estDue (s : State) (e : Nat) : Bool :=
  let v := s.est e
  let st := (s.leg (estLeg e)).start / 32
  s.thm.run && e < 98 && s.estEn e && !v.bad && v.last < s.now
  && (v.next ≤ s.boundNow || (v.fast && v.last + 4000 ≤ st && st ≤ s.now))

/-- The update of estimate e (R393 to R399). -/
def State.thmUpdate (s : State) (e : Nat) : State :=
  let s := s.estNetwork e
  let v := s.est e
  let s := if v.next ≤ s.boundNow then s.setEst e { v with next := nextMultiple v.next ticksPerMs s.boundNow } else s
  let (s, ch) := s.estLimits e
  let s := s.derateEv (s.estDch e)
  if ch then s.thmSource e else s

/-- Number of the first illegal field of estimate e in the order of Table 16.3, with those of THM_CFG, its
device table and its NTC after them; none when all are legal (R402). -/
def State.estBadField (s : State) (e : Nat) : Option Nat :=
  let k := estKey e
  let ref := s.fld (k + 8) 26 23
  let dev := 0x17000 + 4 * s.fld (k + 8) 30 27
  let tW := s.estThr e 0x28 31 16
  let tD := s.estThr e 0x28 15 0
  let tS := s.estThr e 0x2C 31 16
  let tR := s.estThr e 0x2C 15 0
  let m := s.fld 0x4C00 30 24
  let h := s.fld 0x4C00 23 19
  let bad : List Bool := [
    14 ≤ ref, s.fld (k + 8) 15 14 == 3, 96 ≤ s.fld (k + 8) 13 7, 96 ≤ s.fld (k + 8) 6 0, s.fld (k + 0xC) 31 16 == 0,
    96 ≤ s.fld (k + 0xC) 15 9, s.fld (k + 0x10) 31 16 == 0, 1000 < s.fld (k + 0x10) 15 0, s.fld (k + 0x14) 31 16 == 0,
    (List.range 4).any (fun i => s.fld (k + 0x18 + 4 * i) 15 0 == 0), tS < tW, tS ≤ tD, tS - 50 < tR,
    m == 0 || 50 < m, h == 0 || 20 < h, s.fld dev 31 16 == 0, s.fld dev 15 2 == 0,
    ref < 12 && (s.fld (0x4C80 + 4 * ref) 31 16 == 0 || s.fld (0x4C80 + 4 * ref) 15 0 < 1000 || 10000 < s.fld (0x4C80 + 4 * ref) 15 0)]
  bad.findIdx? id

/-- THM's checks at lock (R402, R403). -/
def State.thmLockCheck (s : State) : State × Bool :=
  let x := ((List.range 98).filter s.estEn).foldl (fun x e =>
    match x.1.estBadField e with
    | some f => ((x.1.setEst e { x.1.est e with bad := true }).raise 21 [e, f], true)
    | none => x) (s, false)
  ((List.range 68).filter (fun n => s.rb (legBase n) 31 && s.legOk n)).foldl (fun x n =>
    (legEsts n).foldl (fun x e => if s.estEn e then x else (x.1.raise 21 [e, 255], true)) x) x

/-- THM runs from the clapper start, and its milliseconds count from there (R30, Table 16.2). -/
def State.thmStart (s : State) : State :=
  if s.rb 0x4C00 31 then
    let s := { s with thm := { s.thm with run := true } }
    ((List.range 98).filter s.estEn).foldl (fun s e =>
      s.setEst e { s.est e with last := s.now, next := s.now + ticksPerMs }) s
  else s

end Sys2Proof.Machine
end

