-- ==== Sys2Proof/Machine/CmuOps.lean ====
section
/-! DEFINITION. The commutation units (chapter 09): shared operations. -/

namespace Sys2Proof.Machine

def State.cmu (s : State) (u : Nat) : Cmu := getD s.cmus u {}
def State.setCmu (s : State) (u : Nat) (v : Cmu) : State := { s with cmus := put s.cmus u v }


/-- U leg of the bridge of unit u; V and W follow (Table 9.1). -/
def cmuU (u : Nat) : Nat := if u < 4 then 32 + 3 * u else 44 + 3 * (u - 4)
/-- The legs of unit u. -/
def cmuLegs (u : Nat) : List Nat := [cmuU u, cmuU u + 1, cmuU u + 2]

/-- mode: 0 HALL, 1 SINE, 2 SENSORLESS. -/
def State.cmuMode (s : State) (u : Nat) : Nat := s.fld (cmuBase u) 30 29
/-- kind: 0 SPEED, 1 TORQUE, 2 CURVE. -/
def State.cmuKind (s : State) (u : Nat) : Nat := s.fld (cmuBase u) 28 27
def State.cmuHall (s : State) (u : Nat) : Nat := s.fld (cmuBase u) 25 22
def State.cmuPp (s : State) (u : Nat) : Nat := s.fld (cmuBase u) 21 18
def State.standRpm (s : State) (u : Nat) : Nat := s.fld (cmuBase u + 0xC) 15 0
def State.handRpm (s : State) (u : Nat) : Nat := s.fld (cmuBase u + 0x10) 15 0
def State.accMax (s : State) (u : Nat) : Nat := s.fld (cmuBase u + 0x20) 23 0
def State.sMax (s : State) (u : Nat) : Nat := s.fld (cmuBase u + 0x1C) 31 16

/-- Command in force (R234, Table 9.9). -/
def State.cmuCmd (s : State) (u : Nat) : Int :=
  match (s.cmu u).cmd with
  | some v => v
  | none => sx 16 (s.fld (cmuBase u + 0x30) 31 16)

/-- Curve point i of unit u (Table 9.11). -/
def State.crvPt (s : State) (u i : Nat) : Int × Int :=
  let k := 0x11000 + 4 * (u * 32 + i)
  (sx 16 (s.fld k 31 16), sx 16 (s.fld k 15 0))

/-- curve(x) (R235). -/
def State.curve (s : State) (u : Nat) (x : Int) : Int :=
  let n := s.fld (cmuBase u) 17 12
  if x ≤ (s.crvPt u 0).1 then (s.crvPt u 0).2
  else if (s.crvPt u (n - 1)).1 ≤ x then (s.crvPt u (n - 1)).2
  else
    match (List.range (n - 1)).find? (fun i => (s.crvPt u i).1 ≤ x && x < (s.crvPt u (i + 1)).1) with
    | none => 0
    | some i =>
      let a := s.crvPt u i
      let b := s.crvPt u (i + 1)
      a.2 + ((x - a.1) * (b.2 - a.2)).tdiv (b.1 - a.1)

/-- The unit's fields and legs meet R220 and Tables 9.5 to 9.9, and its bridge is in a group (R92). -/
def State.cmuOk (s : State) (u : Nat) : Bool :=
  let b := cmuBase u
  let U := legBase (cmuU u)
  let T := s.reg (U + 4)
  let line := s.fld (U + 0x1C) 10 6
  let stand := s.standRpm u
  let lst := s.fld (b + 0x14) 31 24
  let pre := s.fld (b + 0x14) 23 16
  let win := s.fld (b + 0x24) 31 20
  let n := s.fld b 17 12
  (s.legGroup (cmuU u)).isSome && s.cmuMode u != 3 && s.cmuKind u != 3 && 1 ≤ s.cmuPp u && 2 ≤ n && n ≤ 32
  && 1 ≤ s.fld (b + 4) 31 16 && 1 ≤ s.fld (b + 4) 15 0 && 1 ≤ s.fld (b + 8) 15 0
  && 1 ≤ stand && stand ≤ s.fld (b + 0xC) 31 16 && stand ≤ s.fld (b + 0x10) 31 16 && stand ≤ s.handRpm u && s.handRpm u ≤ s.sMax u
  && 5 ≤ lst && lst ≤ 200 && 1 ≤ pre && pre ≤ 100 && s.fld (b + 0x14) 15 0 ≤ 5000
  && 100 ≤ s.fld (b + 0x18) 31 16 && s.fld (b + 0x18) 31 16 ≤ 60000 && 10 ≤ s.fld (b + 0x18) 15 0 && s.fld (b + 0x18) 15 0 ≤ 5000
  && 1 ≤ s.sMax u && 1 ≤ s.fld (b + 0x1C) 15 0 && 128 ≤ s.fld (b + 0x20) 31 24 && 1 ≤ s.accMax u
  && (if u < 4 then 210 else 60) ≤ win && win ≤ 2000 && 1 ≤ s.fld (b + 0x24) 19 12 && 1 ≤ s.fld (b + 0x24) 11 8
  && 1 ≤ s.fld (b + 0x28) 31 16 && 1 ≤ s.fld (b + 0x28) 15 0
  && 1 ≤ s.fld (b + 0x2C) 31 24 && s.fld (b + 0x2C) 31 24 ≤ 50 && 1 ≤ s.fld (b + 0x2C) 23 12
  && sx 16 (s.fld (b + 0x34) 15 0) < sx 16 (s.fld (b + 0x34) 31 16)
  && (s.cmuKind u != 2 || (List.range (n - 1)).all (fun i => (s.crvPt u i).1 < (s.crvPt u (i + 1)).1))
  && (cmuLegs u).all (fun l => s.legMode l == 1 && s.reg (legBase l + 4) == T && !s.rb (legBase l) 31 && !s.rb (legBase l) 16)
  && s.fld (U + 0x1C) 12 11 == 3 && s.fld (U + 0x1C) 21 20 == (if u < 4 then 0 else 3)
  && (s.lineLegs line).all (fun l => l == cmuU u)
  && (u < 4 || (s.lineLegs (s.fld (U + 0x1C) 19 15)).all (fun l => l == cmuU u))
  && (s.cmuMode u == 2 || s.fld (0x3400 + 0x20 * s.cmuHall u) 30 28 == 1)

/-- The TRM group of unit u is in RUN. -/
def State.cmuGrpRun (s : State) (u : Nat) : Bool :=
  match s.legGroup (cmuU u) with
  | some g => (s.grp g).st == .run
  | none => false

/-- Speed from the hall edges, in 0.25 rpm (R223). -/
def State.hallRpm (s : State) (u : Nat) : Int :=
  let p := s.fb.pfis.find? (fun x => x.1 == s.cmuHall u)
  match p with
  | none => 0
  | some (_, p) =>
    let pp := s.cmuPp u
    if p.hallDt = 0 || pp = 0 || 4000000000 < (s.now - p.hallT / 32) * pp * s.standRpm u then 0
    else
      let v : Int := divOpen (16000000000 * 32) (pp * p.hallDt)
      if p.hallFwd then v else -v

/-- The unit's speed in 0.25 rpm (Table 9.10). -/
def State.cmuRpm (s : State) (u : Nat) : Int := if s.cmuMode u = 2 then (s.cmu u).obs else s.hallRpm u

/-- The unit's hall channel is in fault. -/
def State.cmuHallFault (s : State) (u : Nat) : Bool := s.cmuMode u != 2 && (getD s.fb.pfis (s.cmuHall u) {} : Pfi).fault

/-- A state that drives the bridge (Table 9.3). -/
def CmuSt.drives (x : CmuSt) : Bool :=
  match x with
  | .brake => true
  | .precharge => true
  | .align => true
  | .ramp => true
  | .run => true
  | .stopping => true
  | _ => false

/-- A start is under way (R236). -/
def CmuSt.starting (x : CmuSt) : Bool :=
  match x with
  | .listen => true
  | .brake => true
  | .precharge => true
  | .align => true
  | .ramp => true
  | .waitRetry => true
  | _ => false

/-- Float the bridge: en of the three legs cleared (R221). -/
def State.cmuFloat (s : State) (u : Nat) : State :=
  (cmuLegs u).foldl (fun s n => if (s.leg n).enabled then s.legStop n else s) s

/-- The unit stops driving and enters OFF, ARMED, WAIT_RETRY or FAULT with a cause (Table 9.3); a state counts from the
boundary at which it is entered (R224). -/
def State.cmuRest (s : State) (u : Nat) (x : CmuSt) (cause : Nat) : State :=
  let v := s.cmu u
  let s := (s.setCmu u { v with st := x, since := s.boundNow, cause := cause, toOff := false, vLim := false, sLim := false, iLim := false
                                starved := false, skipRun := 0, vScale := 65536, target := 0, loop := {} }).cmuFloat u
  if x == .waitRetry || v.st == x then s else s.raise 110 [u, cause]

/-- Compare values of the three legs of unit u go to their shadow sets. -/
def State.cmuWrite (s : State) (u : Nat) (tc : List Nat) : State :=
  (List.range 3).foldl (fun s i =>
    let n := cmuU u + i
    s.setLeg n { s.leg n with shadow := { (s.leg n).shadow with tc := tc.getD i 0 } }) s

/-- The unit enters a driving state: its legs are enabled after the check of R72 (R221). -/
def State.cmuDrive (s : State) (u : Nat) (x : CmuSt) : State :=
  if !(cmuLegs u).all s.legOk then ((s.raise 108 [u, 8]).cmuRest u .fault 8)
  else
    let s := (cmuLegs u).foldl (fun s n => if (s.leg n).enabled then s else s.legStart n) s
    let s := if x == .brake || x == .precharge then s.cmuWrite u [0, 0, 0] else s
    let s := s.setCmu u { s.cmu u with st := x, since := s.boundNow }
    if x == .run then s.raise 109 [u, (s.cmu u).outcome, toBits 32 (s.cmuRpm u)] else s

/-- The unit listens. -/
def State.cmuListen (s : State) (u : Nat) : State :=
  (s.setCmu u { s.cmu u with st := .listen, since := s.boundNow }).cmuFloat u

/-- The commanded speed or current of unit u before its limits (R234, R235). -/
def State.cmuWanted (s : State) (u : Nat) : Int := if s.cmuKind u = 2 then s.curve u (s.cmuCmd u) else s.cmuCmd u

/-- A start begins: direction, no BRAKE outcome yet (R225, R228). -/
def State.cmuBegin (s : State) (u : Nat) : State :=
  (s.setCmu u { s.cmu u with fwd := 0 ≤ s.cmuWanted u, brakes := 0, catching := false }).cmuListen u

/-- The run ends by `stop` at the curve's lower threshold, or by CMU_STOP (Table 9.3, R236). -/
def State.cmuEnd (s : State) (u : Nat) (byCmd : Bool) : State :=
  let cause := if byCmd then 1 else 9
  let rest := if s.cmuKind u = 2 && !byCmd then CmuSt.armed else .off
  if (s.cmu u).st == .run && s.rb (cmuBase u) 11 then
    s.setCmu u { s.cmu u with st := .stopping, since := s.boundNow, cause := cause, toOff := byCmd }
  else s.cmuRest u rest cause

/-- A stall, or NO_SYNC (R231, R233). -/
def State.cmuStall (s : State) (u cause : Nat) : State :=
  let v := s.cmu u
  let recent := v.stalls.filter (fun t => s.now < t + 60 * ticksPerS)
  let s := (s.setCmu u { v with stalls := s.now :: recent, cause := cause }).raise 115 [u, cause]
  if s.fld (cmuBase u + 0x24) 11 8 ≤ recent.length + 1 then s.cmuRest u .fault cause else s.cmuRest u .waitRetry cause

/-- A CMU_START or CMU_STOP that has waited takes effect (Table 9.3). -/
def State.cmuReq (s : State) (u k : Nat) : State :=
  if k = 2 then (if (s.cmu u).st == .off then s else s.cmuEnd u true)
  else if (s.cmu u).st == .off || (s.cmu u).st == .fault then
    let s := s.setCmu u { s.cmu u with stalls := if (s.cmu u).st == .fault then [] else (s.cmu u).stalls }
    if s.cmuKind u = 2 then (s.setCmu u { s.cmu u with st := .armed, since := s.boundNow, cause := 0 }).raise 110 [u, 0]
    else s.cmuBegin u
  else s

/-- The speed target moves toward the command over dt ticks (R237), clamped with s_lim (R238). -/
def State.cmuTarget (s : State) (dt u : Nat) : State :=
  let v := s.cmu u
  if s.cmuKind u = 1 then s
  else
    let w := if v.st == .stopping then 0 else s.cmuWanted u
    let top : Int := s.sMax u
    let lim := w < -top || top < w
    let goal := clampI (-top) top w * 400000000
    let stp : Int := s.accMax u * dt
    let tgt := if v.target < goal then min goal (v.target + stp) else max goal (v.target - stp)
    let ev := lim && !v.sLim && (v.ev114 = 0 || v.ev114 - 1 + ticksPerS ≤ s.now)
    (s.setCmu u { v with target := tgt, sLim := lim, ev114 := if ev then s.now + 1 else v.ev114 }).raiseIf ev 114 [u]

/-- Unit u at a boundary tick b, dt ticks after the one before: waiting commands, the curve's thresholds and the speed target (R224,
R236 to R238). -/
def State.cmuBoundary (s : State) (b dt u : Nat) : State :=
  let rs := (s.cmu u).req.filter (fun r => r.2 < b)
  let s := s.setCmu u { s.cmu u with req := (s.cmu u).req.filter (fun r => b ≤ r.2) }
  let s := rs.foldl (fun s r => s.cmuReq u r.1) s
  let x := s.cmuCmd u
  let on := sx 16 (s.fld (cmuBase u + 0x34) 31 16)
  let off := sx 16 (s.fld (cmuBase u + 0x34) 15 0)
  let st := (s.cmu u).st
  let s := if s.cmuKind u = 2 && st == .armed && on ≤ x then s.cmuBegin u
           else if s.cmuKind u = 2 && (st == .run || st.starting) && x < off then s.cmuEnd u false else s
  if (s.cmu u).st == .run || (s.cmu u).st == .stopping then s.cmuTarget dt u else s

/-- Units at a boundary tick b, dt ticks after the one before. -/
def State.cmusBoundary (s : State) (b dt : Nat) : State := (s.cmus.map (·.1)).foldl (fun s u => s.cmuBoundary b dt u) s

/-- The TRM group of a unit has left RUN: OFF with cause TRIP, and a start that still waits is dropped (R244). -/
def State.cmuTrip (s : State) (g : Nat) : State :=
  (s.cmus.map (·.1)).foldl (fun s u =>
    if s.legGroup (cmuU u) == some g then
      let s := s.setCmu u { s.cmu u with req := [] }
      if (s.cmu u).st == .off then s else s.cmuRest u .off 2
    else s) s

/-- Units with en = 1 at lock: a failing one stays OFF with EV108 (R220). -/
def State.cmuLockCheck (s : State) : State × Bool :=
  (List.range 12).foldl (fun x u =>
    if x.1.rb (cmuBase u) 31 && !x.1.cmuOk u then
      ((x.1.setCmu u { x.1.cmu u with bad := true }).raise 108 [u, 8], true) else x) (s, false)

end Sys2Proof.Machine
end

