-- ==== Sys2Proof/Machine/RailOps.lean ====
section
/-! DEFINITION. The implement power rails and the voltage command link (chapter 13): shared operations. -/

namespace Sys2Proof.Machine

def State.rail (s : State) (r : Nat) : Rail := getD s.rails r {}
def State.setRail (s : State) (r : Nat) (v : Rail) : State := { s with rails := put s.rails r v }
def State.phase (s : State) (r p : Nat) : Phase := getD (s.rail r).phases p {}
def State.setPhase (s : State) (r p : Nat) (v : Phase) : State :=
  s.setRail r { s.rail r with phases := put (s.rail r).phases p v }

def rgcBase (r : Nat) : Nat := 0x4400 + 0x100 * r
/-- Leg of phase p of rail r (R311). -/
def railLeg (r p : Nat) : Nat := if r = 0 then 14 + p else 20 + p
/-- Rail and phase of a leg (Table 13.1). -/
def legRail (n : Nat) : Option (Nat × Nat) :=
  if 14 ≤ n && n < 20 then some (0, n - 14) else if 20 ≤ n && n < 24 then some (1, n - 20) else none
def railGrp (r : Nat) : Nat := 5 + r
def railPhases (r : Nat) : Nat := if r = 0 then 6 else 4

def State.cmdHost (s : State) (r : Nat) : Bool := s.rb (rgcBase r) 30
def State.fitted (s : State) (r : Nat) : List Nat := (List.range (railPhases r)).filter (fun p => s.rb (rgcBase r) (22 + p))
/-- Active phases of rail r, ascending (R311). -/
def State.activePhases (s : State) (r : Nat) : List Nat := (s.fitted r).filter (fun p => !(s.phase r p).retired)
def State.slewMax (s : State) (r : Nat) : Nat := s.fld (rgcBase r + 0x18) 31 16
def State.vBand (s : State) (r : Nat) : Nat := s.fld (rgcBase r + 0x14) 31 16
def State.settle10 (s : State) (r : Nat) : Nat := s.fld (rgcBase r + 0x14) 15 8 * ticksPerMs
def State.vMin (s : State) (r : Nat) : Nat := s.fld (rgcBase r + 0x10) 15 0
def State.vMax (s : State) (r : Nat) : Nat := s.fld (rgcBase r + 0x10) 31 16
/-- Derating factor of rail r (R315). -/
def State.railFactor (s : State) (r : Nat) : Nat := s.derate (s.fld (rgcBase r) 21 14)
/-- i_lim′ (R315). -/
def State.iLim (s : State) (r : Nat) : Nat := s.fld (rgcBase r + 4) 31 20 * s.railFactor r / 32767

/-- i_ref of phase p: the value in force of the binding, or b_pk in BURST (R315, R324). -/
def State.iRef (s : State) (r p : Nat) : Nat :=
  if (s.rail r).st == .burst then s.fld (rgcBase r + 0x20) 11 0
  else match (s.rail r).refs.find? (fun x => x.1 == 15) with
    | some v => v.2.toNat
    | none => match (s.rail r).refs.find? (fun x => x.1 == p) with
      | some v => v.2.toNat
      | none => 0

/-- Mean of the values in force of a history (R332). -/
def meanI (l : List Int) : Int := if l.isEmpty then 0 else divOpen l.sum l.length
def Rail.vAvg (x : Rail) : Nat := if x.hist.isEmpty then 0 else (divOpen (x.hist.map (·.1)).sum x.hist.length).toNat
def Rail.iAvg (x : Rail) : Int := meanI (x.hist.map (·.2))

/-- Absorption offset of rail r in 0.1 V (R380). -/
def State.railOfs (s : State) (r : Nat) : Nat := (divOpen (if r = 0 then s.dcl.ofsA else s.dcl.ofsB) 400000).toNat
/-- v_cmd in 0.1 V (R321, R380). -/
def State.vCmd (s : State) (r : Nat) : Nat := (divOpen (s.rail r).vCmd 400000).toNat + s.railOfs r

/-- p_avail in 0.1 kW (R329). -/
def State.pAvail (s : State) (r : Nat) : Nat :=
  (divOpen ((s.activePhases r).length * s.fld (rgcBase r + 0x18) 15 0 * s.railFactor r : Nat) 32767).toNat

/-- In SOFTSTART, RUN, BURST or HICCUP. -/
def RailSt.runs : RailSt → Bool
  | .softstart => true
  | .run => true
  | .burst => true
  | .hiccup => true
  | _ => false

/-- Code of a rail state (Table 13.9). -/
def RailSt.code : RailSt → Nat
  | .off => 0
  | .ready => 1
  | .softstart => 2
  | .run => 3
  | .burst => 4
  | .hiccup => 5
  | .latched => 6

def inBand (a b w : Nat) : Bool := a ≤ b + w && b ≤ a + w

/-! ### Frames (R334, Table 13.5) -/

/-- CRC-16 0x1021 from 0xFFFF, MSB first. -/
def crc16 (l : List Nat) : Nat :=
  l.foldl (fun c b =>
    (List.range 8).foldl (fun c _ => if 32768 ≤ c then ((c * 2) % 65536) ^^^ 0x1021 else c * 2) (c ^^^ (b % 256 * 256))) 0xFFFF

/-- Send 14 bytes with their check value. -/
def State.vclSend (s : State) (r : Nat) (l : List Nat) : State :=
  s.setRail r { s.rail r with sent := (l ++ leBytes 2 (crc16 l)) :: (s.rail r).sent }

/-- The cause and the link flags of STATUS. -/
def State.vclStatus (s : State) (r : Nat) : State :=
  let x := s.rail r
  let fl := b2n (inBand x.vAvg (s.vCmd r) (s.vBand r)) + 2 * b2n x.oob + 4 * b2n x.trans.isSome
    + 8 * b2n (x.phases.any (fun p => p.2.retired)) + 16 * b2n (x.link == .hold) + 32 * b2n (x.st == .burst)
    + 64 * b2n (s.railFactor r < 32767)
  let c := (x.statCnt + 1) % 256
  let s := s.setRail r { x with statCnt := c }
  s.vclSend r ([0x22, c, x.st.code, fl] ++ leBytes 2 x.vAvg ++ leBytes 2 (toBits 16 x.iAvg) ++ leBytes 2 (s.pAvail r)
    ++ [x.lastSeq, (s.fitted r).length * 16 + (s.activePhases r).length] ++ leBytes 2 x.cause)

/-- A transition closes: 0 IN_BAND, 1 TIMEOUT, 2 SUPERSEDED, 3 STOPPED (R337). -/
def State.transClose (s : State) (r res : Nat) : State :=
  let x := s.rail r
  match x.trans with
  | none => s
  | some (seq, _) =>
    let s := s.setRail r { x with trans := none, okSince := none }
    let s := if s.cmdHost r then s
             else s.vclSend r ([0x23, seq, res, 0] ++ leBytes 2 x.vAvg ++ List.replicate 8 0)
    s.raise 166 [r, seq, res]

/-- A transition opens at acceptance (R337). -/
def State.transOpen (s : State) (r seq : Nat) : State :=
  let s := s.transClose r 2
  s.setRail r { s.rail r with trans := some (seq, s.now + s.fld (rgcBase r + 0x2C) 15 0 * ticksPerMs), okSince := none
                              outSince := none }

/-! ### Legs (R311 to R314, R324) -/

def State.railLegsOff (s : State) (r : Nat) : State :=
  (s.fitted r).foldl (fun s p => s.legStop (railLeg r p)) s

/-- Enable the active legs with cmp0 = T (R314). -/
def State.railLegsOn (s : State) (r : Nat) : State :=
  (s.activePhases r).foldl (fun s p =>
    let n := railLeg r p
    let s := s.setLeg n { s.leg n with shadow := { (s.leg n).shadow with tc := (s.leg n).shadow.period * 32 } }
    if (s.leg n).enabled then s else s.legStart n) s

/-- The phase offsets of R313. -/
def State.railOffsets (s : State) (r : Nat) : State :=
  let ps := s.activePhases r
  ps.foldl (fun s p =>
    let n := railLeg r p
    let l := s.leg n
    s.setLeg n { l with shadow := { l.shadow with ph := (rankOf p ps * l.shadow.period / ps.length) * 32 } }) s

/-! ### States (R317 to R323) -/

/-- Enter a state at boundary tick b; EV160 (R317). -/
def State.railGo (s : State) (r b : Nat) (st : RailSt) (cause : Nat) : State :=
  let x := s.rail r
  let run := st == .run || st == .burst
  let s := s.setRail r { x with
    st := st, cause := cause, since := b, limRun := 0, bRun := 0, awake := false, leave := false, doom := 0
    calm := if run && !(x.st == .run || x.st == .burst) then b else x.calm
    outSince := none, inSince := none, oob := x.oob && run }
  let s := match st with
    | .softstart => s.railLegsOn r
    | .run => s.railLegsOn r
    | _ => s.railLegsOff r
  let s := s.raise 160 [r, st.code, cause]
  if st == .ready || st == .off || st == .latched then s.transClose r 3 else s

/-- Enter SOFTSTART at boundary tick b: the ramp of R321. -/
def State.railSoftstart (s : State) (r b : Nat) : State :=
  let v := (s.rail r).vAvg
  let up := v < (s.rail r).vTgt
  let s := s.railGo r b .softstart 0
  let x := s.rail r
  s.setRail r { x with ramp0 := v, vTick := b, vCmd := (if up then v else x.vTgt) * 400000
                       rampEnd := if up then b + s.fld (rgcBase r + 0xC) 31 16 * ticksPerMs else b }

/-- A short is detected: HICCUP, or LATCHED with cause SHORT; kind 0 LIMIT, 1 LOW (R322). -/
def State.railShort (s : State) (r b kind : Nat) : State :=
  let n := (s.rail r).hicCnt + 1
  if s.fld (rgcBase r) 5 2 < n then (s.railGo r b .latched 4).raise 163 [r]
  else
    let s := s.setRail r { s.rail r with hicCnt := n }
    (s.railGo r b .hiccup 0).raise 162 [r, n, kind]

/-- An ON or OFF command takes effect at boundary tick b (R320, R321). -/
def State.railCommand (s : State) (r b : Nat) (on : Bool) (v slew : Nat) : State :=
  let x := s.rail r
  if x.st == .off || x.st == .latched then s
  else if on then
    let sl := if slew = 0 then s.slewMax r else min slew (s.slewMax r)
    let s := s.setRail r { x with vTgt := v, slew := sl }
    if x.st == .ready then s.railSoftstart r b else s
  else if x.st.runs then s.railGo r b .ready 0
  else s

/-- RAIL_STOP takes effect (Table 13.2). -/
def State.railStop (s : State) (r b : Nat) : State :=
  if (s.rail r).st == .off then s else s.railGo r b .off 1

/-- RAIL_START takes effect; from LATCHED it sets hic_cnt to 0 (R323, Table 13.2). -/
def State.railStart (s : State) (r b : Nat) : State :=
  let x := s.rail r
  if x.st == .off || x.st == .latched then
    (s.setRail r { x with hicCnt := if x.st == .latched then 0 else x.hicCnt }).railGo r b .ready 0
  else s

/-- The rail will be LATCHED at the next boundary (R317, R318, R326). -/
def State.railDoom (s : State) (r cause : Nat) : State :=
  let x := s.rail r
  if x.st == .off || x.st == .latched || x.doom != 0 then s else s.setRail r { x with doom := cause }

/-- The last voltage command accepted, whether or not it is in force. -/
def State.vLast (s : State) (r : Nat) : Nat :=
  match ((s.rail r).cmds.filter (·.2.1)).getLast? with
  | some c => c.2.2.1
  | none =>
    match s.hif.pend.reverse.find? (fun p => match p.act with
      | .railSet q true _ _ => q == r
      | _ => false) with
    | some p => match p.act with
      | .railSet _ _ v _ => v
      | _ => (s.rail r).vTgt
    | none => (s.rail r).vTgt

/-- An ON command is accepted: a transition opens when it changes v_tgt or starts the rail (R337). -/
def State.railAccept (s : State) (r seq v : Nat) : State :=
  let st := (s.rail r).st
  if st == .off || st == .latched then s
  else if v != s.vLast r || st == .ready then s.transOpen r seq else s

/-! ### Periods (R314, R316, R322, R324, R325, R332) -/

/-- A period of the carrier of the lowest active phase has ended. -/
def State.railPeriod (s : State) (r : Nat) (m : LegMeas) : State :=
  let x := s.rail r
  let ps := s.activePhases r
  let n := 2 ^ s.fld (rgcBase r + 8) 7 4
  let lim := ps.all (fun p => s.iLim r ≤ s.iRef r p && 0 < (s.phase r p).lastEnd)
  let hist := ((m.v, m.iRail) :: x.hist).take n
  let x := { x with hist := hist, vPk := max x.vPk m.v, vLo := min x.vLo m.v, iPk := max x.iPk m.iRail.toNat
                    slope := s.fld (rgcBase r + 8) 15 8 * ({ x with hist := hist } : Rail).vAvg }
  let low := x.vAvg * 10 < 3 * s.vCmd r
  let limRun := match x.st with
    | .softstart => if lim then x.limRun + 1 else 0
    | .run => if lim && low then x.limRun + 1 else 0
    | _ => 0
  let ent := x.st == .run && x.trans.isNone && s.rb (rgcBase r) 29 && inBand x.vAvg (s.vCmd r) (s.vBand r)
    && ps.all (fun p => s.iRef r p * 100 < s.fld (rgcBase r + 0x20) 31 24 * s.iLim r)
  let bRun := if ent then x.bRun + 1 else 0
  let s := s.setRail r { x with limRun := limRun, bRun := bRun
                                limAt := if limRun = s.fld (rgcBase r) 13 6 then s.now else x.limAt
                                bAt := if bRun = s.fld (rgcBase r + 0x20) 23 12 then s.now else x.bAt }
  if x.st != .burst then s
  else
    let bb := s.fld (rgcBase r + 0x24) 31 16
    let s := if m.v + s.vBand r ≤ s.vCmd r then s.setRail r { s.rail r with leave := true } else s
    if !x.awake && m.v + bb ≤ s.vCmd r then
      (s.setRail r { s.rail r with awake := true, packet := s.now }).railLegsOn r
    else if x.awake && s.vCmd r + bb ≤ m.v then (s.setRail r { s.rail r with awake := false }).railLegsOff r
    else s

/-- The fault that a period of phase p shows: 0 none, 1 OPEN, 2 SENSE_HIGH (R325). -/
def State.phaseFault (s : State) (r p : Nat) (iPh : Int) : Nat :=
  let e := (s.phase r p).lastEnd
  if e = 0 && iPh < (s.fld (rgcBase r + 0x1C) 19 8 : Nat) then 1
  else if e = 1 && (s.activePhases r).any (fun q => q != p && (s.phase r q).lastEnd != 1) then 2
  else 0

/-- RGC_PERIOD: a period of leg n has ended; judge the phase and set up the next (R314, R316, R325,
R326). -/
def State.rgcPeriod (s : State) (n : Nat) (m : LegMeas) : State :=
  match legRail n with
  | none => s
  | some (r, p) =>
    if !(s.rail r).armed then s
    else
      let ph := s.phase r p
      let k := 2 ^ s.fld (rgcBase r + 8) 7 4
      let s := s.setPhase r p { ph with lastEnd := ph.ended, ended := 0, ih := (m.iPh :: ph.ih).take k }
      let s := if (s.activePhases r).head? == some p then s.railPeriod r m else s
      let st := (s.rail r).st
      if !(s.activePhases r).contains p || !(st == .softstart || st == .run) then s
      else
        let f := s.phaseFault r p m.iPh
        let ph := s.phase r p
        let run := if f = 0 then 0 else if f = ph.fltKind then satInc 4095 ph.fltRun else 1
        let s := s.setPhase r p { ph with fltRun := run, fltKind := f }
        if f != 0 && s.fld (rgcBase r + 0x1C) 31 20 ≤ run && (s.activePhases r).length = 1 then s.railDoom r 5 else s

/-- Retire phase p (R327); REPLACE_ADVISED where a fault has retired it. -/
def State.phaseRetire (s : State) (r p cause : Nat) : State :=
  let s := s.setPhase r p { s.phase r p with retired := true, retCause := cause }
  let s := (s.legStop (railLeg r p)).railOffsets r
  let s := s.raise 164 [r, p, cause]
  if cause = 3 then s else s.advise 1 (r * 256 + p)

/-! ### Boundaries -/

/-- v_cmd at boundary tick b (R321). -/
def State.vCmdUpdate (s : State) (r b : Nat) : State :=
  let x := s.rail r
  let dt := b - x.vTick
  let tgt := x.vTgt * 400000
  let v :=
    if x.st == .softstart then
      if x.rampEnd ≤ b then tgt
      else ((x.ramp0 : Int) * 400000 + ((x.vTgt : Int) - x.ramp0) * 400000 * (b - x.since : Nat) / (x.rampEnd - x.since : Nat)).toNat
    else if x.st == .run || x.st == .burst then
      let step := x.slew * 10 * dt
      if x.vCmd < tgt then min tgt (x.vCmd + step) else max tgt (x.vCmd - step)
    else x.vCmd
  s.setRail r { x with vCmd := v, vTick := b }

/-- Settling of a transition and of the band at tick b (R329, R337). -/
def State.railBand (s : State) (r b : Nat) : State :=
  let x := s.rail r
  let on := x.st == .run || x.st == .burst
  let ok := on && s.vCmd r == x.vTgt && inBand x.vAvg x.vTgt (s.vBand r)
  let ib := inBand x.vAvg (s.vCmd r) (s.vBand r)
  let keep := fun (c : Bool) (o : Option Nat) => if !c then none else match o with
    | none => some b
    | some t => some t
  let out := on && !ib && x.trans.isNone
  let x := { x with okSince := keep (ok && x.trans.isSome) x.okSince, outSince := keep out x.outSince
                    inSince := keep (on && ib) x.inSince }
  let clear := x.oob && (match x.inSince with
    | some t => t + s.settle10 r ≤ b
    | none => false)
  s.setRail r { x with oob := x.oob && !clear }

/-- A rail that is to be LATCHED at this boundary (R317, R318, R326). -/
def State.railLatch (s : State) (b r : Nat) : State :=
  if (s.rail r).armed && (s.rail r).doom != 0 then s.railGo r b .latched (s.rail r).doom else s

/-- Rail r at boundary tick b, after the host's commands (R317, R321, R329, R335). -/
def State.railBoundary (s : State) (b r : Nat) : State :=
  if !(s.rail r).armed then s
  else
    let s := if (s.rail r).stop then (s.setRail r { s.rail r with stop := false }).railStop r b else s
    let s := if (s.rail r).drop then
        let s := s.setRail r { s.rail r with drop := false }
        if (s.rail r).st.runs then s.railGo r b .ready 6 else s
      else s
    let s := if (s.rail r).st == .burst && ((s.rail r).leave || (s.rail r).trans.isSome) then (s.railGo r b .run 0).raise 172 [r, 1] else s
    let now := (s.rail r).cmds.filter (fun c => c.1 < b)
    let s := s.setRail r { s.rail r with cmds := (s.rail r).cmds.filter (fun c => !(c.1 < b)) }
    let s := now.foldl (fun s c => s.railCommand r b c.2.1 c.2.2.1 c.2.2.2) s
    (s.vCmdUpdate r b).railBand r b

/-- The watchdog of the link at this tick (R338). -/
def State.linkWatch (s : State) (r : Nat) : State :=
  if s.cmdHost r then s
  else
    let x := s.rail r
    let s := if x.link == .up && x.dl ≤ s.now then (s.setRail r { x with link := .hold }).raise 167 [r] else s
    let x := s.rail r
    if x.link == .hold && x.dl + s.fld (rgcBase r + 0x28) 15 0 * ticksPerMs ≤ s.now then
      let stop := !s.rb (rgcBase r) 28
      (s.setRail r { x with link := .down, drop := x.drop || stop }).raise 168 [r]
    else s

/-! ### Checks, start and reset -/

/-- A field of rail r that breaks R312, as register and cause: 1 field, 2 leg, 3 route, 4 binding. -/
def State.railFaults (s : State) (r : Nat) : List (Nat × Nat) :=
  let b := rgcBase r
  let bad := fun (c : Bool) (o k : Nat) => if c then [(b + o, k)] else []
  let thm := s.fld b 21 14
  let ls := (s.fitted r).map (railLeg r)
  let T := match ls.head? with
    | some n => s.reg (legBase n + 4)
    | none => 0
  let sg := match ls.head? with
    | some n => s.legSync n
    | none => 15
  let legBad := ls.any (fun n =>
    s.legMode n != 2 || !s.rb (legBase n) 24 || s.rb (legBase n) 16 || s.rb (legBase n) 31 || s.reg (legBase n + 4) != T
    || s.legSync n != sg || s.legTd n + s.legTmin n < 2560)
  let j := 2 + r
  let rt := 0x28C0 + 4 * j
  let n15 := s.targetCount 3 r 15
  let np := ((List.range 6).map (fun p => s.targetCount 3 r p)).sum
  let f := fun (o hi lo : Nat) => s.fld (b + o) hi lo
  bad ls.isEmpty 0 2 ++ bad (legBad || !(2000 ≤ T && T ≤ 20000) || 8 ≤ sg || !s.rb (0x2100 + 4 * sg) 31) 0 2
  ++ bad (!s.rb rt 31 || s.fld rt 29 28 != 2 || !s.rb rt (railGrp r)) 0 3
  ++ bad (s.fld (0x28E0 + 4 * j) 31 16 ≤ f 0x10 31 16 + f 0x14 31 16) 0x10 3
  ++ bad ((128 ≤ thm && thm != 255) || f 0 13 6 == 0) 0 1
  ++ bad (f 4 31 20 == 0 || f 4 15 0 == 0) 4 1 ++ bad (f 8 31 16 == 0 || f 8 15 8 < 128 || 10 < f 8 7 4) 8 1
  ++ bad (f 0xC 31 16 == 0 || f 0xC 15 0 < 10) 0xC 1
  ++ bad (f 0x10 31 16 < 3000 || 7500 < f 0x10 31 16 || f 0x10 15 0 < 3000 || 7500 < f 0x10 15 0 || f 0x10 31 16 < f 0x10 15 0) 0x10 1
  ++ bad (f 0x14 31 16 < 10 || 1000 < f 0x14 31 16 || f 0x14 15 8 == 0) 0x14 1
  ++ bad (f 0x18 31 16 == 0 || 1000 < f 0x18 31 16 || f 0x18 15 0 == 0 || 250 < f 0x18 15 0) 0x18 1
  ++ bad (f 0x1C 31 20 < 16 || f 0x1C 19 8 == 0) 0x1C 1
  ++ bad (f 0x20 31 24 == 0 || 50 < f 0x20 31 24 || f 0x20 23 12 == 0 || f 0x20 11 0 == 0) 0x20 1
  ++ bad (f 0x24 31 16 < 10 || 1000 < f 0x24 31 16 || f 0x14 31 16 ≤ f 0x24 31 16 || f 0x24 15 0 < 10) 0x24 1
  ++ bad (f 0x28 31 16 == 0) 0x28 1 ++ bad (f 0x2C 31 16 < 20 || f 0x2C 15 0 == 0) 0x2C 1
  ++ bad (1 < n15 || (0 < n15 && 0 < np)) 0 4

/-- The checks of rails with en = 1 at lock (R312). -/
def State.railLockCheck (s : State) : State × Bool :=
  (List.range 2).foldl (fun x r =>
    if !x.1.rb (rgcBase r) 31 then x
    else
      match x.1.railFaults r with
      | [] => (x.1.setRail r { x.1.rail r with armed := true }, x.2)
      | (o, c) :: _ => (x.1.raise 161 [r, o, c], true)) (s, false)

/-- Armed rails set their phase offsets and the STATUS interval at the start of RGC (R313, R336). -/
def State.railsStart (s : State) (t : Nat) : State :=
  (List.range 2).foldl (fun s r =>
    if (s.rail r).armed then
      let s := s.railOffsets r
      s.setRail r { s.rail r with statNext := t, vTick := t }
    else s) s

/-- Before PD_CONV is reset every rail stops as by RAIL_STOP; after it RGC is at its reset record (R340). -/
def State.railsReset (s : State) : State :=
  (List.range 2).foldl (fun s r =>
    let s := s.railStop r s.now
    s.setRail r { armed := (s.rail r).armed }) s

end Sys2Proof.Machine
end

