-- ==== Sys2Proof/Machine/PpmOps.lean ====
section
/-! DEFINITION. Precedence reports, DC link management, the power path and charge sessions (chapters 14
and 15): shared operations. -/

namespace Sys2Proof.Machine

/-! ### Precedence (R372 to R374, R599) -/

/-- The yield mask of one rank (Table 15.4). -/
def rankBit (r : Nat) : Nat := 2 ^ (r - 1)

/-- Rank that an action on group g yields; none when the group holds no leg (R599). -/
def State.grpYield (s : State) (g : Nat) : Option Nat :=
  if g < 5 then some 3 else if g < 7 then some 4 else if g < 9 then some 6
  else
    let bs := (List.range 12).filter (fun b => s.bridgeGroup b == some g)
    if bs.any (fun b => b < 4) then some 3 else if bs.isEmpty then none else some 4

/-- A cause of Table 15.2 begins for an object: EV230, once until it ends (R374). -/
def State.precRaise (s : State) (forcing mask cause obj : Nat) : State :=
  if s.prec.on.contains (cause, obj) then s
  else ({ s with prec := { forcing := forcing, mask := mask, cause := cause, cnt := satInc 255 s.prec.cnt
                           on := s.prec.on ++ [(cause, obj)] } }).raise 230 [forcing, mask, cause, obj]

/-- The cause has ended for the object. -/
def State.precEnd (s : State) (cause obj : Nat) : State :=
  { s with prec := { s.prec with on := s.prec.on.filter (fun x => x != (cause, obj)) } }

/-- A cause holds or not. -/
def State.precIs (s : State) (b : Bool) (forcing mask cause obj : Nat) : State :=
  if b then s.precRaise forcing mask cause obj else s.precEnd cause obj

/-- A cause of group g, with the rank R599 gives. -/
def State.precGrp (s : State) (b : Bool) (forcing cause g : Nat) : State :=
  match s.grpYield g with
  | some r => s.precIs b forcing (rankBit r) cause g
  | none => s

/-! ### Readings -/

def State.vLink (s : State) : Nat := (s.afeVolt 36).toNat
def State.vBat (s : State) : Nat := (s.afeVolt 37).toNat
def State.vPort (s : State) : Nat := (s.afeVolt 38).toNat
def State.iBat (s : State) : Int := Config.amps 39 (s.afeCode 39)
def State.iDc (s : State) : Int := Config.amps 40 (s.afeCode 40)

/-- The contexts that PPM_INH names (Table 14.7). -/
def State.inhCtxs (s : State) : List Nat := ((List.range 4).map (fun i => s.fld 0x480C (8 * i + 7) (8 * i))).filter (fun c => c < 192)
def State.inhSlot (s : State) : Nat := s.fld 0x4800 11 8
def State.regSlot (s : State) : Nat := s.fld 0x4880 23 20

/-- A HOST slot that PPM or DCL writes is refused to the host (R365, R377). -/
def State.ppmOwns (s : State) (c slot : Nat) : Bool :=
  s.inhCtxs.contains c && ((s.rb 0x4800 31 && slot == s.inhSlot) || (s.rb 0x4880 31 && slot == s.regSlot))

/-! ### DC link management (R375 to R388) -/

/-- The brake chopper is available (R375). -/
def State.chopAvail (s : State) : Bool :=
  s.rb 0x4880 30 && ((s.grp 4).st == .run || (s.grp 4).st == .recovery) && !s.dcl.chopFlt

/-- An enabled BK leg is always on while the chopper current is low (R376). -/
def State.chopBad (s : State) : Bool :=
  [12, 13].any (fun n => (s.leg n).enabled && (s.leg n).active && (s.leg n).act.period * 32 ≤ (s.leg n).act.tc)
  && Config.amps 26 (s.afeCode 26) < (s.fld 0x4890 7 0 * 10 : Nat)

/-- Since when R376's conditions hold. -/
def State.chopWatch (s : State) : State :=
  if s.chopBad then
    { s with dcl := { s.dcl with noCur := match s.dcl.noCur with
                                          | some t => some t
                                          | none => some s.now } }
  else { s with dcl := { s.dcl with noCur := none } }

/-- The regeneration factor (R377). -/
def State.regenFactor (s : State) : Nat :=
  let span := s.fld 0x4884 15 0
  let (ir, isp) := match s.dcl.iReg with
    | some x => x
    | none => (s.fld 0x488C 31 16, s.fld 0x488C 15 0)
  let a := (clampI 0 span ((s.fld 0x4884 31 16 + span : Nat) - (s.vLink : Int))).toNat
  let c := (clampI 0 isp ((isp : Int) - (s.iBat - ir))).toNat
  min (32767 * a / max 1 span) (32767 * c / max 1 isp)

/-- New offset of rail r in 0.1 V / 400,000 after dt ticks (R380, R381). -/
def State.railAbsorb (s : State) (r dt : Nat) : Nat :=
  let x := s.rail r
  let old := if r = 0 then s.dcl.ofsA else s.dcl.ofsB
  let bit := s.rb 0x4880 (24 + r)
  let on := x.st == .run || x.st == .burst
  let step := s.slewMax r * 10 * dt
  let top := min (s.fld 0x4888 15 4 * 400000) (s.vMax r * 400000 - x.vCmd)
  if !on then 0
  else if bit && !s.chopAvail && s.fld 0x4888 31 16 ≤ s.vLink then max (min old top) (min top (old + step))
  else if s.vLink + s.fld 0x4890 31 16 < s.fld 0x4888 31 16 || s.chopAvail then old - step
  else min old top

/-- VC6 forces group g (R382). -/
def State.vc6Forces (s : State) (g : Nat) : Bool := s.trm.srcs.contains 310 && s.routed 310 g && (s.grp g).forced

/-- Stage in force (R387). -/
def State.dclStage (s : State) : Nat :=
  if (List.range 4).any s.vc6Forces then 3 else if 0 < s.dcl.ofsA || 0 < s.dcl.ofsB then 2
  else if s.dcl.factor < 32767 then 1 else 0

/-- EV189 when the stage changes (R387). -/
def State.dclStageEv (s : State) : State :=
  if s.dcl.run && s.dclStage != s.dcl.stage then
    ({ s with dcl := { s.dcl with stage := s.dclStage } }).raise 189 [s.dclStage, s.vLink]
  else s

/-- DCL_UPDATE at boundary tick b (R377, R380, R387). -/
def State.dclBoundary (s : State) (b : Nat) : State :=
  if !s.dcl.run || !s.up dConv then s
  else
    let f := s.regenFactor
    let dt := b - s.dcl.tick
    let oa := s.railAbsorb 0 dt
    let ob := s.railAbsorb 1 dt
    let s := { s with dcl := { s.dcl with factor := f, ofsA := oa, ofsB := ob, tick := b } }
    let s := s.inhCtxs.foldl (fun s c => s.hostPut c s.regSlot f) s
    let s := s.precIs (f < 32767) 2 (rankBit 3) 1 0
    let s := (s.precIs (0 < oa) 2 (rankBit 4) 2 0).precIs (0 < ob) 2 (rankBit 4) 2 1
    s.dclStageEv

/-! ### Slot writers (R384) -/

/-- HOST slots that SFP writes by the safety configuration in force: set in SafeOps as (context, slot). -/
def State.slotClash (named : List (Nat × Nat)) (cs : List Nat) (slot : Nat) : Bool := cs.any (fun c => named.contains (c, slot))

/-- Slots that PPM writes. -/
def State.ppmSlots (s : State) : List (Nat × Nat) := if s.rb 0x4800 31 then s.inhCtxs.map (fun c => (c, s.inhSlot)) else []
/-- Slots that DCL writes. -/
def State.dclSlots (s : State) : List (Nat × Nat) := if s.rb 0x4880 31 then s.inhCtxs.map (fun c => (c, s.regSlot)) else []

/-- DCL's check at lock (R383, R384); sfp are the slots SFP writes. -/
def State.dclLockCheck (s : State) (sfp : List (Nat × Nat)) : State × Bool :=
  if !s.rb 0x4880 31 then (s, false)
  else
    let gs := (List.range 4).filter (fun g => s.rb (grpBase g) 31)
    let vc := s.fld 0x28F8 31 16
    let bad := fun (c : Bool) (r k : Nat) => if c then [(r, k)] else []
    let f := bad (!s.rb 0x4800 31) 0x4800 1
      ++ bad (!s.rb 0x28D8 31 || s.fld 0x28D8 29 28 != 2 || gs.any (fun g => !s.rb 0x28D8 g)) 0x28D8 2
      ++ bad (s.fld 0x4888 31 16 < s.fld 0x4884 31 16 + s.fld 0x4884 15 0 || vc ≤ s.fld 0x4888 31 16) 0x4888 3
      ++ (match gs.find? (fun g => s.safeLvl g == 0 || s.safeLvl g == 3) with
          | some g => [(grpBase g, 4)]
          | none => [])
      ++ bad (s.regSlot == s.inhSlot || State.slotClash (sfp ++ s.ppmSlots) s.inhCtxs s.regSlot) 0x4880 5
      ++ bad (s.inhCtxs.any (fun c => let b := s.bind c false s.regSlot; !(b.en && b.kind == 4))) 0x4880 6
      ++ bad (s.fld 0x4884 31 16 < 5500 || 9000 < s.fld 0x4884 31 16 || s.fld 0x4884 15 0 < 10 || 1000 < s.fld 0x4884 15 0) 0x4884 7
      ++ bad (s.fld 0x4888 31 16 < 5500 || 9000 < s.fld 0x4888 31 16) 0x4888 7 ++ bad (s.fld 0x488C 15 0 == 0) 0x488C 7
      ++ bad (s.fld 0x4890 31 16 < 10 || 500 < s.fld 0x4890 31 16 || s.fld 0x4890 15 8 == 0 || s.fld 0x4890 7 0 == 0) 0x4890 7
    match f with
    | [] => ({ s with dcl := { s.dcl with armed := true } }, false)
    | (r, k) :: _ => (s.raise 191 [r, k], true)

/-! ### Contactors (R342 to R344) -/

def State.setPpm (s : State) (v : Ppm) : State := { s with ppm := v }
def State.setSes (s : State) (v : Session) : State := s.setPpm { s.ppm with ses := v }
def State.driven (s : State) (k : Nat) : Bool := s.aon.drive.contains k

/-- Drive contactor k and start its check (R344). -/
def State.contactor (s : State) (k : Nat) (on : Bool) : State :=
  if s.driven k == on then s
  else
    let s := { s with aon := { s.aon with drive := if on then insN s.aon.drive k else s.aon.drive.filter (fun x => x != k) } }
    let ms := if on then s.fld 0x4804 31 24 else s.fld 0x4804 23 16
    let s := if on then s.precEnd 10 k else s
    s.setPpm { s.ppm with chks := s.ppm.chks.filter (fun c => c.1 != k) ++ [(k, on, s.now + ms * ticksPerMs)] }

/-- Every contactor output opens (R343). -/
def State.contactorsOpen (s : State) : State := { s with aon := { s.aon with drive := [] } }

/-- Code of a path state (Table 14.9). -/
def PathSt.code : PathSt → Nat
  | .opn => 0
  | .precharge => 1
  | .battery => 2
  | .sourceFed => 3
  | .handover => 4
  | .dcCharge => 5
  | .shutdown => 6
  | .fault => 7

/-- Code of a session state (Table 14.9). -/
def SesSt.code : SesSt → Nat
  | .idle => 0
  | .qualify => 1
  | .start => 2
  | .cc => 3
  | .cv => 4
  | .paused => 5
  | .ending => 6
  | .supply => 7
  | .fed => 8

/-- The path changes state: EV173 (R345). -/
def State.pathGo (s : State) (p : PathSt) (d : PathStep) : State :=
  let old := s.ppm.path
  let s := if p == .handover then s else s.precEnd 8 0
  (s.setPpm { s.ppm with path := p, doing := d }).raiseIf (old != p) 173 [p.code]

/-- The path stays and PPM goes on with its next step. -/
def State.pathDo (s : State) (d : PathStep) : State := s.setPpm { s.ppm with doing := d }

/-! ### Converters -/

/-- OBC stops both stages: the PFC and bridge legs are disabled. -/
def State.obcStop (s : State) : State :=
  (List.range 8).foldl (fun s i => if (s.leg (24 + i)).enabled then s.legStop (24 + i) else s) s

/-- OBC's compare value and phase of leg n reach its shadow set at a boundary (R59): the regulation of chapter 14 leaves
them open, but for the constant legs of a DC supply (R341, R355, R362, R363). -/
def State.obcWrite (s : State) (n : Nat) : State :=
  let l := s.leg n
  if !(24 ≤ n && n < 32 && l.enabled && s.ppm.obcArmed && s.up dConv) then s
  else
    let T := l.shadow.period * 32
    let dc := s.ppm.ses.kind == 4
    let (a, s) := s.freeNat
    let (b, s) := s.freeNat
    let tc := if dc && n = 27 then T else if dc && n = 24 then 0 else a % (T + 1)
    s.setLeg n { l with shadow := { l.shadow with tc := tc, ph := if 28 ≤ n && 0 < T then b % T else l.shadow.ph } }

/-- OBC starts the legs of a list that pass R72, with values of its own. -/
def State.obcStart (s : State) (ls : List Nat) : State :=
  ls.foldl (fun s n => if !(s.leg n).enabled && s.legOk n then (s.legStart n).obcWrite n else s) s

/-- OBC's outputs at a boundary (R59). -/
def State.obcAt (s : State) : State := (List.range 8).foldl (fun s i => s.obcWrite (24 + i)) s

/-! ### Sessions (R353 to R364) -/

def Session.active (x : Session) : Bool := x.st != .idle
def Session.charge (x : Session) : Bool := x.kind == 1 && x.active

/-- The session changes state: EV179 (R354). -/
def State.sesGo (s : State) (st : SesSt) : State :=
  (s.setSes { s.ppm.ses with st := st, since := s.now, dwell := none }).raise 179 [st.code]

/-- The session is over: EV180 (Table 14.11). -/
def State.sesOver (s : State) : State :=
  let x := s.ppm.ses
  let s := (s.obcStop).setSes { x with st := .idle, endT := some s.now }
  (s.raise 179 [0]).raise 180 [x.kind, x.cause, x.intr]

/-- A charge ends with a timeout: blocked and the heat flag (R358, R359). -/
def State.sesMark (s : State) (cause : Nat) : State :=
  let p := s.ppm
  if p.ses.kind != 1 then s
  else s.setPpm { p with heat := cause == 3
                         blocked := p.blocked || cause == 2 || (cause == 3 && 2 ≤ p.followCnt) }

/-- The active session ends with a cause: a charge, and on a reset of PD_APP every session, through ENDING; another
supply or source-fed period at once (Table 14.5, R371). -/
def State.sesEnd (s : State) (cause : Nat) : State :=
  let x := s.ppm.ses
  if !x.active || x.st == .ending then s
  else
    let s := (s.setSes { x with cause := cause, thermal := false }).sesMark cause
    if x.kind = 1 || cause = 9 then s.sesGo .ending else s.sesOver

/-- A session opens its record (Table 14.9). -/
def State.sesOpen (s : State) (x : Session) : State :=
  let s := s.setSes { x with startT := s.now, since := s.now }
  s.raise 179 [x.st.code]

/-- The converters of a charge or a supply run. -/
def State.obcRun (s : State) : State :=
  let x := s.ppm.ses
  if x.kind = 4 then s.obcStart [24, 27, 28, 29, 30, 31]
  else if (x.kind = 3 && x.rk = 1) || (x.kind < 3 && s.ppm.acKind = 2) then s.obcStart [24, 27, 28, 29, 30, 31]
  else s.obcStart [24, 25, 26, 27, 28, 29, 30, 31]

/-- The source has been lost: a running charge pauses (Table 14.5, R360). -/
def State.sesLost (s : State) : State :=
  let x := s.ppm.ses
  let s := if x.active && s.ppm.path != .handover then s.setSes { x with intr := satInc 255 x.intr } else s
  if x.charge && (x.st == .start || x.st == .cc || x.st == .cv) then (s.obcStop).sesGo .paused else s

/-- Kind whose limits of Table 14.4 hold: 1 AC3, 2 AC1, 0 none. -/
def acKindOf (m : PpmMeas) : Nat :=
  let hz := (4750 ≤ m.freq && m.freq ≤ 5150) || (5700 ≤ m.freq && m.freq ≤ 6150)
  if !hz then 0
  else if [m.l12, m.l23, m.l31].all (fun v => 3400 ≤ v && v ≤ 4600) then 1
  else if 1950 ≤ m.l1 && m.l1 ≤ 2650 && m.l2 < 300 && m.l3 < 300 then 2
  else 0

/-- The output of a reverse supply lies below 85 % of nominal: 230 V L1–N in AC1, 400 V line to line in AC3 (R362). -/
def supplyUnder (m : PpmMeas) (rk : Nat) : Bool :=
  if rk = 1 then m.l1 < 1955 else [m.l12, m.l23, m.l31].any (fun v => v < 3400)

/-- Since when a condition holds, at a step at tick b. -/
def sinceWhen (c : Bool) (b : Nat) (o : Option Nat) : Option Nat := if c then some (o.getD b) else none

/-- An interval that began at a tick has lasted d at tick b. -/
def lasted (o : Option Nat) (d b : Nat) : Bool :=
  match o with
  | some t => t + d ≤ b
  | none => false

/-- PPM takes its inputs at a step at tick b (R353, R361, R362, R364). -/
def State.ppmSense (s : State) (m : PpmMeas) (b : Nat) : State :=
  let p := s.ppm
  let k := acKindOf m
  let sup := p.ses.st == .supply
  s.setPpm { p with
    fb := m.fb, vAc := min m.l1 (min m.l2 m.l3), srcKind := k, srcF60 := Nat.ble 5700 m.freq
    srcSince := sinceWhen (k != 0) b (if k = p.srcKind then p.srcSince else none)
    srcBad := sinceWhen (p.qualified && k != p.acKind) b p.srcBad
    quiet := sinceWhen ([m.l1, m.l2, m.l3].all (fun v => v < 300)) b p.quiet
    lowSince := sinceWhen (sup && p.ses.kind == 3 && m.lim && supplyUnder m p.ses.rk) b p.lowSince
    alienSince := sinceWhen (sup && m.alien) b p.alienSince }

/-- Charging current limit i_lim in 0.1 A, and whether p_max × f binds (R355); m is what OBC measures. -/
def State.chgLimit (s : State) (m : PpmMeas) : Int × Bool :=
  let x := s.ppm.ses
  let f := s.derate (s.fld 0x4820 21 14)
  -- p_max in 0.1 kW over V_bat in 0.1 V gives 0.1 A by the factor 10,000
  let pl : Int := (s.fld 0x4824 31 16 * 10000 * f / (32767 * max 1 s.vBat) : Nat) - m.iLoad
  let rest := min (min (x.iCc : Int) x.allow) m.iAc
  (min rest pl, f < 32767 && pl < rest)

/-- The traction inhibit (R365). -/
def State.inhibitWant (s : State) : Bool :=
  s.aon.latch || s.ppm.ses.active
  || (match s.ppm.path with
      | .sourceFed => true
      | .handover => true
      | .dcCharge => true
      | .shutdown => true
      | _ => false)

/-- PPM writes the inhibit factor to its slots (R365); PLUG_INHIBIT (Table 15.2). -/
def State.inhibitWrite (s : State) : State :=
  if !s.ppm.run then s
  else
    let w := s.inhibitWant
    let s := s.setPpm { s.ppm with inhibit := w }
    let s := s.inhCtxs.foldl (fun s c => s.hostPut c s.inhSlot (if w then 0 else 0x7FFF)) s
    if w then (if s.inhCtxs.any (fun c => (s.ctx c).st == .active) then s.precRaise 2 (rankBit 3) 9 0 else s)
    else s.precEnd 9 0

/-! ### The path's steps (R346 to R352) -/

/-- |V_link − V_bat| ≤ eq_tol. -/
def State.equalised (s : State) : Bool := inBand s.vLink s.vBat (s.fld 0x4800 21 12)

/-- A failed contactor check: FAULT, every other output off, the session ends (R344). -/
def State.pathFault (s : State) (k kind : Nat) : State :=
  let s := (List.range 6).foldl (fun s i => if i = k then s else s.contactor i false) s
  let had := s.ppm.ses.active
  let s := s.sesEnd 6
  let s := if had then s.precRaise 2 (rankBit 6) 10 k else s
  (s.raise 175 [k, kind]).pathGo .fault .rest

/-- Both rails stop as by RAIL_STOP, at the next boundary. -/
def State.railsStopReq (s : State) : State :=
  (List.range 2).foldl (fun s r => if (s.rail r).st == .off then s else s.setRail r { s.rail r with stop := true }) s

/-- Every commutation unit stops as by CMU_STOP with stop = COAST. -/
def State.cmusCoast (s : State) : State :=
  (s.cmus.map (·.1)).foldl (fun s u => if (s.cmu u).st == .off then s else (s.setCmu u { s.cmu u with req := [] }).cmuRest u .off 1) s

/-- Close CTR_MP at a step at which the link has equalised before the deadline (Table 14.3, R39, R350). -/
def State.pathEqualise (s : State) : State :=
  match s.ppm.doing with
  | .pcEq => if s.equalised && s.ppm.last < s.ppm.dl then (s.contactor 1 true |>.contactor 0 true).pathDo .pcMp else s
  | .hoEq => if s.equalised && s.ppm.last < s.ppm.dl then (s.contactor 0 true).pathDo .hoMp else s
  | .dcEq =>
    if inBand s.vPort s.vLink (s.fld 0x4800 21 12) && s.ppm.last < s.ppm.dl then (s.contactor 3 true).pathGo .dcCharge .rest
    else if s.ppm.dl ≤ s.ppm.last then (s.contactor 4 false).pathDo .rest
    else s
  | _ => s

/-- The hand-over is done (R350, R360). -/
def State.handoverDone (s : State) : State :=
  let h := s.ppm.byHost
  let s := (s.pathGo .battery .rest).raise 176 [b2n h]
  if s.ppm.ses.kind = 2 && s.ppm.ses.active then s.sesEnd (if h then 4 else 5) else s

/-- Contactor k has passed its check: PPM goes on (Tables 14.2 and 14.3, R347, R348, R350). -/
def State.pathChecked (s : State) (k : Nat) (closed : Bool) : State :=
  match s.ppm.doing, k, closed with
  | .pcMn, 1, true =>
    (s.contactor 2 true).setPpm { (s.contactor 2 true).ppm with doing := .pcEq, dl := s.now + s.fld 0x4804 15 0 * ticksPerMs }
  | .pcMp, 0, true => (s.contactor 2 false).pathDo .pcPc
  | .pcPc, 2, false => s.pathGo .battery .rest
  | .hoMp, 0, true => ((s.obcStop).contactor 2 false).pathDo .hoPc
  | .hoPc, 2, false => s.handoverDone
  | .opMp, 0, false => (s.contactor 1 false).pathGo .opn .rest
  | .dcDn, 4, true => s.setPpm { s.ppm with doing := .dcEq, dl := s.now + s.fld 0x4804 15 0 * ticksPerMs }
  | _, _, _ => s

/-- A hand-over starts; OBC drives the link toward the battery only while the source is qualified (R350, R351). -/
def State.handoverStart (s : State) (byHost : Bool) : State :=
  let s := s.pathGo .handover .hoEq
  let s := if s.ppm.qualified then s else s.obcStop
  s.setPpm { s.ppm with byHost := byHost, shed := false, dl := s.now + s.fld 0x4804 15 0 * ticksPerMs }

/-- Precharge or equalise has failed for good: OPEN, EV174 (R346, R352). -/
def State.prechargeFail (s : State) : State :=
  let s := (s.contactor 2 false).contactor 1 false
  let s := if s.ppm.ses.kind = 2 then s.sesEnd 6 else s
  (s.raise 174 [s.vLink, s.vBat]).pathGo .opn .rest

/-- The DC-charge contactors open (R348). -/
def State.dcOpen (s : State) : State := ((s.contactor 3 false).contactor 4 false).pathGo .battery .rest

/-- Whether a PATH_SET is accepted now (R345 to R349). -/
def State.pathOk (s : State) (op : Nat) : Bool :=
  let p := s.ppm.path
  let idle := s.ppm.doing == .rest
  let trac := (List.range 4).any (fun g => (s.grp g).st == .run || (s.grp g).st == .recovery)
  let rails := [0, 1].any (fun r => (s.rail r).st.runs)
  match op with
  | 0 => (p == .fault && s.ppm.fb == 0) || (p == .battery && idle && !trac && !rails && !s.ppm.ses.active)
  | 1 => idle && (p == .opn || p == .sourceFed || p == .dcCharge)
  | 2 => p == .opn && idle && s.ppm.qualified && !s.ppm.ses.active
  | 3 => p == .battery && idle && s.rb 0x4800 30 && s.aon.pxDc && s.aon.latch
  | 4 => s.rb 0x4800 29
  | 5 => s.rb 0x4800 29 && !([0, 1] : List Nat).any (fun r => (s.rail r).st.runs && (s.rail r).st != .hiccup)
  | _ => false

/-- An accepted PATH_SET begins at this step (R345 to R350). -/
def State.pathSet (s : State) (c : PathCmd) : State :=
  match c.op, s.ppm.path with
  | 0, .fault => ((List.range 5).foldl (fun s k => s.contactor k false) s).pathGo .opn .rest
  | 0, _ => (s.contactor 0 false).pathDo .opMp
  | 1, .opn => (s.contactor 1 true).pathGo .precharge .pcMn
  | 1, .sourceFed => s.handoverStart true
  | 1, _ => s.setPpm { s.ppm with doing := .dcOut, dl := s.now + 5 * ticksPerS }
  | 2, _ =>
    let s := ((s.contactor 1 true).contactor 2 true).pathGo .sourceFed .rest
    let s := s.setPpm { s.ppm with vFed := c.vFed }
    (s.sesOpen { kind := 2, st := .fed }).obcRun
  | 3, _ => (s.contactor 4 true).pathDo .dcDn
  | 4, _ => s.contactor 5 true
  | 5, _ => s.contactor 5 false
  | _, _ => s

/-- Start PPM, OBC and DCL at tick t (R370, R383). -/
def State.ppmStart (s : State) (t : Nat) : State :=
  let s := if s.ppm.armed then s.setPpm { s.ppm with run := true, next := t, last := t } else s
  if s.dcl.armed then { s with dcl := { s.dcl with run := true, tick := t } } else s

/-- Registers of PPM and OBC with an illegal field (R341, R370, R384); sfp are the slots SFP writes. -/
def State.ppmFaults (s : State) (sfp : List (Nat × Nat)) : List Nat :=
  let bad := fun (c : Bool) (r : Nat) => if c then [r] else []
  let f := s.fld
  let ppm := bad (f 0x4800 21 12 < 10 || 500 < f 0x4800 21 12) 0x4800
    ++ bad (f 0x4804 31 24 < 10 || f 0x4804 23 16 < 10 || f 0x4804 15 0 < 50 || 10000 < f 0x4804 15 0) 0x4804
    ++ bad (19 < f 0x4808 31 27 || f 0x4808 26 7 == 0) 0x4808
    ++ bad ((List.range 4).any (fun i => let c := f 0x480C (8 * i + 7) (8 * i); 192 ≤ c && c != 255)
            || State.slotClash sfp s.inhCtxs s.inhSlot) 0x480C
  let th := f 0x4820 21 14
  let obc := bad ((128 ≤ th && th != 255) || f 0x4820 13 0 == 0 || (List.range 4).any (fun i => !s.rb (legBase (24 + i)) 24)) 0x4820
    ++ bad (f 0x4824 31 16 < 10 || 220 < f 0x4824 31 16 || f 0x4824 15 0 < 10 || 320 < f 0x4824 15 0) 0x4824
    ++ bad (f 0x4828 31 16 < 5500 || 9000 < f 0x4828 31 16 || f 0x4828 15 0 == 0 || 600 < f 0x4828 15 0) 0x4828
    ++ bad (f 0x482C 31 24 < 2 || 25 < f 0x482C 31 24 || f 0x482C 15 0 == 0 || 3600 < f 0x482C 15 0) 0x482C
    ++ bad (f 0x4830 31 16 < 10 || 2880 < f 0x4830 31 16 || 600 < f 0x4830 15 0) 0x4830
    ++ bad (f 0x4834 31 16 < 10 || 320 < f 0x4834 31 16 || f 0x4834 15 0 < 100 || 10000 < f 0x4834 15 0) 0x4834
  (if s.rb 0x4800 31 then ppm else []) ++ (if s.rb 0x4820 31 then obc else [])

/-- The checks of PPM and OBC at lock (R370). -/
def State.ppmLockCheck (s : State) (sfp : List (Nat × Nat)) : State × Bool :=
  match s.ppmFaults sfp with
  | [] => (s.setPpm { s.ppm with armed := s.rb 0x4800 31, obcArmed := s.rb 0x4820 31 }, false)
  | r :: _ => (s.raise 187 [r], true)

/-- The waiting PATH_SETs end with DOMAIN_OFF where PD_APP or PD_CONV goes away (R470). -/
def State.pathDrop (s : State) : State :=
  s.ppm.cmds.foldl (fun s c => s.decide c.sq c.tick .domainOff 0 s.now) (s.setPpm { s.ppm with cmds := [] })

/-- A reset of PD_CONV: OBC stops, the session ends with FAULT, the contactors stay (R343, R371). -/
def State.ppmReset (s : State) : State :=
  let s := (s.pathDrop.sesEnd 6).obcStop
  let s := if s.ppm.ses.active then s.sesOver else s
  let s := (s.precEnd 2 0).precEnd 2 1
  let s := { s with dcl := { s.dcl with ofsA := 0, ofsB := 0, run := false, iReg := none } }
  s.setPpm { s.ppm with
    run := false, chks := [], qualified := false, acKind := 0, srcKind := 0, srcSince := none, srcBad := none, quiet := none
    lowSince := none, alienSince := none }

/-- PD_CONV runs again at tick t: PPM reads the path back from the latches (R343, R371); a hand-over goes
on. -/
def State.ppmResume (s : State) (t : Nat) : State :=
  let d := s.driven
  let path := if s.ppm.path == .handover || s.ppm.path == .fault || s.ppm.path == .shutdown then s.ppm.path
    else if d 3 && d 4 then .dcCharge
    else if d 0 && d 1 then .battery
    else if d 1 && d 2 then (if s.ppm.path == .sourceFed then .handover else .precharge)
    else .opn
  let doing : PathStep := match path with
    | .handover => if d 0 then (if d 2 then .hoMp else .hoPc) else .hoEq
    | .precharge => .pcEq
    | _ => .rest
  let chks := match doing with
    | .hoMp => [(0, true, t + s.fld 0x4804 31 24 * ticksPerMs)]
    | .hoPc => [(2, false, t + s.fld 0x4804 23 16 * ticksPerMs)]
    | _ => []
  let s := s.setPpm { s.ppm with path := path, doing := doing, chks := chks, dl := t + s.fld 0x4804 15 0 * ticksPerMs }
  s.ppmStart t

end Sys2Proof.Machine
end

