-- ==== Sys2Proof/Machine/Profile.lean ====
section
/-! DEFINITION. The profile generators (R185 to R190, Table 7.10): shared operations. -/

namespace Sys2Proof.Machine

/-! ### Fields and limits (Table 7.10, R189) -/

def pgnBase (u : Nat) : Nat := 0x3A00 + 0x20 * u

/-- The fields of unit u against Table 7.10. -/
def State.pgnOk (s : State) (u : Nat) : Bool :=
  let b := pgnBase u
  1 ≤ s.fld b 28 16 && s.fld b 28 16 ≤ 4096 && s.fld b 15 11 ≤ 20 && 1 ≤ s.reg (b + 4) && 1 ≤ s.reg (b + 8) && 1 ≤ s.reg (b + 0xC)

/-- VEL mode. -/
def State.pgnVel (s : State) (u : Nat) : Bool := s.rb (pgnBase u) 30

/-- Limits are exceeded by the present state (R189). -/
def Pgn.exceeds (p : Pgn) : Bool :=
  match p.taken with
  | some (_, v, a, _) => v < p.vel.natAbs || a < p.acc.natAbs
  | none => false

/-- Raise EV105 when over_lim sets (R189). -/
def State.pgnOver (s : State) (u : Nat) : State :=
  let p := s.pgn u
  (s.setPgn u { p with overLim := p.exceeds }).raiseIf (p.exceeds && !p.overLim) 105 [u]

/-- The largest change of acc in one update, in 0.25 counts/s² (R186). -/
def State.pgnStep (s : State) (u jMax : Nat) : Nat := jMax * 64 * (s.fld (pgnBase u) 28 16 * s.clapP) / ticksPerS

/-! ### Motion (R186, R187)

Time runs in 2^-20 ticks here, and position, velocity and acceleration are exact whole multiples of a unit in which a
stretch at constant jerk needs no rounding. -/

/-- One count of position, and the units of vel and acc (Table 7.10). -/
def pgnCount : Nat := 24 * 10 ^ 24 * 2 ^ 60
def pgnVelUnit : Nat := 15 * 10 ^ 15 * 2 ^ 40
def pgnAccUnit : Nat := 37500000 * 2 ^ 20

/-- k after time t at jerk j, in units of j_max. -/
def Kin.move (k : Kin) (j : Int) (t : Nat) : Kin :=
  { p := k.p + k.v * t + k.a * t * t / 2 + j * t * t * t, v := k.v + k.a * t + 3 * j * t * t, a := k.a + 6 * j * t }

/-- k after stretches of constant jerk. -/
def Kin.along (k : Kin) (l : List (Int × Nat)) : Kin := l.foldl (fun k x => k.move x.1 x.2) k

/-- How long stretches last. -/
def spanOf (l : List (Int × Nat)) : Nat := (l.map (·.2)).sum

/-- k after the first dt of the time of stretches. -/
def Kin.upTo (k : Kin) (l : List (Int × Nat)) (dt : Nat) : Kin :=
  match l with
  | [] => k.move 0 dt
  | (j, t) :: r => if t ≤ dt then (k.move j t).upTo r (dt - t) else k.move j dt

/-- The stretches that bring |a| into A. -/
def Kin.easing (k : Kin) (A j : Nat) : List (Int × Nat) :=
  if k.a.natAbs ≤ A then [] else [((if k.a < 0 then 1 else -1) * j, (k.a.natAbs - A + 6 * j - 1) / (6 * j))]

/-- The shortest way to velocity w with no acceleration: jerk towards it, a stretch at A, and jerk back (R187). -/
def Kin.toVel (k : Kin) (w : Int) (A j : Nat) : List (Int × Nat) :=
  let e := k.easing A j
  let k := k.along e
  let d : Int := if k.a * k.a.natAbs ≤ 12 * j * (w - k.v) then 1 else -1
  let a := d * k.a
  let dv := d * (w - k.v)
  let top : Int := min A (isqrt (6 * j * dv + a * a / 2).toNat 84)
  let t1 := ((top - a) / (6 * j)).toNat
  let a1 := a + 6 * j * t1
  let t3 := (a1 / (6 * j)).toNat
  let rest := dv - (a * t1 + 3 * j * t1 * t1) - (a1 * t3 - 3 * j * t3 * t3)
  e ++ [(d * j, t1), (0, if top = A then (rest / A).toNat else 0), (-(d * j), t3)]

/-- How far k goes on the way over velocity w to rest. -/
def Kin.reach (k : Kin) (w : Int) (A j : Nat) : Int :=
  let m := k.along (k.toVel w A j)
  (m.along (m.toVel 0 A j)).p - k.p

/-- The highest velocity from base on, in steps of u, over which k comes to rest within D: between lo and hi steps. -/
def Kin.peak (k : Kin) (D base u : Int) (A j lo hi fuel : Nat) : Nat :=
  match fuel with
  | 0 => lo
  | n + 1 =>
    if hi ≤ lo + 1 then lo
    else
      let m := (lo + hi) / 2
      if k.reach (base + m * u) A j ≤ D then k.peak D base u A j m hi n else k.peak D base u A j lo m n

/-- k seen in the other direction. -/
def Kin.flip (k : Kin) (d : Int) : Kin := { p := d * k.p, v := d * k.v, a := d * k.a }

/-- The shortest way to rest at distance D within V, A and j: the highest velocity from which it can still stop there, a
stretch at it, and the stop; when even the stop goes past D, back to it (R186, R190). -/
def Kin.toPos (k : Kin) (D : Int) (V A j : Nat) : List (Int × Nat) :=
  let stop := k.toVel 0 A j
  let s := (k.along stop).p - k.p
  if 4 * (D - s).natAbs ≤ pgnCount then stop
  else
    let d : Int := if s < D then 1 else -1
    let m := k.flip d
    let u : Int := pgnVelUnit / 2 ^ 16
    let v0 := m.v + m.a * m.a.natAbs / (12 * j)
    let base := if 0 < m.a && 0 < v0 then v0 else 0
    let hi := ((V * pgnVelUnit - base) / u).toNat
    let x := if m.reach (base + hi * u) A j ≤ d * D then hi else m.peak (d * D) base u A j 0 hi 64
    let w := base + x * u
    let up := m.toVel w A j
    let c := m.along up
    let t := if 0 < c.v then ((d * D - m.reach w A j) / c.v).toNat else 0
    (up ++ [((0 : Int), t)] ++ (c.move 0 t).toVel 0 A j).map (fun (y : Int × Nat) => (d * y.1, y.2))

/-- A position difference read as a signed 32-bit number of counts (R186). -/
def posWrap (x : Int) : Int := (x + 2 ^ 31 * pgnCount) % (2 ^ 32 * pgnCount) - 2 ^ 31 * pgnCount

/-- k cannot stop at distance D: the shortest stop goes past it by more than a quarter of a count (R190). -/
def Kin.past (k : Kin) (D : Int) (A j : Nat) : Bool :=
  let s := (k.along (k.toVel 0 A j)).p - k.p
  if 0 ≤ D then D + pgnCount / 4 < s else s < D - pgnCount / 4

/-- One update interval dt in POS mode, with D to go; it arrives when the way ends within the interval (R186). -/
def Kin.posStep (k : Kin) (D : Int) (V A j dt : Nat) : Kin :=
  let l := k.toPos D V A j
  if spanOf l ≤ dt then
    let e := k.along l
    { p := if 4 * (D - (e.p - k.p)).natAbs ≤ pgnCount then k.p + D else e.p, v := 0, a := 0 }
  else k.upTo l dt

/-- One update interval dt in VEL mode towards velocity w (R187). -/
def Kin.velStep (k : Kin) (w : Int) (A j dt : Nat) : Kin :=
  let l := k.toVel w A j
  if spanOf l ≤ dt then
    let e := k.along l
    { p := e.p + w * ((dt - spanOf l : Nat) : Int), v := w, a := 0 }
  else k.upTo l dt

/-- A whole number of units of an exact value: itself, or one of its two neighbours by the free bit b. -/
def nearUnit (x : Int) (u b : Nat) : Int := x / u + (if x % u = 0 then 0 else (b % 2 : Nat))

/-! ### Updates (R185, R188 to R190) -/

/-- Unit u stands where its target asks: at rest on it, or in VEL mode at its velocity with no acceleration. -/
def State.pgnRest (s : State) (u tgt vMax : Nat) : Bool :=
  let p := s.pgn u
  p.acc == 0 && (if s.pgnVel u then p.vel == clampI (-(vMax : Int)) vMax (sx 32 tgt) else p.pos == tgt && p.vel == 0)

/-- Where an update interval brings unit u, exactly. -/
def State.pgnMoved (s : State) (u tgt vMax aMax jMax : Nat) : Kin :=
  let k := (s.pgn u).kin
  let dt := s.fld (pgnBase u) 28 16 * s.clapP * 2 ^ 20
  if s.pgnVel u then k.velStep (clampI (-(vMax : Int)) vMax (sx 32 tgt) * pgnVelUnit) (aMax * pgnAccUnit) jMax dt
  else k.posStep (posWrap (tgt * pgnCount - k.p)) vMax (aMax * pgnAccUnit) jMax dt

/-- One update of a unit with the target and limits it took at its last update boundary (R185 to R190).  The profile is
exact; how pos, vel and acc show a value between two of their steps is a free value (notes/assumptions/20.md), within the
limits, and acc changes by at most the jerk limit's step. -/
def State.pgnUpdate (s : State) (u tgt vMax aMax jMax : Nat) : State :=
  let p := s.pgn u
  let vel := s.pgnVel u
  if s.pgnRest u tgt vMax && !vel then (s.setPgn u { p with kin := { p := tgt * pgnCount, v := 0, a := 0 } }).pgnOver u
  else
    let k := s.pgnMoved u tgt vMax aMax jMax
    let (f, s) := s.freeNat
    let st : Int := s.pgnStep u jMax
    let acc := clampI (p.acc - st) (p.acc + st) (nearUnit k.a pgnAccUnit f)
    let acc := if p.acc.natAbs ≤ aMax then clampI (-(aMax : Int)) aMax acc else acc
    let v := nearUnit k.v pgnVelUnit (f / 2)
    let v := if p.vel.natAbs ≤ vMax then clampI (-(vMax : Int)) vMax v else v
    let pos := (nearUnit k.p pgnCount (f / 4) % 2 ^ 32).toNat
    let at' := !vel && pos == tgt && tgt == p.tgt && v == 0 && acc == 0
    let d0 := posWrap (tgt * pgnCount - p.kin.p)
    let d1 := posWrap (tgt * pgnCount - k.p)
    let pass := !vel && p.kin.past d0 (aMax * pgnAccUnit) jMax && ((0 ≤ d0 && d1 < 0) || (d0 ≤ 0 && 0 < d1))
    let s := (s.setPgn u { p with kin := k, pos := pos, vel := v, acc := acc, atTgt := at'
                                  overshoot := p.overshoot || pass }).raiseIf (at' && !p.atTgt) 104 [u]
    (s.raiseIf pass 106 [u]).pgnOver u

/-- Unit u gets a new target (R188). -/
def State.pgnTarget (s : State) (u v : Nat) : State :=
  s.setPgn u { s.pgn u with tgt := v % 2 ^ 32, atTgt := (s.pgn u).atTgt && (s.pgn u).tgt == v % 2 ^ 32 }

/-- Starting position of unit u (Table 7.10); pos of PFI and RSV as latched at the start boundary. -/
def State.pgnInit (s : State) (u : Nat) : Nat :=
  let src := s.fld (pgnBase u) 15 11
  if src = 0 then (s.pgn u).tgt
  else if src ≤ 16 then (getD s.fb.pfis (src - 1) {} : Pfi).pos else (getD s.fb.rsvs (src - 17) {} : Rsv).posL

/-- A unit at a boundary: the start boundary sets pos; every div-th one after it presents what the unit
computed at the update boundary before, and takes the target and limits in force (R185, R188). -/
def State.pgnBoundary (s : State) (u : Nat) : State :=
  let p := s.pgn u
  if !p.active then s
  else if !p.begun then s.setPgn u { p with begun := true, cnt := 0, pos := s.pgnInit u, taken := none
                                            kin := { p := s.pgnInit u * pgnCount, v := 0, a := 0 } }
  else if p.cnt + 1 < s.fld (pgnBase u) 28 16 then s.setPgn u { p with cnt := p.cnt + 1 }
  else
    let s := s.setPgn u { p with cnt := 0 }
    let s := match p.taken with
      | some (g, v, a, j) => s.pgnUpdate u g v a j
      | none => s
    let p := s.pgn u
    s.setPgn u { p with taken := some (p.tgt, p.vMax, p.aMax, p.jMax) }

/-- Units with en = 1 at lock: EV103 for an illegal one (Table 7.10). -/
def State.pgnLockCheck (s : State) : State × Bool :=
  (List.range 16).foldl (fun x u =>
    let s := x.1
    if !s.rb (pgnBase u) 31 then x
    else if s.pgnOk u then
      let b := pgnBase u
      (s.setPgn u { s.pgn u with armed := true, tgt := s.reg (b + 0x10), vMax := s.reg (b + 4), aMax := s.reg (b + 8), jMax := s.reg (b + 0xC) }, x.2)
    else (s.raise 103 [u, 1], true)) (s, false)

end Sys2Proof.Machine
end

