-- ==== Sys2Proof/Machine/SxeOps.lean ====
section
/-! DEFINITION. The section engine and its cue memory (chapters 11 and 12): shared operations. -/

namespace Sys2Proof.Machine

def State.setSxe (s : State) (v : Sxe) : State := { s with sxe := v }
def State.setCore (s : State) (v : SxeCore) : State := s.setSxe { s.sxe with core := v }
def State.odo (s : State) (o : Nat) : Odo := getD s.sxe.core.odos o {}
def State.setOdo (s : State) (o : Nat) (v : Odo) : State := s.setCore { s.sxe.core with odos := put s.sxe.core.odos o v }
def State.sec (s : State) (k : Nat) : Sec := getD s.sxe.core.secs k {}
def State.setSec (s : State) (k : Nat) (v : Sec) : State := s.setCore { s.sxe.core with secs := put s.sxe.core.secs k v }
def State.rn (s : State) (j : Nat) : Rn := getD s.sxe.rns j {}
def State.setRn (s : State) (j : Nat) (v : Rn) : State := s.setSxe { s.sxe with rns := put s.sxe.rns j v }

/-! ### Set-up fields (Tables 11.1 to 11.6 and 12.3 to 12.5) -/

def odoBase (o : Nat) : Nat := 0x4010 + 0x10 * o
def arBase (r : Nat) : Nat := 0x4050 + 0x10 * r
def secKey (k : Nat) : Nat := 0x12000 + 0x10 * k
def cumKey (k : Nat) : Nat := 0x13000 + 8 * k
def rnBase (j : Nat) : Nat := 0x4180 + 0x10 * j

def State.cueMax (s : State) : Nat := s.fld 0x4000 23 16
def State.odoEn (s : State) (o : Nat) : Bool := s.rb (odoBase o) 31
def State.odoSrc (s : State) (o : Nat) : Nat := s.fld (odoBase o) 30 26
def State.arEn (s : State) (r : Nat) : Bool := s.rb (arBase r) 31
def State.odoL (s : State) (r : Nat) : Nat := s.fld (arBase r) 30 29
def State.odoR (s : State) (r : Nat) : Nat := s.fld (arBase r) 28 27
def State.secEn (s : State) (k : Nat) : Bool := k < 160 && s.rb (secKey k) 31
def State.secAr (s : State) (k : Nat) : Nat := s.fld (secKey k) 30 29
/-- 0 HOLD_OFF, 1 HOLD, 2 CLOSE (R269). -/
def State.revPol (s : State) (k : Nat) : Nat := s.fld (secKey k) 28 27
def State.secF (s : State) (k : Nat) : Int := sx 16 (s.fld (secKey k) 15 0)
def State.secReserve (s : State) (k : Nat) : Nat := s.fld (cumKey k) 31 16
def State.secLimit (s : State) (k : Nat) : Nat := s.fld (cumKey k) 15 0
def State.secLw (s : State) (k : Nat) : Nat := s.reg (cumKey k + 4)
/-- Base value in force (Table 11.4). -/
def State.baseNow (s : State) (k : Nat) : Nat :=
  match (s.sec k).base with
  | some b => b
  | none => s.fld (secKey k + 8) 16 0

def State.secs (s : State) : List Nat := (List.range 160).filter s.secEn

def State.rnEn (s : State) (j : Nat) : Bool := s.rb (rnBase j) 31
def State.rnCan (s : State) (j : Nat) : Nat := s.fld (rnBase j) 30 28
def State.rnCount (s : State) (j : Nat) : Nat := s.fld (rnBase j) 27 23
def State.rnFirst (s : State) (j : Nat) : Nat := s.fld (rnBase j) 22 15
def State.rnDepth (s : State) (j : Nat) : Nat := s.fld (rnBase j) 14 11
def State.rnApply (s : State) (j : Nat) : Nat := s.fld (rnBase j + 8) 31 16 * ticksPerUs
def State.rnRep (s : State) (j : Nat) : Nat := s.fld (rnBase j + 8) 15 0 * ticksPerMs
def State.rns (s : State) : List Nat := (List.range 16).filter s.rnEn
def State.rnHas (s : State) (j k : Nat) : Bool := s.rnEn j && s.rnFirst j ≤ k && k < s.rnFirst j + s.rnCount j

/-- x_s in ticks: apply_us of the section's node (R270). -/
def State.secX (s : State) (k : Nat) : Nat :=
  match (List.range 16).find? (fun j => s.rnHas j k) with
  | some j => s.rnApply j
  | none => 0

def vmapReg (m : Nat) : Nat := 0x40C0 + 4 * m
def State.mapped (s : State) (m : Nat) : Bool := s.rb (vmapReg m) 31
def State.mapSec (s : State) (m : Nat) : Nat := s.fld (vmapReg m) 7 0

/-! ### Odometers (R260 to R263) -/

/-- The source of odometer o is not running (R263). -/
def State.odoGone (s : State) (o : Nat) : Bool :=
  !s.up dCtrl || (s.odoSrc o < 16 && !(s.pfi (s.odoSrc o)).running)

/-- The source cannot be used (R263). -/
def State.odoBad (s : State) (o : Nat) : Bool :=
  s.odoGone o || (if s.odoSrc o < 16 then (s.pfi (s.odoSrc o)).fault else !s.srcValid (s.odoSrc o - 16))

/-- Source position latched at the boundary, with neg applied (R260). -/
def State.odoPos (s : State) (o : Nat) : Nat :=
  let p := if s.odoSrc o < 16 then (s.pfi (s.odoSrc o)).pos else (s.rsv (s.odoSrc o - 16)).posL
  if s.rb (odoBase o) 25 then (2 ^ 32 - p % 2 ^ 32) % 2 ^ 32 else p % 2 ^ 32

/-- ±(2^31 − 1) (R262). -/
def odoSat (v : Int) : Int := clampI (-2147483647) 2147483647 v

/-- A record (pos, e) at a boundary at which pos has changed (R261). -/
def Odo.record (x : Odo) (pos e : Nat) : Odo :=
  match x.prv with
  | none => { x with prv := some (pos, e) }
  | some (p0, e0) =>
    if e ≤ e0 then { x with prv := some (pos, e), two := true }
    else { x with prv := some (pos, e), two := true,
                  vRec := (256 * posDiff pos p0 * (ticksPerS : Int)).tdiv ((e - e0 : Nat) : Int) }

/-- Speed and fraction from the records at age a in ticks (R261). -/
def Odo.pace (x : Odo) (a stop : Nat) : Odo :=
  if !x.two then { x with v := 0, frac := 0 }
  else if stop ≤ a then { x with v := 0 }
  else
    let m := if a = 0 then x.vRec.natAbs else min x.vRec.natAbs (102400000000 / a)
    let f := min 255 (x.vRec.natAbs * a / ticksPerS)
    { x with v := odoSat (x.vRec.sign * m), frac := x.vRec.sign * f }

/-- Odometer o in the update at boundary tick b; the position latched at the first update is the origin even where the source
cannot be used yet (R260 to R263). -/
def State.odoUpdate (s : State) (b o : Nat) : State :=
  let x := s.odo o
  let src := s.odoSrc o
  let x := { x with was := x.d }
  let pos := s.odoPos o
  let vRsv : Int :=
    let r := s.rsv (src - 16)
    let q := if s.rb (odoBase o) 25 then -r.rpmL else r.rpmL
    odoSat ((q * (s.fld (rsvBase (src - 16)) 30 28 : Nat) * 65536 * 256).tdiv 240)
  if s.odoBad o then
    (s.setOdo o { x with v := 0, fault := true, stopped := x.stopped || s.odoGone o, last := some (x.last.getD pos) }).raiseIf
      (!x.fault) 145 [o]
  else
    let fresh := x.stopped || (src < 16 && (s.pfi src).begun == b)
    let x := { x with fault := false, stopped := false }
    match (if fresh then none else x.last) with
    | none => s.setOdo o { x with
        last := some pos, base := x.d, frac := 0, prv := none, two := false, vRec := 0
        v := if 16 ≤ src then vRsv else 0 }
    | some old =>
      let d := posDiff pos old
      let x := { x with last := some pos, base := x.base + d * 256 }
      let x :=
        if 16 ≤ src then { x with frac := 0, v := vRsv }
        else
          let e := (s.pfi src).edgeL / 32
          let x := if d = 0 then x else x.record pos e
          let e1 := match x.prv with
            | some p => p.2
            | none => b
          x.pace (b - e1) (s.fld (odoBase o) 15 0 * ticksPerMs)
      s.setOdo o { x with d := x.base + x.frac }

/-! ### Sections (R265 to R269, R276) -/

/-- A value at lateral fraction f between a left and a right one, in 2^-12 of their unit. -/
def lateral (f l r : Int) : Int := l * 4096 + f * (r - l)

/-- Speed at lateral fraction f of axle reference r, rounded toward zero (R266). -/
def State.arSpeed (s : State) (r : Nat) (f : Int) : Int :=
  (lateral f (s.odo (s.odoL r)).v (s.odo (s.odoR r)).v).tdiv 4096

/-- D at 1/256 count (R265): the low 40 bits. -/
def Sec.dist (x : Sec) : Nat := toBits 40 (x.d / 4096)

/-- Section k in an update: distance, speed, ratio and direction; B is the boundary's number (R265 to
R269, R304). -/
def State.secUpdate (s : State) (B k : Nat) : State :=
  let x := s.sec k
  let r := s.secAr k
  let l := s.odo (s.odoL r)
  let g := s.odo (s.odoR r)
  let f := s.secF k
  let v := s.arSpeed r f
  let vref := s.arSpeed r (sx 16 (s.fld (arBase r) 15 0))
  let vdir : Int := (s.fld (arBase r + 4) 15 0 * 256 : Nat)
  let scaled := (s.fld (arBase r + 4) 31 16 * 256 : Nat) ≤ vref
  let rs := if scaled then min 65535 (4096 * v.toNat / vref.toNat) else 4096
  let cl := scaled && rs == 65535
  let turns := if x.rev then vdir ≤ v else v ≤ -vdir
  let rev := x.rev != turns
  let ev151 := cl && !x.clamped && (x.ev151 == 0 || x.ev151 - 1 + ticksPerS ≤ s.now)
  let ev146 := turns && x.ev146 != B + 1
  let x := { x with
    d := x.d + lateral f (l.d - l.was) (g.d - g.was), v := v, r := rs, clamped := cl, rev := rev
    acts := if turns && rev && s.revPol k == 2 then [(5, 0, 0)] else []
    armed := x.armed && !turns, waits := x.waits && !turns
    ev151 := if ev151 then s.now + 1 else x.ev151, ev146 := if ev146 then B + 1 else x.ev146 }
  let s := (s.setSec k x).raiseIf ev151 151 [k]
  s.raiseIf ev146 146 [k, b2n rev]

/-- out_on and o_s that the section's state gives (R269, R276). -/
def State.secOut (s : State) (k : Nat) : Bool × Nat :=
  let x := s.sec k
  let r := if s.rb (secKey k) 26 then x.r else 4096
  (x.gate && !(x.rev && s.revPol k == 0), min 65536 (s.baseNow k * r / 4096))

/-! ### Cues (R270 to R272, R294 to R309) -/

/-- reached() of R270; pos and L at 1/256 count. -/
def cueReached (pos : Nat) (L : Int) (rev : Bool) : Bool :=
  let d := sx 40 (toBits 40 (L - pos))
  if rev then d ≤ 0 else 0 ≤ d

/-- behind() of R301. -/
def cueBehind (pos dist : Nat) (rev : Bool) : Bool :=
  let d := (pos + 2 ^ 40 - dist) % 2 ^ 40
  if rev then d != 0 && d < 2 ^ 39 else 2 ^ 39 ≤ d

/-- L at 1/256 count for section k: closing or another action (R270). -/
def State.lookAhead (s : State) (k : Nat) (closing : Bool) : Int :=
  let x := s.sec k
  let lead := if closing then s.fld (secKey k + 4) 15 0 else s.fld (secKey k + 4) 31 16
  let t : Int := ((s.clapP + s.secX k + lead * 4000 : Nat) : Int)
  -- D_s in 2^-20 count and v_s × t in 1/256 count per second × ticks, brought to one denominator
  (x.d * (ticksPerS : Int) + x.v * t * 4096) / ((ticksPerS : Int) * 4096)

/-- shared_free (R296). -/
def State.sharedFree (s : State) : Nat :=
  8192 - ((List.range 160).map s.secReserve).sum - (s.sxe.core.secs.map (fun x => x.2.used - s.secReserve x.1)).sum

/-- EV129 when shared_free falls below pool_lw (R309). -/
def State.poolCheck (s : State) : State :=
  let lw := s.fld 0x4290 15 0
  let f := s.sharedFree
  if lw = 0 then s
  else if f < lw then
    if s.sxe.core.poolLow then s else (s.setCore { s.sxe.core with poolLow := true }).raise 129 [f]
  else s.setCore { s.sxe.core with poolLow := false }

/-- The head cue of section k leaves the sheet, fired or removed (R302, R305, R272). -/
def State.cueTake (s : State) (k : Nat) (c : Cue) (fire : Bool) : State :=
  let x := s.sec k
  let s := s.setSec k { x with cues := x.cues.drop 1, armed := false, gone := x.gone + 1
                               acts := if fire then x.acts ++ [(c.action, c.arg, c.pos)] else x.acts }
  s.setCore { s.sxe.core with rot := (k + 1) % 160 }

/-- A late cue is counted and reported: kind 0 CATCH_UP, 1 INSIDE_LEAD (R302, R303). -/
def State.cueLate (s : State) (B k : Nat) (c : Cue) (kind : Nat) : State :=
  let x := s.sec k
  (s.setSec k { x with lateCnt := satInc 255 x.lateCnt, ev132 := B + 1 }).raiseIf (x.ev132 != B + 1) 132 [k, c.pos, kind]

/-- A cue removed because it is behind (R302). -/
def State.cuePassed (s : State) (B k : Nat) (c : Cue) : State :=
  let x := s.sec k
  (s.setSec k { x with passCnt := satInc 255 x.passCnt, ev131 := B + 1 }).raiseIf (x.ev131 != B + 1) 131 [k, c.pos, x.dist]

/-- The cue pass of section k in the update at boundary B: the state, the cues counted so far, and whether the pass has
ended; a cue that is reached at arming in its append's own update is late whether it fires in that update or is deferred
(R270 to R272, R300 to R304). -/
def State.cueSec (s : State) (B k : Nat) : Nat → Nat → State × Nat × Bool
  | 0, n => (s, n, false)
  | fuel + 1, n =>
    let x := s.sec k
    match x.cues with
    | [] => (s, n, false)
    | c :: _ =>
      let fresh := !x.armed
      if fresh && (x.waits || (x.rev && !c.bidir)) then (s, n, false)
      else if fresh && cueBehind c.pos x.dist x.rev then
        if x.rev then (s.setSec k { x with waits := true }, n, false)
        else if s.cueMax ≤ n then (s.raise 150 [k], n, true)
        else
          let s := s.cueTake k c c.catchUp
          let s := if c.catchUp then s.cueLate B k c 0 else s.cuePassed B k c
          s.cueSec B k fuel (n + 1)
      else
        let s := s.setSec k { x with armed := true }
        if !cueReached c.pos (s.lookAhead k (c.action == 1)) x.rev then (s, n, false)
        else
          let s := if fresh && c.join == B then s.cueLate B k c 1 else s
          if s.cueMax ≤ n then (s.raise 150 [k], n, true)
          else (s.cueTake k c true).cueSec B k fuel (n + 1)

/-- The cue pass over the enabled sections in rotation (R270, R272). -/
def State.cuePass (s : State) (B : Nat) : State :=
  let order := (List.range 160).map (fun i => (i + s.sxe.core.rot) % 160)
  ((order.filter s.secEn).foldl (fun x k =>
    if x.2.2 then x else x.1.cueSec B k ((x.1.sec k).cues.length + 1) x.2.1) (s, 0, false)).1

/-- The horizon and low water of section k (R308). -/
def State.horizon (s : State) (k : Nat) : State :=
  let x := s.sec k
  let h : Int := match x.cues.getLast? with
    | some c => sx 32 (((c.pos + 2 ^ 40 - x.dist) % 2 ^ 40) / 256)
    | none => 0
  let lw := s.secLw k
  let low := if x.rev || lw = 0 then x.lwLow else if h < lw then true else false
  (s.setSec k { x with hzn := h, lwLow := low }).raiseIf (low && !x.lwLow) 128 [k, toBits 32 h]

/-- One update at boundary tick b with number B (R270). -/
def State.sxeUpdate (s : State) (b B : Nat) : State :=
  let s := s.setSxe { s.sxe with prev := s.sxe.core, overrun := false, updated := true }
  let s := ((List.range 4).filter s.odoEn).foldl (fun s o => s.odoUpdate b o) s
  let s := ((List.range 4).filter s.arEn).foldl (fun s r =>
    s.setCore { s.sxe.core with vref := put s.sxe.core.vref r (s.arSpeed r (sx 16 (s.fld (arBase r) 15 0))) }) s
  let s := s.secs.foldl (fun s k => s.secUpdate B k) s
  let s := s.cuePass B
  s.secs.foldl (fun s k => s.horizon k) s

/-! ### What takes effect at a boundary -/

/-- One decided action takes effect (Table 12.2, R269). -/
def State.cueAct (s : State) (k : Nat) (a : Nat × Nat × Nat) : State :=
  let x := s.sec k
  match a.1 with
  | 0 => s.setSec k { x with gate := true }
  | 1 => s.setSec k { x with gate := false }
  | 2 => s.setSec k { x with base := some a.2.1 }
  | 3 => s.setSec k { x with base := some a.2.1, gate := true }
  | 4 => s.raise 133 [k, a.2.2, a.2.1]
  | _ => s.setSec k { x with gate := false }

/-- Empty the sheet of section k; its entries return and count as consumed (R306). -/
def State.cueFlush (s : State) (k : Nat) (close : Bool) : State :=
  let x := s.sec k
  s.setSec k { x with cues := [], armed := false, waits := false, used := x.used - x.cues.length
                      cons := (x.cons + x.cues.length) % 2 ^ 32, gate := x.gate && !close }

/-- The actions, returns and lost sheets of section k take effect (R270, R305, R307). -/
def State.secApply (s : State) (k : Nat) : State :=
  let s := (s.sec k).acts.foldl (fun s a => s.cueAct k a) s
  let x := s.sec k
  let s := s.setSec k { x with acts := [], gone := 0, used := x.used - x.gone, cons := (x.cons + x.gone) % 2 ^ 32 }
  if x.lost then
    let s := s.cueFlush k true
    s.setSec k { s.sec k with lost := false }
  else s

/-- The outputs of section k that the last update decided come into force (R277). -/
def State.secDrive (s : State) (k : Nat) : State :=
  let (on, out) := s.secOut k
  s.setSec k { s.sec k with on := on, out := out, rOut := (s.sec k).r }

/-- Valve channel m follows its section at boundary tick b (R277). -/
def State.mapDrive (s : State) (b m : Nat) : State :=
  let x := s.sec (s.mapSec m)
  let s := if s.dutySrc m == 2 then s.setValve m { s.valve m with shDuty := x.out } else s
  if s.gateSxe m then s.valveGate b m x.on else s

/-! ### Remote nodes (R280 to R285) -/

/-- The CAN FD length that holds n bytes of an action frame (R280). -/
def fdLen (n : Nat) : Nat := if n ≤ 20 then 20 else if n ≤ 24 then 24 else if n ≤ 32 then 32 else if n ≤ 48 then 48 else 64

/-- Table 11.7. -/
def State.rnBytes (s : State) (j seq flags apply : Nat) : List Nat :=
  let ks := (List.range (s.rnCount j)).map (fun i => s.rnFirst j + i)
  let opn := leNat ((List.range 4).map (fun q =>
    ((List.range 8).map (fun i => if (ks[q * 8 + i]?).any (fun k => (s.sec k).on) then 2 ^ i else 0)).sum))
  let body := [1, seq, s.rnCount j, flags] ++ leBytes 8 apply ++ leBytes 4 opn
    ++ (ks.map (fun k => leBytes 2 (min 65535 (s.sec k).out))).flatten
  body ++ List.replicate (fdLen (16 + 2 * s.rnCount j) - body.length) 0

/-- Queue a frame for node j at boundary tick b (R280 to R282). -/
def State.rnQueue (s : State) (b j : Nat) (refresh : Bool) : State :=
  let x := s.rn j
  let apply := b + s.rnApply j
  let seq := (x.seq + 1) % 256
  let merge := s.rnDepth j ≤ x.queue.length
  let fr : RnFrame := { seq := seq, apply := apply, since := b, bytes := s.rnBytes j seq (b2n refresh + 2 * b2n merge) (apply % 2 ^ 64) }
  let q := if merge then x.queue.dropLast ++ [fr] else x.queue ++ [fr]
  (s.setRn j { x with seq := seq, queue := q, lastQ := if refresh then x.lastQ else some b
                      mergeCnt := if merge then satInc 255 x.mergeCnt else x.mergeCnt }).raiseIf merge 148 [j, seq]

/-- Node j has been sent its oldest frame, whose start of frame fell at tick sof (R281, R283). -/
def State.rnSent (s : State) (j sof : Nat) : State :=
  let x := s.rn j
  match x.queue with
  | [] => s
  | f :: q =>
    let late := f.apply ≤ sof
    (s.setRn j { x with queue := q, lateCnt := if late then satInc 255 x.lateCnt else x.lateCnt }).raiseIf late 147 [j, f.seq]

/-- Controllers that serve an enabled node. -/
def State.rnCans (s : State) : List Nat := (List.range 6).filter (fun i => s.rns.any (fun j => s.rnCan j == i))

/-- Queue the sync frames (Table 11.8, R285); at is the boundary's tick. -/
def State.syncQueue (s : State) (at_ : Nat) : State :=
  s.rnCans.foldl (fun s i =>
    let x := getD s.sxe.syncs i {}
    let seq := (x.seq + 1) % 256
    let fr := [2, seq, 0, 0] ++ leBytes 4 s.clapP ++ leBytes 8 (at_ % 2 ^ 64) ++ leBytes 8 (x.prevSof % 2 ^ 64)
    s.setSxe { s.sxe with syncs := put s.sxe.syncs i { x with seq := seq, frame := some fr, since := at_ } }) s

/-- A sync frame of controller i has been sent (R285). -/
def State.syncSent (s : State) (i sof : Nat) : State :=
  let x := getD s.sxe.syncs i {}
  s.setSxe { s.sxe with syncs := put s.sxe.syncs i { x with frame := none, prevSof := sof } }

/-! ### Start, boundary and checks -/

/-- SXE starts with distances 0, gates closed and every queue empty at tick t (R264, R293, R309). -/
def State.sxeStart (s : State) (t : Nat) : State :=
  let s := s.setSxe { s.sxe with running := true, startTick := t, restart := none, core := {}, prev := {}, overrun := false
                                 updated := false, syncs := [], syncNext := t
                                 rns := s.rns.map (fun j => (j, { next := nextMultiple t (s.rnRep j) t })) }
  s.poolCheck

/-- The section engine at boundary tick b, number B, before the host's commands: what the last update
decided takes effect (R16, R277, R280). -/
def State.sxeEffects (s : State) (b : Nat) : State :=
  if !s.sxe.running || !s.sxe.updated then s
  else
    let ks := s.secs
    let before := ks.map (fun k => (k, (s.sec k).on, (s.sec k).out))
    let s := ks.foldl (fun s k => s.secApply k) s
    let s := s.poolCheck
    if s.sxe.overrun then s
    else
      let s := ks.foldl (fun s k => s.secDrive k) s
      let s := ((List.range 48).filter s.mapped).foldl (fun s m => s.mapDrive b m) s
      let moved := (before.filter (fun x => (s.sec x.1).on != x.2.1 || (s.sec x.1).out != x.2.2)).map (·.1)
      let s := (s.rns.filter (fun j => moved.any (fun k => s.rnHas j k))).foldl (fun s j => s.rnQueue b j false) s
      (s.rns.filter (fun j => (s.rn j).lastQ == some b && (s.rn j).next ≤ b)).foldl (fun s j =>
        s.setRn j { s.rn j with next := nextMultiple s.sxe.startTick (s.rnRep j) b }) s

/-- SXE restarts at a boundary after PD_IMPL runs again, and sends every node a refresh frame (R293). -/
def State.sxeRestart (s : State) (b : Nat) : State :=
  match s.sxe.restart with
  | some t => if t < b && s.up dImpl then
      let s := s.sxeStart b
      s.rns.foldl (fun s j => s.rnQueue b j true) s
    else s
  | none => s

/-- A reset of PD_IMPL takes SXE and CUM with it (R293, R310). -/
def State.sxeReset (s : State) : State :=
  s.setSxe { armed := s.sxe.armed }

/-- What keeps SXE from starting: a register and a cause, 1 field, 2 scale, 3 binding, 4 capacity, 5 pool (R264, R274, R297).
The range of a field is judged on every object; what a field asks of another object or block is judged on enabled ones.
DEDUCED (notes/assumptions/13.md). -/
def State.sxeFaults (s : State) (m : CoreMode) : List (Nat × Nat) :=
  let bad := fun (b : Bool) (r c : Nat) => if b then [(r, c)] else []
  let odo := (List.range 4).flatMap (fun o =>
    let src := s.odoSrc o
    bad (20 ≤ src || (s.odoEn o && src < 16 && (s.pfiMode src == 4 || s.pfiMode src == 5)) || s.fld (odoBase o) 15 0 == 0)
      (odoBase o) 1
    ++ bad (s.reg (odoBase o + 4) == 0) (odoBase o + 4) 1)
  let ar := (List.range 4).flatMap (fun r =>
    bad (s.arEn r && (!s.odoEn (s.odoL r) || !s.odoEn (s.odoR r))) (arBase r) 3
    ++ bad (s.arEn r && s.reg (odoBase (s.odoL r) + 4) != s.reg (odoBase (s.odoR r) + 4)) (arBase r) 2
    ++ bad (s.fld (arBase r + 4) 31 16 == 0 || s.fld (arBase r + 4) 15 0 == 0) (arBase r + 4) 1)
  let sec := (List.range 160).flatMap (fun k =>
    bad (s.secEn k && !s.arEn (s.secAr k)) 0x4094 3 ++ bad (s.revPol k == 3) 0x4094 1 ++ bad (65536 < s.fld (secKey k + 8) 16 0) 0x409C 1)
  let map := (List.range 48).flatMap (fun v =>
    bad (160 ≤ s.mapSec v) (vmapReg v) 1
    ++ bad (s.mapped v && s.mapSec v < 160 && (!s.secEn (s.mapSec v) || (List.range 16).any (fun j => s.rnHas j (s.mapSec v))))
         (vmapReg v) 3)
  let rn := s.rns.flatMap (fun j =>
    let ks := (List.range (s.rnCount j)).map (fun i => s.rnFirst j + i)
    bad (6 ≤ s.rnCan j || s.rnCount j == 0 || 24 < s.rnCount j || 160 < s.rnFirst j + s.rnCount j || s.rnDepth j == 0
         || 8 < s.rnDepth j) (rnBase j) 1
    ++ bad (!ks.all s.secEn || s.rns.any (fun i => i != j && ks.any (fun k => s.rnHas i k))) (rnBase j) 3
    ++ bad (s.fld (rnBase j + 8) 15 0 == 0) (rnBase j + 8) 1)
  let sync := bad (s.fld 0x4280 15 0 < 10 || 1000 < s.fld 0x4280 15 0) 0x4280 1
  let pool := bad (8192 < ((List.range 160).map s.secReserve).sum) 0x42A4 5
    ++ bad ((List.range 160).any (fun k => s.secLimit k < s.secReserve k || s.secLimit k == 0 || 8192 < s.secLimit k
              || (!s.secEn k && s.secReserve k != 0))) 0x42A4 5
    ++ bad ((List.range 160).any (fun k => 2147483647 < s.secLw k)) 0x42A8 5 ++ bad (8192 < s.fld 0x4290 15 0) 0x4290 5
  let ops := 400 + 48 * s.secs.length + 24 * s.cueMax + 32 * s.rns.length
  bad (s.cueMax == 0) 0x4000 1 ++ odo ++ ar ++ sec ++ map ++ rn ++ sync ++ pool
    ++ bad (900 * s.minClap < 10 * (ops * opTime m)) 0x4000 4

/-- SXE passes its capacity check in core mode m (R274). -/
def State.sxeFits (s : State) (m : CoreMode) : Bool :=
  !s.sxe.armed || 10 * ((400 + 48 * s.secs.length + 24 * s.cueMax + 32 * s.rns.length) * opTime m) ≤ 900 * s.minClap

/-- SXE's checks at lock in core mode m, made whatever SXE_CFG.en is, and whether any failed: a failing one keeps SXE
stopped, a channel bound to SXE without a map only that channel (R264, R277). -/
def State.sxeLockCheck (s : State) (m : CoreMode) : State × Bool :=
  let vs := (List.range 48).filter s.vlvUnmapped
  let s := vs.foldl (fun s v => s.raise 144 [vmapReg v, 3]) s
  let fs := s.sxeFaults m
  let s := fs.foldl (fun s x => s.raise 144 [x.1, x.2]) s
  (s.setSxe { s.sxe with armed := s.rb 0x4000 31 && fs.isEmpty }, !vs.isEmpty || !fs.isEmpty)

end Sys2Proof.Machine
end

