-- ==== Sys2Proof/Machine/LpeRun.lean ====
section
/-! DEFINITION. Runs of loop contexts (R164 to R182): inputs, completion, outputs, overruns and stop
actions: shared operations. -/

namespace Sys2Proof.Machine

/-! ### Inputs -/

/-- Raw value of a PFI source; none when it is invalid (Table 7.5, R169). -/
def State.pfiRaw (s : State) (i sub : Nat) : Option Int :=
  let p := s.pfi i
  if !p.running || !p.valid || p.fault then none
  else match sub with
    | 0 => some (sx 32 p.pos)
    | 1 => some p.net
    | 2 => some p.rpm
    | _ => some (sx 32 p.edgeL)

/-- Raw value of an input binding's source at the boundary; none when it is invalid (Table 7.5, R169,
R194). -/
def State.rawIn (s : State) (c slot : Nat) (b : Bind) : Option Int :=
  match b.kind with
  | 2 => s.pfiRaw b.index b.sub
  | 3 =>
    let v := s.rsv b.index
    if !v.en || !v.conv || v.fault then none
    else some (if b.sub = 0 then sx 32 v.posL else if b.sub = 1 then sx 16 v.posL else v.rpmL)
  | 4 => some (s.hostRaw c slot)
  | 5 =>
    let p := s.pgn b.index
    some (if b.sub = 0 then sx 32 p.pos else if b.sub = 1 then p.vel else p.acc)
  | 6 =>
    match (s.ctx b.index).vals.find? (fun x => x.1 == b.sub) with
    | some x => some x.2
    | none => some (Config.freeSlot s.free slot)
  | 7 =>
    if !s.up dImpl || !s.sxe.running || !s.secEn b.index then none
    else
      let k := s.sec b.index
      some (if b.sub = 0 then (if k.on then (k.out : Int) else 0) else (k.rOut : Int))
  | 8 =>
    let r := s.rail b.index
    if !s.up dConv || r.st == .off || r.st == .ready || r.st == .hiccup || r.st == .latched then none
    else some (divOpen r.vCmd 400000)
  | 9 => some (s.derate b.index : Nat)
  | _ => some 0

/-- What an invalid input delivers: the value it last delivered, or val (R169). -/
def State.lastIn (s : State) (c slot : Nat) (b : Bind) : Nat :=
  match (s.ctx c).last.find? (fun x => x.1 == slot) with
  | some x => x.2
  | none => toBits 32 b.val

/-- An input waits beyond the boundary: an AFE conversion or a serial frame (R173). -/
def State.lateIn (s : State) (b : Bind) : Bool := b.kind == 1 || (b.kind == 2 && s.pfiSerial b.index)

/-- Value of input slot j at the boundary and whether it is invalid so far (R166, R169, R198). -/
def State.slotIn (s : State) (c j : Nat) : Nat × Bool :=
  let b := s.bind c false j
  if !b.en || b.kind = 0 then (0, false)
  else if s.lateIn b then (s.lastIn c j b, true)
  else match s.rawIn c j b with
    | some v => (b.inVal v, false)
    | none => (s.lastIn c j b, true)

/-- Mask of a list of flags, the first in bit 0. -/
def maskOf (l : List Bool) : Nat :=
  match l with
  | [] => 0
  | b :: r => b2n b + 2 * maskOf r

/-- The run for boundary k, numbered B, takes its latched inputs (R164, Table 7.7). -/
def State.runLatch (s : State) (c B b : Nat) : State :=
  let vs := (List.range 16).map (fun j => s.slotIn c j)
  let s := s.setCtx c { s.ctx c with run := some { k := B, tick := b, due := B + s.ctxN c, ins := vs.map (·.1), inv := maskOf (vs.map (·.2)) } }
  { s with free := s.free + 1 }

/-- Put a value into a list at a place. -/
def setAt (l : List Nat) (j v : Nat) : List Nat :=
  match l, j with
  | [], _ => []
  | _ :: r, 0 => v :: r
  | a :: r, j + 1 => a :: setAt r j v

/-- Input slot j of a run gets its value and is valid. -/
def Run.give (r : Run) (j v : Nat) : Run :=
  { r with ins := setAt r.ins j v, inv := if bitAt r.inv j then r.inv - 2 ^ j else r.inv, got := r.got ++ [j] }

/-- The conversion of an input by a trigger of a line at a fine timestamp reaches the runs it is for
(R168). -/
def State.runsCapture (s : State) (i line trig : Nat) (code : Int) : State :=
  (s.lpe.ctxs.map (·.1)).foldl (fun s c =>
    match (s.ctx c).run with
    | none => s
    | some r =>
      if r.released || trig < r.tick * 32 || s.now > r.tick + (s.ctx c).tIn then s
      else
        let js := ((s.binds c false).filter (fun x => x.2.kind == 1 && x.2.index == i && x.2.line == line && !r.got.contains x.1))
        s.setCtx c { s.ctx c with run := some (js.foldl (fun r x => r.give x.1 (x.2.inVal code)) r) }) s

/-- Serial positions whose frame of this boundary is complete and good (R143, R145). -/
def State.runSerial (s : State) (c : Nat) (r : Run) : Run :=
  (s.binds c false).foldl (fun r x =>
    let p := s.pfi x.2.index
    if x.2.kind == 2 && s.pfiSerial x.2.index && p.running && p.badRun == 0 && !p.fault && p.edge == r.tick * 32 then
      let p' := { p with pos := p.cnt }
      match (s.setPfi x.2.index p').pfiRaw x.2.index x.2.sub with
      | some v => r.give x.1 (x.2.inVal v)
      | none => r
    else r) r

/-- At most one event per context and second (R169, R172). -/
def State.onceASecond (s : State) (last : Nat) : Bool := last == 0 || last - 1 + ticksPerS ≤ s.now

/-! ### Lanes (R176) -/

/-- Released runs of lane l that have not ended: their contexts and runs. -/
def State.laneRuns (s : State) (l : Nat) : List (Nat × Run) :=
  s.lpe.ctxs.filterMap (fun x =>
    match x.2.run with
    | some r => if r.released && !r.abandoned && r.done.isNone && s.ctxLane x.1 == l then some (x.1, r) else none
    | none => none)

/-- Of two runs, the one that a lane takes first: the earlier deadline, then the lower context number. -/
def Run.sooner (a b : Nat × Run) : Bool := a.2.due < b.2.due || (a.2.due == b.2.due && a.1 < b.1)

/-- The run that lane l is at: the one it turned to last while that has not ended, else the first of the others. -/
def State.laneRun (s : State) (l : Nat) : Option (Nat × Run) :=
  let rs := s.laneRuns l
  match (s.lpe.lanes.find? (fun x => x.1 == l)).bind (fun x => rs.find? (fun y => y.1 == x.2.1)) with
  | some y => some y
  | none => rs.find? (fun y => rs.all (fun z => z.1 == y.1 || Run.sooner y z))

/-- The run r of context c is released on its lane now: it runs when the lane is free, and it preempts the run there when its
deadline is earlier (R176). -/
def State.laneTurn (s : State) (c : Nat) (r : Run) : State :=
  let l := s.ctxLane c
  let turn := fun (was : Option Nat) => { s with lpe := { s.lpe with lanes := put s.lpe.lanes l (c, was) } }
  match s.laneRun l with
  | none => turn none
  | some y =>
    if r.due < y.2.due then turn (some y.1)
    else if y.2.relAt = s.now && Run.sooner (c, r) y then turn none
    else { s with lpe := { s.lpe with lanes := put s.lpe.lanes l (y.1, (getD s.lpe.lanes l (0, none)).2) } }

/-- The lane of context c is at its run, or has been preempted no longer ago than the END that it had begun (R176). -/
def State.laneAt (s : State) (c : Nat) : Bool :=
  let l := s.ctxLane c
  match s.laneRun l with
  | none => false
  | some y => y.1 == c || (getD s.lpe.lanes l (0, none) == (y.1, some c) && (s.now - y.2.relAt) * 100 ≤ opTime s.selMode)

/-- The run of context c is released (R173): what is not there by now is invalid (R169). -/
def State.runRelease (s : State) (c : Nat) : State :=
  let x := s.ctx c
  match x.run with
  | none => s
  | some r =>
    let s := s.laneTurn c r
    let r := { s.runSerial c r with released := true, relAt := s.now }
    let last := (s.binds c false).foldl (fun t b => if bitAt r.inv b.1 then t else put t b.1 (r.ins.getD b.1 0)) x.last
    let ev := r.inv != 0 && s.onceASecond x.ev99
    let s := s.setCtx c { x with run := some r, last := last, ev99 := if ev then s.now + 1 else x.ev99 }
    s.raiseIf ev 99 [c, ((List.range 16).find? (fun j => bitAt r.inv j)).getD 0]

/-! ### Completion -/

/-- What the program of context c makes of a run (R195 to R207). -/
def State.runProgram (s : State) (c : Nat) (r : Run) : RunSt :=
  let x := s.ctx c
  let (st, p) := (s.ctxProg c).getD ({}, [])
  ({ prog := p, consts := st.consts, ins := r.ins, inv := r.inv, words := x.words, outs := x.outs, first := x.first
     blo := r.k, pc := 0 } : RunSt).go (3 * x.wcOps + 8)

/-- An output of the run is limited on its way to its target, which sets sat (R167). -/
def State.runLimits (s : State) (c : Nat) (r : RunSt) : Bool :=
  (s.binds c true).any (fun x => r.outW.any (fun y => y.1 == x.1) && (s.outVal x.2 (r.out x.1)).2)

/-- The run of context c executes END now (R172, R174, R180); busy is the lane's busy fraction in
1/65,536 of a clapper period. -/
def State.runComplete (s : State) (c busy : Nat) : State :=
  let x := s.ctx c
  match x.run with
  | none => s
  | some r =>
    let p := s.runProgram c r
    let sat := p.sat || s.runLimits c p
    let ev := sat && s.onceASecond x.ev98
    let l := s.ctxLane c
    let s := s.setCtx c { x with run := some { r with done := some { tick := s.now, outs := p.outW, words := p.wordW, sat := sat } }
                                 sat := sat, inBad := r.inv != 0, ovrRun := 0, ev98 := if ev then s.now + 1 else x.ev98 }
    let s := { s with lpe := { s.lpe with busyPk := put s.lpe.busyPk l (max (getD s.lpe.busyPk l 0) (min busy 65535)) } }
    s.raiseIf ev 98 [c]

/-! ### Outputs (R167, R174) -/

/-- A value reaches a target (Table 7.6); outputs to a domain that is off are discarded (R194). -/
def State.targetPut (s : State) (b : Bind) (v : Int) : State :=
  match b.kind with
  | 1 =>
    let l := s.leg b.index
    let n := v.toNat
    s.setLeg b.index { l with shadow :=
      if b.sub = 0 then { l.shadow with tc := n } else if b.sub = 1 then { l.shadow with ph := n }
      else if b.sub = 2 then { l.shadow with trg0 := n } else { l.shadow with trg1 := n } }
  | 2 => s.setValve b.index { s.valve b.index with shDuty := v.toNat }
  | 3 => if s.up dConv then s.setRail b.index { s.rail b.index with refs := put (s.rail b.index).refs b.sub v } else s
  | 4 => if s.up dImpl then s.setCmu b.index { s.cmu b.index with cmd := some v } else s
  | 5 => s.pgnTarget b.index (toBits 32 v)
  | 7 => s.cmpArm b.index (toBits 32 v)
  | _ => s

/-- Replace words of a state area by those a run wrote. -/
def mergeWords (ws : List Nat) (w : Tab Nat) : List Nat := w.foldl (fun l x => setAt l x.1 x.2) ws

/-- Outputs and state of a complete run take effect at boundary tick b (R174, R180). -/
def State.runEffect (s : State) (c b : Nat) : State :=
  let x := s.ctx c
  match x.run with
  | some { done := some d, .. } =>
    let s := s.setCtx c { x with
      run := none, first := false, slackMin := min x.slackMin (b - d.tick)
      words := mergeWords x.words d.words, outs := d.outs.foldl (fun t y => put t y.1 y.2) x.outs
      vals := (s.binds c true).foldl (fun t y =>
        match d.outs.find? (fun z => z.1 == y.1) with
        | some z => put t y.1 (s.outVal y.2 z.2).1
        | none => t) x.vals }
    (s.binds c true).foldl (fun s y =>
      match d.outs.find? (fun z => z.1 == y.1) with
      | some z => s.targetPut y.2 (s.outVal y.2 z.2).1
      | none => s) s
  | _ => s

/-- One output binding's stop action (R181, R182). -/
def State.stopAction (s : State) (c slot : Nat) (b : Bind) : State :=
  match b.stop with
  | 1 =>
    let w := toBits 32 b.val
    let v := (s.outVal b w).1
    let s := s.setCtx c { s.ctx c with outs := put (s.ctx c).outs slot w, vals := put (s.ctx c).vals slot v }
    s.targetPut b v
  | 2 =>
    if b.kind = 1 then s.legStop b.index
    else if b.kind = 2 then s.setValve b.index { s.valve b.index with enabled := false } else s
  | _ => s

/-- The stop actions of context c. -/
def State.stopActions (s : State) (c : Nat) : State := (s.binds c true).foldl (fun s x => s.stopAction c x.1 x.2) s

/-- The run of context c reaches its deadline incomplete (R180, R181); b is the deadline. -/
def State.runOverrun (s : State) (c b : Nat) : State :=
  let x := s.ctx c
  let o := satInc 255 x.ovrRun
  let s := (s.setCtx c { x with run := none, first := false, ovrRun := o, ovrCnt := satInc 65535 x.ovrCnt, ovrAt := b + 1 }).raise 96 [c, b % 2 ^ 32, b / 2 ^ 32 % 2 ^ 32]
  if s.ctxOvrMax c ≤ o then ((s.setCtx c { s.ctx c with st := .stopped }).stopActions c).raise 97 [c] else s

/-- Contexts whose boundary B is. -/
def State.ctxsAt (s : State) (B : Nat) : List Nat :=
  (s.lpe.ctxs.filter (fun x => (x.2.st == .active || x.2.run.isSome) && s.ctxAt x.1 B)).map (·.1)

/-- OUTPUTS_TAKE_EFFECT for the loop engine at boundary B, tick b (R174, R180). -/
def State.lpeEffects (s : State) (B b : Nat) : State :=
  (s.ctxsAt B).foldl (fun s c =>
    match (s.ctx c).run with
    | none => s
    | some r => if r.due ≤ B then (if r.done.isSome then s.runEffect c b else s.runOverrun c b) else s) s

/-- The runs for boundary B take their inputs (R164). -/
def State.lpeLatch (s : State) (B b : Nat) : State :=
  (s.ctxsAt B).foldl (fun s c => if (s.ctx c).st == .active then s.runLatch c B b else s) s

/-- CTX_STOP at the context's boundary (R182). -/
def State.ctxStop (s : State) (c : Nat) : State :=
  let s := if (s.ctx c).st == .active then s.stopActions c else s
  s.setCtx c { s.ctx c with st := .idle, run := none }

/-- CTX_START at the context's boundary: it resumes from the state of the last complete run (R182). -/
def State.ctxStart (s : State) (c : Nat) : State :=
  s.setCtx c { s.ctx c with st := .active, first := true, ovrRun := 0, run := none }

/-! ### Program-set swap (R191 to R193) -/

/-- Contexts of a set. -/
def State.setCtxs (s : State) (set : Nat) : List Nat := s.allocated.filter (fun c => s.ctxSet c == set)

/-- Old set with its contexts, programs and constants removed, for the check of R191. -/
def State.withoutSet (s : State) (set : Nat) : State := s.setFree set

/-- Every new output target is bound by the old set or by no binding (R191). -/
def State.swapTargets (s : State) (g : Img) : Bool :=
  g.binds.all (fun x =>
    !x.out || !bitAt x.cfg 31 || bits x.cfg 30 26 == 0 || bits x.cfg 30 26 == 6
    || s.outKeys.all (fun k =>
        let b := s.bind k.1 true k.2
        !(b.en && b.kind == bits x.cfg 30 26 && b.index == bits x.cfg 25 18 && b.sub == bits x.cfg 8 5)
        || (s.setCtxs g.set).contains k.1))

/-- A period divides N_s and φ_s falls on its phase (R191). -/
def swapFits (g : Img) (n phase : Nat) : Bool := 0 < n && g.per % n == 0 && g.phase % n == phase

/-- Clear the binding registers of a context. -/
def State.unbind (s : State) (c : Nat) : State :=
  { s with lpe := { s.lpe with win := s.lpe.win.filter (fun x => !(0x20000 + 0x200 * c ≤ x.1 && x.1 < 0x20200 + 0x200 * c)) } }

/-- The image put in the old set's place, before it is checked or at the swap (R191, R192). -/
def State.swapIn (s : State) (g : Img) : State :=
  let old := s.setCtxs g.set
  let s := old.foldl (fun s c => s.unbind c) (s.setFree g.set)
  (s.imgApply g)

/-- Every new context passes R163 with the old set's contexts removed, and keeps its lane admitted
(R191). -/
def State.swapChecks (s : State) (g : Img) : Bool :=
  let s := s.swapIn g
  let s := g.ctxs.foldl (fun s x => s.setCtx x.c { s.ctx x.c with wcOps := s.ctxWc x.c, tIn := s.ctxTin x.c, armed := true }) s
  g.ctxs.all (fun x => s.ctxFault x.c == 0) && (List.range 4).all (fun l => s.admits s.selMode (s.laneCtxs l))

/-- The image names no allocated context of another set (R211). -/
def State.swapOwn (s : State) (g : Img) : Bool := g.ctxs.all (fun x => !(s.ctx x.c).alloc || s.ctxSet x.c == g.set)

/-- TK2's image passes R191 and R211; 0, or the cause for EV103.  DESIGN CHOICE (notes/assumptions/14.md): the causes'
numbers. -/
def State.swapCause (s : State) (g : Img) : Nat :=
  if !s.swapOwn g then 6
  else if s.progFree < g.prog.length || s.dataFree < g.dataWords then 5
  else if !s.swapTargets g then 7
  else if !s.swapChecks g then 3
  else if !((g.ctxs.all (fun x => swapFits g x.n x.phase)) && (s.setCtxs g.set).all (fun c => swapFits g (s.ctxN c) (s.ctxPhase c))) then 8
  else 0

/-- One copy of the transfer list, from the old set's words (R192). -/
def xferWords (old new : List Nat) (x : Xfer) : List Nat :=
  (List.range x.count).foldl (fun l i => setAt l (x.newOfs + i) (old.getD (x.oldOfs + i) 0)) new

/-- The swap at its boundary B, tick b (R192): the outputs of the old set's last complete runs have
taken effect already; then transfer, stop actions of targets that nobody binds now, and the new contexts
run. -/
def State.swapDo (s : State) (g : Img) (b : Nat) : State :=
  let old := s.setCtxs g.set
  let words := fun (c : Nat) => (s.ctx c).words
  let gone := (old.map (fun c => (s.binds c true).map (fun x => (c, x.1, x.2)))).flatten.filter (fun y =>
    !g.binds.any (fun x => x.out && bitAt x.cfg 31 && bits x.cfg 30 26 == y.2.2.kind && bits x.cfg 25 18 == y.2.2.index
                           && bits x.cfg 8 5 == y.2.2.sub))
  let s := gone.foldl (fun s y => s.stopAction y.1 y.2.1 y.2.2) s
  let s := s.swapIn g
  let s := g.ctxs.foldl (fun s x =>
    let w := (g.xfers.filter (fun f => f.new == x.c)).foldl (fun l f => xferWords (words f.old) l f) (s.ctx x.c).words
    s.setCtx x.c { s.ctx x.c with words := w, wcOps := s.ctxWc x.c, tIn := s.ctxTin x.c, st := if x.en then .active else .idle, first := true }) s
  s.raise 100 [g.set, b % 2 ^ 32, b / 2 ^ 32 % 2 ^ 32]

/-- An old context of the set overruns, or has overrun, with its deadline at boundary B, tick b (R193). -/
def State.swapBlocked (s : State) (g : Img) (B b : Nat) : Bool :=
  (s.setCtxs g.set).any (fun c => (s.ctx c).ovrAt == b + 1 || (match (s.ctx c).run with
                                                              | some r => r.due ≤ B && r.done.isNone
                                                              | none => false))

end Sys2Proof.Machine
end

