-- ==== Sys2Proof/Machine/Ppm.lean ====
section
/-! DEFINITION. The commands and events of the charger, the power path, the service button and DC link
management (chapters 14 and 15). -/

namespace Sys2Proof.Machine

/-! ### Commands -/

/-- PATH_SET: judged and completed at the next PPM step (R344, R345); REFUSED while PPM does not run
(Table 14.7). -/
def execPathSet (d : Desc) (s : State) : Out :=
  hostRun 0x0900 d s (fun s =>
    if !s.ppm.run then s.refuse d
    else s.setPpm { s.ppm with cmds := s.ppm.cmds ++ [{ sq := d.sq, tick := d.t, op := d.par 0, vFed := d.par 1 }] })

/-- Both charger groups are in RUN (R354, R361). -/
def State.chgGroupsRun (s : State) : Bool := (s.grp 7).st == .run && (s.grp 8).st == .run

/-- CHG_START is accepted (R354, R358, R359). -/
def State.chgOk (s : State) (iCc vCv follow : Nat) : Bool :=
  let p := s.ppm
  p.run && p.obcArmed && p.path == .battery && !p.ses.active && s.aon.pxAc && iCc ≤ s.fld 0x4828 15 0
  && vCv ≤ s.fld 0x4828 31 16 && s.chgGroupsRun && !p.blocked
  && (if follow = 1 then p.heat && p.followCnt < 2 else !p.heat)

/-- CHG_START (R354, R357, R359). -/
def execChgStart (d : Desc) (s : State) : Out :=
  hostRun 0x0901 d s (fun s =>
    if !s.chgOk (d.par 0) (d.par 1) (d.par 3) then s.refuse d
    else
      let p := s.ppm
      let s := s.setPpm { p with followCnt := if d.par 3 = 1 then p.followCnt + 1 else p.followCnt, heat := false }
      (s.sesOpen { kind := 1, st := .qualify, iCc := d.par 0, vCv := d.par 1, allow := d.par 2
                   safeDl := s.now + s.fld 0x4830 31 16 * 60 * ticksPerS }).ok d)

/-- CHG_STOP (Table 14.10). -/
def execChgStop (d : Desc) (s : State) : Out :=
  hostRun 0x0902 d s (fun s => if s.ppm.ses.charge then (s.sesEnd 4).ok d else s.refuse d)

/-- Parameters of RSUP_START outside R361's ranges. -/
def rsupBad (d : Desc) : Bool :=
  if d.par 0 = 2 then d.par 1 < 2000 || 7500 < d.par 1 || 320 < d.par 2 else d.par 1 != 50 && d.par 1 != 60

/-- RSUP_START is accepted (R361). -/
def State.rsupOk (s : State) : Bool :=
  let p := s.ppm
  p.run && p.obcArmed && p.path == .battery && !p.ses.active && s.aon.pxAc && s.chgGroupsRun
  && (match p.quiet with
      | some t => t + ticksPerS ≤ s.now
      | none => false)

/-- RSUP_START (R361 to R363). -/
def execRsupStart (d : Desc) (s : State) : Out :=
  hostRun 0x0903 d s (fun s =>
    if rsupBad d then s.complete d .badDesc 0
    else if !s.rsupOk then s.refuse d
    else ((s.sesOpen { kind := if d.par 0 = 2 then 4 else 3, st := .supply, rk := d.par 0, rv := d.par 1, ri := d.par 2 }).obcRun).ok d)

/-- The active session is a reverse supply. -/
def Session.supply (x : Session) : Bool := x.active && (x.kind == 3 || x.kind == 4)

/-- RSUP_STOP (R364). -/
def execRsupStop (d : Desc) (s : State) : Out :=
  hostRun 0x0904 d s (fun s => if s.ppm.ses.supply then (s.sesEnd 4).ok d else s.refuse d)

/-- DCL_LIMIT (R377, Table 15.5). -/
def execDclLimit (d : Desc) (s : State) : Out :=
  hostRun 0x0905 d s (fun s =>
    if 65535 < d.par 0 || 65535 < d.par 1 then s.complete d .badDesc 0
    else if d.par 1 = 0 || !s.rb 0x4880 31 then s.refuse d
    else s.await 0x0905 d (.dclLimit (d.par 0) (d.par 1)))

/-- DCL_CLEAR (R376, Table 15.5). -/
def execDclClear (d : Desc) (s : State) : Out :=
  hostRun 0x0906 d s (fun s =>
    if s.fld 0x4884 31 16 ≤ s.vLink then s.refuse d
    else ({ s with dcl := { s.dcl with chopFlt := false, noCur := none } } : State).ok d)

/-! ### The PPM step -/

/-- PPM runs and its domain is up. -/
def State.ppmOn (s : State) : Bool := s.up dConv && s.ppm.run

/-- P_CHG and PPM sequence the contactors and the sessions: PD_APP is up too (R17, R23, Table 1.4). -/
def State.chgOn (s : State) : Bool := s.ppmOn && s.up dApp

/-- The session's accounting over dt ticks (Table 14.9). -/
def State.sesCount (s : State) (dt : Nat) : State :=
  let x := s.ppm.ses
  if !x.active then s
  else s.setSes { x with energy := x.energy + (s.vBat : Int) * s.iBat * dt, thermT := if x.thermal then x.thermT + dt else x.thermT }

/-- thermal follows the binding limit, with EV181 when it sets (R355). -/
def State.sesThermal (s : State) (m : PpmMeas) : State :=
  let x := s.ppm.ses
  if x.kind = 1 && (x.st == .cc || x.st == .cv) then
    let th := (s.chgLimit m).2
    (s.setSes { x with thermal := th }).raiseIf (th && !x.thermal) 181 [s.derate (s.fld 0x4820 21 14)]
  else if x.thermal then s.setSes { x with thermal := false } else s

/-- The dwell of CV (R356). -/
def State.sesDwell (s : State) : State :=
  let x := s.ppm.ses
  if x.kind = 1 && x.st == .cv then
    let low := s.iBat * 100 < (s.fld 0x482C 31 24 * x.iCc : Nat) && !x.thermal
    s.setSes { x with dwell := if !low then none else match x.dwell with
                                                     | some b => some b
                                                     | none => some s.ppm.last }
  else s

/-- What a charge does at a step (Table 14.5). -/
def State.sesStep (s : State) (m : PpmMeas) : State :=
  let x := s.ppm.ses
  if x.kind != 1 then s
  else match x.st with
    | .qualify => if s.ppm.qualified then (s.sesGo .start).obcRun else s
    | .paused =>
      if s.ppm.qualified && s.ppm.last < x.since + s.fld 0x4830 15 0 * ticksPerS then (s.sesGo .start).obcRun else s
    | .start => if 0 ≤ s.iBat && m.reg && s.ppm.last < x.since + 2 * ticksPerS then s.sesGo .cc else s
    | .cc => if x.vCv ≤ s.vBat then s.sesGo .cv else s
    | _ => s

/-- The waiting PATH_SETs are judged, oldest first (R345 to R350). -/
def State.pathCmds (s : State) : State :=
  (s.ppm.cmds).foldl (fun s c =>
    if s.pathOk c.op then (s.pathSet c).decide c.sq c.tick .ok 0 s.now else s.decide c.sq c.tick .refused 0 s.now)
    (s.setPpm { s.ppm with cmds := [] })

/-- What P_CHG sequences at a step: the path and the session (R344 to R352, Table 14.5). -/
def State.chgStep (s : State) (m : PpmMeas) : State :=
  let s := s.pathCmds.pathEqualise
  let s := if s.ppm.doing == .dcOut && s.iDc.natAbs < 20 && s.ppm.last < s.ppm.dl then s.dcOpen else s
  s.sesStep m

/-- PPM_STEP: PPM acts at boundary tick b (R344); while PD_APP is off its sequences rest (R17). -/
def State.ppmStep (s : State) (m : PpmMeas) (b : Nat) : State :=
  let p := s.ppm
  let s := (s.setPpm { p with next := nextMultiple p.next ticksPerMs b, last := b }).ppmSense m b
  let s := s.sesCount (b - p.last)
  let s := if s.chgOn then s.chgStep m else s
  ((s.sesThermal m).sesDwell).inhibitWrite

/-- PPM_STEP. -/
def execPpmStep (t : Nat) (m : PpmMeas) (s : State) : Out :=
  runIf t s (fun s => s.ppmOn && s.ppm.next ≤ s.tbu.lastB) (fun s => s.ppmStep m s.tbu.lastB)

/-! ### Contactors and path -/

/-- The feedback of contactor k, where it is wired, disagrees with its output (R344). -/
def State.fbWrong (s : State) (k : Nat) (closed on : Bool) : Bool := s.rb 0x4800 (22 + k) && closed != on

/-- The check of contactor k is due at the latest step (R344), and P_CHG runs unless it fails (R17). -/
def State.chkDue (s : State) (k : Nat) (closed : Bool) : Bool :=
  match s.ppm.chks.find? (fun c => c.1 == k) with
  | some (_, on, dl) => dl ≤ s.ppm.last && (s.chgOn || s.fbWrong k closed on)
  | none => false

/-- CONTACTOR_CHECK: the check time of contactor k has passed at a step (R344); an output whose feedback is not
wired passes; a check that passes lets a sequence go on, and waits for P_CHG (R17). -/
def execContactorCheck (t k : Nat) (closed : Bool) (s : State) : Out :=
  runIf t s (fun s => s.ppmOn && s.chkDue k closed) (fun s =>
    match s.ppm.chks.find? (fun c => c.1 == k) with
    | none => s
    | some (_, on, _) =>
      let s := s.setPpm { s.ppm with chks := s.ppm.chks.filter (fun c => c.1 != k) }
      if s.fbWrong k closed on then s.pathFault k (if on then 0 else 1) else s.pathChecked k on)

/-- PRECHARGE_FAIL: precharge, or the second equalise of a hand-over, has not succeeded in time (R346,
R352). -/
def execPrechargeFail (t : Nat) (s : State) : Out :=
  runIf t s (fun s => s.chgOn && s.ppm.dl ≤ s.ppm.last && (s.ppm.doing == .pcEq || (s.ppm.doing == .hoEq && s.ppm.shed)))
    (fun s => s.prechargeFail)

/-- HANDOVER_SHED: equalise has not succeeded by pc_ms, and PPM sheds link load (R352). -/
def execHandoverShed (t : Nat) (s : State) : Out :=
  runIf t s (fun s => s.chgOn && s.ppm.doing == .hoEq && !s.ppm.shed && s.ppm.dl ≤ s.ppm.last) (fun s =>
    let s := s.setPpm { s.ppm with shed := true, dl := s.ppm.dl + s.fld 0x4804 15 0 * ticksPerMs }
    ((s.railsStopReq).cmusCoast).precRaise 2 (rankBit 4 + rankBit 6) 8 0)

/-- DC_CHARGE_OPEN: the current has fallen below 2.0 A, or 5 s have passed (R348). -/
def execDcChargeOpen (t : Nat) (s : State) : Out :=
  runIf t s (fun s => s.chgOn && s.ppm.doing == .dcOut && (s.iDc.natAbs < 20 || s.ppm.dl ≤ s.ppm.last)) (fun s =>
    if s.iDc.natAbs < 20 && s.ppm.last < s.ppm.dl then s.dcOpen else (s.raise 175 [3, 2]).dcOpen)

/-- The source is lost (R350, R353, R360). -/
def State.sourceLost (s : State) (cause : Nat) : State :=
  let s := (s.setPpm { s.ppm with qualified := false, acKind := 0, srcSince := none, srcBad := none }).raise 178 [cause]
  let s := s.sesLost
  if s.ppm.path == .sourceFed then s.handoverStart false else if s.ppm.doing == .hoEq then s.obcStop else s

/-- PLUG_STATE: a plug signal has changed (R348, R353, R364); the inhibit factor follows at the next step (R344, R365). -/
def execPlugState (t : Nat) (ac dc latch : Bool) (s : State) : Out :=
  run t s (fun s =>
    let a := s.aon
    if a.pxAc == ac && a.pxDc == dc && a.latch == latch then s
    else
      let s := { s with aon := { a with
        pxAc := ac, pxDc := dc, latch := latch, acGone := if a.pxAc && !ac then s.now else a.acGone
        acHere := if !a.pxAc && ac then s.now else a.acHere } }
      let s := s.raise 188 [b2n ac, b2n dc, b2n latch]
      if !s.ppmOn then s
      else
        let off := a.pxAc && !ac
        let s := if off then s.setPpm { s.ppm with heat := false } else s
        let s := if off && s.ppm.qualified then s.sourceLost 1 else s
        let s := if off && s.ppm.ses.supply then s.sesEnd 11 else s
        let s := if a.pxDc && !dc && s.ppm.path == .dcCharge then (s.precRaise 2 (rankBit 6) 10 3).dcOpen else s
        s)

/-- The limits of a kind, at its frequency, and CHG_PX_AC have held for 3 s at the latest step (R353). -/
def State.sourceDue (s : State) (kind : Nat) (f60 : Bool) : Bool :=
  !s.ppm.qualified && s.aon.pxAc && (kind == 1 || kind == 2) && kind == s.ppm.srcKind && f60 == s.ppm.srcF60
  && lasted s.ppm.srcSince (3 * ticksPerS) s.ppm.last && s.aon.acHere + 3 * ticksPerS ≤ s.ppm.last

/-- SOURCE_QUALIFIED: the limits of one kind have held for 3 s (R353); OBC helps an equalise in progress (R350, R351). -/
def execSourceQualified (t kind : Nat) (f60 : Bool) (s : State) : Out :=
  runIf t s (fun s => s.ppmOn && s.sourceDue kind f60) (fun s =>
    let s := (s.setPpm { s.ppm with qualified := true, acKind := kind, f60 := f60, srcBad := none }).raise 177 [kind]
    let s := if s.ppm.doing == .hoEq then s.obcRun else s
    if s.chgOn then s.sesStep {} else s)

/-- SOURCE_LOST: a limit has stayed broken for 20 ms (R353); the hand-over's first look is at this step (R350). -/
def execSourceLost (t cause : Nat) (s : State) : Out :=
  runIf t s (fun s => s.ppmOn && s.ppm.qualified && lasted s.ppm.srcBad (20 * ticksPerMs) s.ppm.last) (fun s =>
    let fed := s.ppm.path == .sourceFed && s.up dApp
    let s := s.sourceLost cause
    if fed then s.pathEqualise else s)

/-! ### Sessions -/

/-- Run an effect on the active session when a condition on it holds. -/
def sesRun (t : Nat) (s : State) (c : State → Session → Bool) (k : State → State) : Out :=
  runIf t s (fun s => s.ppmOn && s.ppm.ses.active && c s s.ppm.ses) k

/-- CHG_START_TIMEOUT: 2 s in START (Table 14.5). -/
def execChgStartTimeout (t : Nat) (s : State) : Out :=
  sesRun t s (fun s x => x.st == .start && x.since + 2 * ticksPerS ≤ s.ppm.last) (fun s => s.sesEnd 6)

/-- CHG_PAUSE_EXPIRED: resume_s in PAUSED (Table 14.5). -/
def execChgPauseExpired (t : Nat) (s : State) : Out :=
  sesRun t s (fun s x => x.st == .paused && x.since + s.fld 0x4830 15 0 * ticksPerS ≤ s.ppm.last) (fun s => s.sesEnd 5)

/-- Cause of the safety timer's end: THERMAL_TIMEOUT when thm_s ≥ 7.5 × t_safe (R357). -/
def State.safetyCause (s : State) : Nat :=
  if s.fld 0x4830 31 16 * 15 * ticksPerS ≤ 2 * s.ppm.ses.thermT then 3 else 2

/-- CHG_EOC_DWELL: the dwell has reached eoc_s (R356); at the safety deadline the timeout wins (R357). -/
def execChgEocDwell (t : Nat) (s : State) : Out :=
  sesRun t s (fun s x => x.st == .cv && lasted x.dwell (s.fld 0x482C 15 0 * ticksPerS) s.ppm.last) (fun s =>
    s.sesEnd (if s.ppm.ses.safeDl ≤ s.ppm.last then s.safetyCause else 1))

/-- CHG_SAFETY_TIMER (R357). -/
def execChgSafetyTimer (t : Nat) (s : State) : Out :=
  sesRun t s (fun s x => x.kind == 1 && x.st != .ending && x.safeDl ≤ s.ppm.last) (fun s => s.sesEnd s.safetyCause)

/-- CHG_PLUG_ABSENT: CHG_PX_AC has been absent for 1 s (Table 14.5, R358). -/
def execChgPlugAbsent (t : Nat) (s : State) : Out :=
  runIf t s (fun s => s.ppmOn && !s.aon.pxAc && s.aon.acGone + ticksPerS ≤ s.ppm.last) (fun s =>
    let s := if s.ppm.ses.charge then s.sesEnd 11 else s
    s.setPpm { s.ppm with blocked := false, followCnt := 0, heat := false })

/-- CHG_ENDING_DONE: the ramp of ENDING has come to 0 (Table 14.5). -/
def execChgEndingDone (t : Nat) (s : State) : Out := sesRun t s (fun _ x => x.st == .ending) (fun s => s.sesOver)

/-- RSUP_OVERLOAD: the output has stayed below 85 % for ovl_ms (R362). -/
def execRsupOverload (t i : Nat) (s : State) : Out :=
  sesRun t s (fun s x => x.kind == 3 && lasted s.ppm.lowSince (s.fld 0x4834 15 0 * ticksPerMs) s.ppm.last) (fun s =>
    (s.raise 182 [i]).sesEnd 7)

/-- RSUP_LIVE_INLET: for 20 ms an inlet voltage has not been the own output (R364). -/
def execRsupLiveInlet (t : Nat) (s : State) : Out :=
  sesRun t s (fun s x => x.supply && lasted s.ppm.alienSince (20 * ticksPerMs) s.ppm.last) (fun s => s.sesEnd 8)

/-! ### Service button -/

/-- Ground speed in 1/65,536 km/h, of a valid source while PPM runs (R367). -/
def State.groundSpeed (s : State) : Option Nat :=
  if s.ppmOn then (s.srcSpeed (s.fld 0x4808 31 27)).map (fun v => v * s.fld 0x4808 26 7) else none

/-- Rails stop, units coast, the path goes to SHUTDOWN with every output off (Table 14.6, R368). -/
def State.shutDown (s : State) : State :=
  let s := ((s.railsStopReq).cmusCoast).pathGo .shutdown .rest
  ((s.setPpm { s.ppm with chks := [], cmds := [] }).contactorsOpen).inhibitWrite

/-- A long press acts (R367, Table 14.6). -/
def State.svcLong (s : State) : State :=
  let s := { s with aon := { s.aon with long := true } }
  if s.gaf.storage then s
  else match s.groundSpeed with
    | some v =>
      if v < 2 * 65536 then
        let s := s.raise 183 [1]
        let s := ((s.ppm.cmds).foldl (fun s c => s.decide c.sq c.tick .refused 0 s.now) s).sesEnd 10
        { s.shutDown with aon := { s.shutDown.aon with resetAt := some (s.now + 2 * ticksPerS) } }
      else s.raise 184 [0, v / 65536]
    | none => s.raise 184 [1, 0]

/-- A medium press acts (R368). -/
def State.svcMedium (s : State) : State :=
  let s := s.raise 183 [0]
  if s.gaf.storage then s
  else match s.groundSpeed with
    | none => s.raise 184 [1, 0]
    | some v =>
      if 65536 ≤ 5 * v then s.raise 184 [0, v / 65536]
      else if s.aon.pxAc || s.aon.pxDc then s.raise 184 [2, v / 65536]
      else if s.ppm.ses.active then s.raise 184 [3, v / 65536]
      else
        let s := (s.raise 185 []).shutDown
        { s with aon := { s.aon with storeAt := some (s.now + ticksPerS) } }

/-- SVC_PRESS_START: SVC_BTN has been asserted for 20 ms since tick start (R366). -/
def execSvcPressStart (t start : Nat) (s : State) : Out :=
  runIf t s (fun s => s.aon.press.isNone && start + 20 * ticksPerMs ≤ s.now) (fun s =>
    { s with aon := { s.aon with press := some start, long := false } })

/-- SVC_LONG_PRESS: still pressed 8 s after the start (R367). -/
def execSvcLongPress (t : Nat) (s : State) : Out :=
  runIf t s (fun s => !s.aon.long && (match s.aon.press with
                                      | some b => b + 8 * ticksPerS ≤ s.now
                                      | none => false)) (fun s => s.svcLong)

/-- SVC_RELEASE: the press ends (R366 to R368); at start + 8 s or later it is long (R39). -/
def execSvcRelease (t : Nat) (s : State) : Out :=
  run t s (fun s =>
    match s.aon.press with
    | none => s
    | some b =>
      let done := s.aon.long
      let s := { s with aon := { s.aon with press := none, long := false } }
      if done || s.now < b + ticksPerS then s
      else if s.now < b + 8 * ticksPerS then s.svcMedium
      else { s.svcLong with aon := { s.svcLong.aon with long := false } })

/-! ### Chopper -/

/-- CHOPPER_FAULT: an always-on BK leg has carried too little current for chk_ms (R376). -/
def execChopperFault (t : Nat) (s : State) : Out :=
  runIf t s (fun s => s.up dConv && s.dcl.run && !s.dcl.chopFlt && s.chopBad
    && (match s.dcl.noCur with
        | some b => b + s.fld 0x4890 15 8 * ticksPerMs ≤ s.tbu.lastB
        | none => false)) (fun s =>
    ({ s with dcl := { s.dcl with chopFlt := true } }).raise 190 [toBits 32 (Config.amps 26 (s.afeCode 26))])

end Sys2Proof.Machine
end

