-- ==== Sys2Proof/Machine/Gate.lean ====
section
/-! DEFINITION. The events of the gate drivers (chapter 05). -/

namespace Sys2Proof.Machine

/-- The other channel of the leg of channel c (R116). -/
def chOther (c : Nat) : Option Nat := if chIsHi c then chLo (chLeg c) else some (chHi (chLeg c))

/-- Record SHOOT_REQ on channel c (R116). -/
def State.shoot (s : State) (c : Nat) : State :=
  s.setCh c { s.ch c with shootSeen := true, shootCnt := satInc 255 (s.ch c).shootCnt }

/-- EV32, at most once per leg per clapper period; who is the channel, or 255 for both (R117). -/
def State.shootEv (s : State) (n who : Nat) : State :=
  if getD s.gdv.ev32 n 0 = s.periodMark then s
  else ({ s with gdv := { s.gdv with ev32 := put s.gdv.ev32 n s.periodMark } }).raise 32 [n, who]

/-- The interlock holds channel c off: the other channel is on or within its dead time.  A tick before that channel's last
on command tells nothing of its gate (R115, R116). -/
def State.interlocked (s : State) (c : Nat) (otherLow : Option Nat) : Bool :=
  match chOther c with
  | none => false
  | some o => (s.ch o).live && (match otherLow with
                                | none => true
                                | some l => l < (s.ch o).onTick || s.now < l + s.fld 0x3380 7 0)

/-- Channel c ignores an on command: it stays off until the next (R116, R117). -/
def State.gateIgnore (s : State) (c : Nat) : State := s.setCh c { s.ch c with on := false }

/-- Channel c accepts an on command: its own steps apply again to its next turn-off (R115, R125). -/
def State.gateOn (s : State) (c : Nat) : State :=
  s.setCh c { s.ch c with on := true, onTick := s.now, live := true, soft := none }

/-- STO group whose supply-enable line feeds channel c; none for a low-side channel and for one of no STO
group (R110, R406). -/
def chSto (c : Nat) : Option Nat :=
  let n := chLeg c
  if !chIsHi c then none
  else if n < 12 then some (n / 3)
  else if n < 32 then none
  else if n < 44 then some 5
  else some 4

/-- SHL holds the high-side supply of channel c removed (R111, R113). -/
def State.shlHolds (s : State) (c : Nat) : Bool :=
  match chSto c with
  | some k => bitAt s.saf.opened k
  | none => false

/-- GATE_ON_COMMAND: MOD's on command for channel c; otherLow is the tick at which the other channel's
sensed gate voltage fell below 2.0 V (none while it has not); both when the on commands of both
channels fall in one tick (R111, R115 to R117, R131). -/
def execGateOnCommand (t c : Nat) (otherLow : Option Nat) (both : Bool) (s : State) : Out :=
  runIf t s (fun s => s.up dCtrl && c < 134 && (s.ch c).armed && !(s.ch c).diag) (fun s =>
    match chOther c with
    | none => s.gateOn c
    | some o =>
      if both && (s.ch o).armed then ((((s.gateIgnore c).gateIgnore o).shoot c).shoot o).shootEv (chLeg c) 255
      else if s.interlocked c otherLow then ((s.gateIgnore c).shoot c).shootEv (chLeg c) c
      else
        let s := s.gateOn c
        s.setCh o { s.ch o with on := false, live := false })

/-- GATE_ARMED: every rail of channel c is valid for the first time (R110 to R112, R84). -/
def execGateArmed (t c : Nat) (s : State) : Out :=
  runIf t s (fun s => s.up dCtrl && c < 134 && s.tbu.running && !s.shlHolds c && !(s.ch c).bad && !(s.ch c).armed)
    (fun s =>
      let v := s.ch c
      (s.setCh c { v with armed := true, uv := [], uvOk := true, removed := false, on := false }).raiseIf v.removed 35 [c])

/-- Channel c is in an on-time in which its drain sense has been compared for 60 ns or more: dsat_en, an accepted on command
that MOD has not ended, and blank and 24 ticks passed since (R126). -/
def State.desatMay (s : State) (c : Nat) : Bool :=
  let v := s.ch c
  s.rb (0x2A04 + 0x10 * c) 31 && v.armed && v.on && v.onTick + s.fld (0x2A04 + 0x10 * c) 11 0 + 24 ≤ s.now
  && s.chOut c (s.now * 32 - 1)

/-- DESAT_DETECT: the drain-sense voltage of channel c has stayed above thr for 60 ns after blanking
(R126). -/
def execDesatDetect (t c : Nat) (s : State) : Out :=
  runIf t s (fun s => s.up dCtrl && c < 134 && s.desatMay c)
    (fun s =>
      let v := s.ch c
      ((s.legSpoil (chLeg c)).setCh c { v with dsat := true, dsatSeen := true, ev33 := s.periodMark }).raiseIf
        (v.ev33 != s.periodMark) 33 [c])

/-- DESAT_RELEASE: 5 µs after tick low, at which the channel's gate voltage fell below 2.0 V; an on command since then
stands (R115, R127). -/
def execDesatRelease (t c low : Nat) (s : State) : Out :=
  runIf t s (fun s => s.up dCtrl && (s.ch c).dsat && low + 5 * ticksPerUs ≤ s.now)
    (fun s => s.setCh c { s.ch c with dsat := false, live := (s.ch c).live && low < (s.ch c).onTick })

/-- UVLO_DETECT: a rail of channel c has stayed beyond its level for uv_filt: 0 positive, 1 negative, 2
bootstrap, 3 shared 12 V (R113, R128). -/
def execUvloDetect (t c rail : Nat) (s : State) : Out :=
  runIf t s (fun s => s.up dCtrl && c < 134 && s.tbu.running && !s.shlHolds c && (!(s.ch c).removed || (s.ch c).armed)
                      && (if c < 62 then rail < 2 else if chIsHi c then rail == 2 else rail == 3))
    (fun s =>
      let v := s.ch c
      (s.setCh c { v with uv := insN v.uv rail, uvSeen := true, ev34 := s.periodMark }).raiseIf
        (v.ev34 != s.periodMark) 34 [c, rail])

/-- UVLO_RELEASE: the monitor of a rail releases 0.5 V inside its level (R128). -/
def execUvloRelease (t c rail : Nat) (s : State) : Out :=
  runIf t s (fun s => s.up dCtrl && (s.ch c).uv.contains rail) (fun s =>
    let v := s.ch c
    let uv := v.uv.filter (fun x => x != rail)
    s.setCh c { v with uv := uv, uvOk := v.uvOk || (uv.isEmpty && v.armed) })

/-! ### Off-state diagnostics -/

/-- The follow set of a leg (R134); a leg alone in its set has no follow test. -/
def diagSet (n : Nat) : Nat :=
  if n < 12 then n / 3 else if n < 14 then 20 + n else if n < 20 then 5 else if n < 24 then 6 else if n < 27 then 7
  else if n = 27 then 60 else if n < 30 then 8 else if n < 32 then 9 else 30 + (n - 32) / 3

/-- A phase of IRA or IRB is fitted by RGCr_CFG.fitted; every other leg counts as fitted (R134). -/
def State.legFitted (s : State) (n : Nat) : Bool :=
  if 14 ≤ n && n < 20 then s.rb 0x4400 (22 + (n - 14)) else if 20 ≤ n && n < 24 then s.rb 0x4500 (22 + (n - 20)) else true

/-- The voltages that one step of a phase samples: V_b and every phase of the bridge, 0.1 V (R133, R134). -/
structure DiagSample where
  vb : Nat
  v : List Nat
  deriving DecidableEq, Repr

/-- Voltage of phase i. -/
def DiagSample.at' (x : DiagSample) (i : Nat) : Nat := x.v.getD i 0

/-- The outcome of phase i of a bridge from what steps 1 and 3 have sampled, each against its own V_b (R134, Tables 5.8
and 5.9), coded as Table 5.11. -/
def State.diagOutcome (s : State) (legs : List Nat) (dn up : DiagSample) (i : Nat) : Nat :=
  let n := legs.getD i 0
  let d := dn.at' i
  let u := up.at' i
  let hiD := 85 * dn.vb ≤ 100 * d
  let hiU := 85 * up.vb ≤ 100 * u
  let loD := 100 * d ≤ 15 * dn.vb
  let loU := 100 * u ≤ 15 * up.vb
  let others := (List.range legs.length).filter (fun j =>
    j != i && diagSet (legs.getD j 0) == diagSet n && s.legFitted (legs.getD j 0))
  let dist := fun (a b : Nat) => (a - b) + (b - a)
  let follows := fun (j : Nat) => 10 * dist (dn.at' j) d ≤ dn.vb && 10 * dist (up.at' j) u ≤ up.vb
  let apart := fun (j : Nat) => dn.vb < 4 * dist (dn.at' j) d || up.vb < 4 * dist (up.at' j) u
  if n = 12 || n = 13 then
    if hiD && hiU then 1 else if loD && hiU then 4 else if loD && loU then 3 else 5
  else if hiD && hiU then 2
  else if loD && loU then 3
  else if loD && hiU then
    if others.all follows then 1 else if others.any apart then 4 else 5
  else 5

/-- Record the outcome of leg n; an open load or a short on a fitted leg raises EV39 (R135). -/
def State.diagRecord (s : State) (n out : Nat) : State :=
  ({ s with gdv := { s.gdv with res := put s.gdv.res n out } }).raiseIf
    (s.legFitted n && (out == 2 || out == 3 || out == 4)) 39 [n, out]

/-- Mark the channels of a bridge's legs as under diagnosis or not (R131). -/
def State.diagMark (s : State) (legs : List Nat) (b : Bool) : State :=
  ((legs.map legChs).flatten).foldl (fun s c => s.setCh c { s.ch c with diag := b, on := (s.ch c).on && !b }) s

/-- Every phase of a bridge reports NO_BUS, those already finished too: DEDUCED (notes/assumptions/54.md); its diagnosis
ends (R132). -/
def State.diagNoBus (s : State) (legs : List Nat) : State :=
  let s := (legs.foldl (fun s n => s.diagRecord n 6) s).diagMark legs false
  { s with gdv := { s.gdv with diag := none } }

/-- Start the diagnosis of a bridge for the TK5 of handle h (R131 to R133). -/
def State.diagStart (s : State) (h : Nat) (legs : List Nat) : State :=
  if s.busVolt (legs.headD 0) < 200 then s.diagNoBus legs
  else
    let s := s.diagMark legs true
    { s with gdv := { s.gdv with diag := some { legs := legs, take := h, dl := s.now + s.fld 0x3384 6 0 * ticksPerMs } } }

/-- Phases that are not finished report ABORTED (R135, Table 19.12). -/
def State.diagUndone (s : State) (legs : List Nat) : State :=
  legs.foldl (fun s n => { s with gdv := { s.gdv with res := put s.gdv.res n 7 } }) s

/-- End the diagnosis in progress; phases not finished report ABORTED (R135). -/
def State.diagAbort (s : State) : State :=
  match s.gdv.diag with
  | none => s
  | some g =>
    let s := (s.diagUndone (g.legs.drop g.idx)).diagMark g.legs false
    { s with gdv := { s.gdv with diag := none } }

/-- Step 3 of the phase in progress has been sampled: its outcome and ratios, and the next phase or the end (R133 to
R135). -/
def State.diagPhase (s : State) (g : Diag) (up : DiagSample) : State :=
  let n := g.legs.getD g.idx 0
  let dn : DiagSample := { vb := g.vDn, v := g.dn }
  let s := s.diagRecord n (s.diagOutcome g.legs dn up g.idx)
  let rd := min 255 (divOpen (dn.at' g.idx * 255 : Nat) dn.vb).toNat
  let ru := min 255 (divOpen (up.at' g.idx * 255 : Nat) up.vb).toNat
  let s := { s with gdv := { s.gdv with ratio := put s.gdv.ratio n (rd * 256 + ru) } }
  if g.idx + 1 < g.legs.length then
    { s with gdv := { s.gdv with diag := some { g with idx := g.idx + 1, up := false, dn := [], vDn := 0
                                                       dl := s.now + s.fld 0x3384 6 0 * ticksPerMs } } }
  else
    let s := s.diagMark g.legs false
    { s with gdv := { s.gdv with diag := none } }

/-- DIAG_SETTLE_EXPIRED: settle has passed and every phase of the bridge is sampled; v holds their voltages in 0.1 V.
V_b is read from the bus's own input, so the operand in its place carries nothing (R132 to R135). -/
def execDiagSettleExpired (t : Nat) (_vb : Unit) (v : List Nat) (s : State) : Out :=
  runIf t s (fun s => match s.gdv.diag with
                      | some g => s.up dCtrl && g.dl ≤ s.now
                      | none => false)
    (fun s => match s.gdv.diag with
      | none => s
      | some g =>
        let vb := s.busVolt (g.legs.headD 0)
        if vb < 200 then s.diagNoBus g.legs
        else if !g.up then
          { s with gdv := { s.gdv with diag := some { g with up := true, dn := v, vDn := vb
                                                             dl := s.now + s.fld 0x3384 6 0 * ticksPerMs } } }
        else s.diagPhase g { vb := vb, v := v })

/-! ### Adaptive strength -/

/-- R122's rule for one direction of channel c: the new step, and the direction of limit_hit if any
(1 raise, 2 lower). -/
def adaptStep (step tsw target band smax smin : Nat) : Nat × Nat :=
  if (target + band) * 1000000 < tsw * 78125 then (if step < smax then (step + 1, 0) else (step, 1))
  else if tsw * 78125 + band * 1000000 < target * 1000000 then (if smin < step then (step - 1, 0) else (step, 2))
  else (step, 0)

/-- A force or a DESAT report on leg n is there now (R121). -/
def State.legSpoiled (s : State) (n : Nat) : Bool :=
  (legChs n).any (fun x => (s.ch x).dsat) || (match s.legGroup n with
    | some g => (s.grp g).forced
    | none => false)

/-- A measurement of channel c from the ended period is valid for adaptation: neither now nor at any time in that period a
force or a DESAT report (R121), with the target in ns. -/
def State.tswValid (s : State) (c tsw target : Nat) : Bool :=
  let n := chLeg c
  tsw * 78125 ≤ 4 * target * 1000000 && !(s.ch c).diag && !(s.leg n).spoilt && !s.legSpoiled n
  && (match s.legGroup n with
      | some g => (s.grp g).st == .run
      | none => false)

/-- A new period of leg n begins without a spoilt measurement, unless a force or a DESAT report goes on (R121). -/
def State.legFresh (s : State) (n : Nat) : State := s.setLeg n { s.leg n with spoilt := s.legSpoiled n }

/-- EV36 and EV37 of a limit hit on channel c, direction 0 on, 1 off (R123, R124). -/
def State.limitHit (s : State) (c dir kind step smax : Nat) : State :=
  let v := s.ch c
  let top := kind == 1 && step == 16 && smax == 16
  let k := if dir = 0 then v.limSrc else v.limSnk
  let k' := if top then k + 1 else 0
  let v' := { v with limSeen := true, limSrc := if dir = 0 then k' else v.limSrc, limSnk := if dir = 1 then k' else v.limSnk }
  if top then
    if k' = 1024 then (s.setCh c { v' with atMax := true }).raise 37 [c, dir] else s.setCh c v'
  else if v.ev36 = 0 || v.ev36 - 1 + ticksPerS ≤ s.now then
    (s.setCh c { v' with ev36 := s.now + 1 }).raise 36 [c, dir]
  else s.setCh c v'

/-- ADAPT_STEP for one direction of an isolated channel at a carrier start (R119 to R124); the answer
says whether the step was frozen. -/
def State.adaptDir (s : State) (c dir : Nat) (m : Option Nat) : State × Bool :=
  let b := 0x2A00 + 0x10 * c
  let target := if dir = 0 then s.fld (b + 8) 31 24 else s.fld (b + 8) 23 16
  match m with
  | none => (s, true)
  | some tsw =>
    if !s.tswValid c tsw target then (s, true)
    else
      let step := if dir = 0 then s.srcNow c else s.snkNow c
      let (k, lim) := adaptStep step tsw target (s.fld (b + 8) 15 11) (s.fld b 9 5) (s.fld b 4 0)
      let v := s.ch c
      let v := if dir = 0 then { v with tOn := min 0xFFFE tsw, src := some k, limSrc := if lim = 0 then 0 else v.limSrc }
               else { v with tOff := min 0xFFFE tsw, snk := some k, limSnk := if lim = 0 then 0 else v.limSnk }
      let s := s.setCh c v
      (if lim = 0 then s else s.limitHit c dir lim step (s.fld b 9 5), false)

/-- ADAPT_STEP of channel c with the last turn-on and turn-off measurements of the ended period. -/
def State.adaptCh (s : State) (c : Nat) (on off : Option Nat) : State :=
  if 62 ≤ c then s
  else if !s.rb (0x2A00 + 0x10 * c) 31 then
    let b := 0x2A00 + 0x10 * c
    let keep := fun (m : Option Nat) (target old : Nat) => match m with
      | some x => if s.tswValid c x target then min 0xFFFE x else old
      | none => old
    s.setCh c { s.ch c with tOn := keep on (s.fld (b + 8) 31 24) (s.ch c).tOn, tOff := keep off (s.fld (b + 8) 23 16) (s.ch c).tOff }
  else
    let (s, f0) := s.adaptDir c 0 on
    let (s, f1) := s.adaptDir c 1 off
    s.setCh c { s.ch c with frozen := f0 || f1 }

/-- ADAPT_STEP of leg n (R122). -/
def State.adaptLeg (s : State) (n : Nat) (m : LegMeas) : State :=
  let s := s.adaptCh (chHi n) m.hiOn m.hiOff
  match chLo n with
  | some c => s.adaptCh c m.loOn m.loOff
  | none => s

end Sys2Proof.Machine
end

