-- ==== Sys2Proof/Machine/Gearbox.lean ====
section
/-! DEFINITION. The gearbox sequencer (chapter 10): shared operations and commands. -/

namespace Sys2Proof.Machine

def State.setGbx (s : State) (v : Gbx) : State := { s with gbx := v }
def State.act (s : State) (k : Nat) : Act := getD s.gbx.acts k {}
def State.setAct (s : State) (k : Nat) (v : Act) : State := s.setGbx { s.gbx with acts := put s.gbx.acts k v }

/-- PGN unit of actuator k (GBX_CTX). -/
def State.gbxPgn (s : State) (k : Nat) : Nat := s.fld 0x3F44 (19 + 4 * k) (16 + 4 * k)
/-- The traction contexts ctx_a and ctx_b that are named. -/
def State.gbxCtxs (s : State) : List Nat := [s.fld 0x3F44 7 0, s.fld 0x3F44 15 8].filter (fun c => c ≤ 191)
def State.facSlot (s : State) : Nat := s.fld 0x3F40 19 16
def State.syncSlot (s : State) : Nat := s.fld 0x3F40 15 12

/-- Offset of detent d of actuator k: 0 N, 1 A, 2 B. -/
def State.detOfs (s : State) (k d : Nat) : Int :=
  let b := 0x3F58 + 8 * k
  sx 16 (if d = 0 then s.fld b 31 16 else if d = 1 then s.fld b 15 0 else s.fld (b + 4) 31 16)
def State.detTol (s : State) (k : Nat) : Nat := s.fld (0x3F5C + 8 * k) 15 8
def State.settleMs (s : State) (k : Nat) : Nat := s.fld (0x3F5C + 8 * k) 7 0

/-- Position of actuator k from its origin (R248). -/
def State.actPos (s : State) (k : Nat) : Int :=
  let ch := s.fld (0x3C00 + 0x40 * k) 25 22
  sx 32 ((getD s.fb.pfis ch {} : Pfi).pos + 2 ^ 32 - (s.act k).origin % 2 ^ 32)

/-- Actuator k lies within tol of detent d. -/
def State.actNear (s : State) (k d : Nat) : Bool := (s.actPos k - s.detOfs k d).natAbs ≤ s.detTol k

/-- The detents that actuator k uses: GX2 and GX3 have no N (R250). -/
def detsOf (k : Nat) : List Nat := if k < 2 then [0, 1, 2] else [1, 2]

/-- Detents of the forks in gear 0 to 4 (Table 10.1). -/
def forkDet (gear k : Nat) : Nat :=
  if gear = 0 then 0
  else if k = 0 then (if gear ≤ 2 then 1 else 2) else (if gear % 2 = 1 then 1 else 2)

/-- The forks are at the detents of a gear. -/
def State.inGear (s : State) (g : Nat) : Bool := [0, 1].all (fun k => (s.act k).at'.contains (forkDet g k))

/-- The gear that the forks' positions name: 7 BETWEEN when a fork is at no detent, N when no gear's detents are all
taken; where detents lie within tol of each other, the gear held so far stands (R253, Table 10.1).  DEDUCED
(notes/assumptions/23.md). -/
def State.gearNow (s : State) : Nat :=
  if [0, 1].any (fun k => (s.act k).at'.isEmpty) then 7
  else if s.gbx.gear ≤ 4 && s.inGear s.gbx.gear then s.gbx.gear
  else ([0, 1, 2, 3, 4].find? s.inGear).getD 0

/-- Actuator k has a target it is not at, and a bridge that moves it (R256). -/
def State.actMoving (s : State) (k : Nat) : Bool :=
  (match (s.act k).want with
   | some d => !(s.act k).at'.contains d
   | none => false) && s.cmuGrpRun k && (s.cmu k).st == .run

/-- Drive actuator k to detent d: its PGN target (R247). -/
def State.actDrive (s : State) (k d : Nat) : State :=
  (s.setAct k { s.act k with want := some d }).pgnTarget (s.gbxPgn k) (toBits 32 (((s.act k).origin : Int) + s.detOfs k d))

/-- Write FACTOR and SYNC to the traction contexts (R251, R252). -/
def State.gbxSlots (s : State) : State :=
  s.gbxCtxs.foldl (fun s c => (s.hostPut c s.facSlot s.gbx.factor).hostPut c s.syncSlot (toBits 32 (sx 16 s.gbx.sync))) s

/-- Tick of the step that is running: its boundary (R30, R250). -/
def State.gbxTick (s : State) : Nat := s.tbu.lastB

/-- The FACTOR outside a ramp (R252). -/
def State.factorRest (s : State) : Nat :=
  if s.gbx.ref && 1 ≤ s.gbx.gear && s.gbx.gear ≤ 4 && s.gbx.park == 0 then 0x7FFF else 0

/-- Set FACTOR and SYNC. -/
def State.gbxSet (s : State) (factor sync : Nat) : State :=
  (s.setGbx { s.gbx with factor := factor, sync := sync }).gbxSlots

/-- Enter IDLE with an outcome: EV116, or EV117 when it is not DONE (R253). -/
def State.gbxIdle (s : State) (out : Nat) : State :=
  let s := s.setGbx { s.gbx with st := .idle, outcome := out, gear := s.gearNow, movers := [], toN := false, nudge := false, reverted := false }
  let s := s.gbxSet s.factorRest 0x8000
  if out = 1 then s.raise 116 [s.gbx.gear] else s.raise 117 [out]

/-- Enter a stage with a time of ms. -/
def State.gbxStage (s : State) (x : GbxSt) (ms : Nat) : State :=
  s.setGbx { s.gbx with st := x, start := s.gbxTick, dl := s.gbxTick + ms * ticksPerMs, f0 := s.gbx.factor }

/-- Move the forks of the sequence to their detents of a gear. -/
def State.forksTo (s : State) (gear : Nat) : State := s.gbx.movers.foldl (fun s k => s.actDrive k (forkDet gear k)) s

/-- Every moving fork is at the detent it is to be at. -/
def State.forksThere (s : State) : Bool := s.gbx.movers.all (fun k => match (s.act k).want with
  | some d => (s.act k).at'.contains d
  | none => false)

def State.ratio (s : State) (gear : Nat) : Nat := s.fld (0x3F78 + 4 * (gear - 1)) 19 0

/-- Signed speed of a source in 0.25 rpm. -/
def State.gbxSpeed (s : State) (src : Nat) : Int := if s.srcValid src then s.srcRpm src else 0
def State.outSpd (s : State) : Int := s.gbxSpeed (s.fld 0x3F40 30 26)
def State.motSpd (s : State) : Int := s.gbxSpeed (s.fld 0x3F40 25 21)

/-- The gear whose ratio SYNC uses. -/
def State.syncGear (s : State) : Nat := if s.gbx.reverted then s.gbx.old else s.gbx.tgt

/-- SYNC's motor speed in 1/16,384 rpm: out speed × ratio, plus the nudge of a retry (Table 10.2). -/
def State.syncGoal (s : State) : Int :=
  s.outSpd * s.ratio s.syncGear + (if s.gbx.nudge then (s.fld 0x3F54 7 0 * 16384 : Nat) else 0)

/-- SYNC as frac16 of mot_max (R252, Table 10.2). -/
def State.syncWord (s : State) : Nat :=
  toBits 16 (clampI (-32767) 32767 (divOpen (s.syncGoal * 32768) (s.fld 0x3F48 31 16 * 16384)))

/-- The motor has come within sync_tol of SYNC. -/
def State.synced (s : State) : Bool := (s.motSpd * 4096 - s.syncGoal).natAbs ≤ s.fld 0x3F54 15 8 * 16384

/-- Start SYNC. -/
def State.gbxSync (s : State) : State :=
  let s := s.gbxStage .sync (s.fld 0x3F54 31 16)
  s.gbxSet 0 s.syncWord

/-- The forks of the sequence go to N; no synchronisation is requested meanwhile (Table 10.2). -/
def State.gbxToN (s : State) : State := ((s.gbxSet 0 0x8000).gbxStage .disengage (s.fld 0x3F50 31 16)).forksTo 0

/-- The ramp of UNLOAD or RELOAD has ended (Table 10.2). -/
def State.rampEnd (s : State) : State :=
  if s.gbx.dl ≤ s.gbxTick then
    match s.gbx.st with
    | .unload => s.gbxToN
    | .reload => s.gbxIdle (if s.gbx.outcome = 0 then 1 else s.gbx.outcome)
    | _ => s
  else s

/-- The stage ends because its forks are at their detents, or its speed is reached, before its deadline
(Table 10.2, R39, R250). -/
def State.stageExit (s : State) : State :=
  if s.gbx.dl ≤ s.gbxTick then s
  else
    match s.gbx.st with
    | .disengage =>
      if !s.forksThere then s
      else if s.gbx.toN then s.gbxIdle 7
      else if s.gbx.tgt = 0 then s.gbxIdle 1
      else s.gbxSync
    | .sync =>
      if s.synced then (s.gbxStage .engage (s.fld 0x3F50 15 0)).forksTo s.syncGear else s
    | .engage =>
      if s.forksThere then
        let s := s.setGbx { s.gbx with gear := s.syncGear }
        (s.gbxStage .reload (s.fld 0x3F4C 15 0)).gbxSet 0 0x8000
      else s
    | _ => s

/-- The stage has timed out (Table 10.2). -/
def State.stageTimeout (s : State) : State :=
  if s.gbxTick < s.gbx.dl then s
  else
    match s.gbx.st with
    | .disengage =>
      if s.gbx.toN then s.gbxIdle 7
      else
        let s := (s.setGbx { s.gbx with outcome := 2 }).forksTo (if s.gbx.old ≤ 4 then s.gbx.old else 0)
        s.gbxStage .reload (s.fld 0x3F4C 15 0)
    | .sync =>
      if !s.gbx.reverted && 1 ≤ s.gbx.old && s.gbx.old ≤ 4 then (s.setGbx { s.gbx with reverted := true, nudge := false, outcome := 3 }).gbxSync
      else s.gbxIdle 4
    | .engage =>
      if s.gbx.retries < s.fld 0x3F40 11 8 then (s.setGbx { s.gbx with retries := s.gbx.retries + 1, nudge := true }).gbxToN
      else (s.forksTo 0).gbxIdle 5
    | _ => s

/-- TRM group states: a moving actuator's group out of RUN halts the sequence; HALT ends when every
enabled unit is back in RUN (Table 10.2, R254). -/
def State.gbxTrips (s : State) : State :=
  match s.gbx.st with
  | .idle => s
  | .halt =>
    if (List.range 4).all (fun u => !s.rb (cmuBase u) 31 || (s.cmu u).st == .run) then
      let s := s.setGbx { s.gbx with st := .idle, gear := s.gearNow, movers := [] }
      (s.gbxSet s.factorRest 0x8000).raise 117 [6]
    else s
  | _ =>
    if s.gbx.movers.any (fun k => !s.cmuGrpRun k) then
      let s := s.setGbx { s.gbx with st := .halt, outcome := 6, movers := [] }
      s.gbxSet s.factorRest 0x8000
    else s

/-- Actuator k at a step: the detents it lies within tol of, since when, and those it has stayed at for settle_ms
(R248). -/
def State.actLook (s : State) (k : Nat) : State :=
  let v := s.act k
  let b := s.gbxTick
  let near := ((detsOf k).filter (s.actNear k)).map (fun d => (d, getD v.near d b))
  let at' := (near.filter (fun x => v.at'.contains x.1 || x.2 + s.settleMs k * ticksPerMs ≤ b)).map (·.1)
  s.setAct k { v with near := near, at' := at' }

/-- park (k = 2) or pto (k = 3) as GBX_STAT codes it (Table 10.3). -/
def State.clutch (s : State) (k : Nat) : Nat :=
  let v := s.act k
  if !s.gbx.ref then 3
  else if s.actMoving k then 2
  else match v.want with
    | some d => if v.at'.contains d then (if d = 1 then 1 else 0)
                else if v.at'.contains 1 then 1 else if v.at'.contains 2 then 0 else 3
    | none => if k = 2 && s.gbx.park == 0 && v.at'.contains 2 || k = 3 && s.gbx.pto == 0 && v.at'.contains 2 then 0
              else if v.at'.contains 1 then 1 else if v.at'.contains 2 then 0 else 3

/-- gear, park and pto from the positions of the actuators; a change of park or pto raises EV118 (R253, R255, R259). -/
def State.gbxPos (s : State) : State :=
  let park := s.clutch 2
  let pto := s.clutch 3
  let ch := park != s.gbx.park || pto != s.gbx.pto
  (s.setGbx { s.gbx with gear := s.gearNow, park := park, pto := pto }).raiseIf ch 118 [park, pto]

/-- Part of a span v that a ramp begun at tick start has covered at this step, of ms in all (R252). -/
def State.rampPart (s : State) (v start ms : Nat) : Nat := min v (v * (s.gbxTick - start) / (ms * ticksPerMs))

/-- FACTOR at this step as the state gives it: 0 and 0x7FFF by R252, between them the ramps of UNLOAD and RELOAD, each
linear from the FACTOR it found. -/
def State.factorNow (s : State) : Nat :=
  let g := s.gbx
  match g.st with
  | .unload => if s.factorRest = 0 then 0 else g.f0 - s.rampPart g.f0 g.start (s.fld 0x3F4C 31 16)
  | .reload => if s.factorRest = 0 then 0 else g.f0 + s.rampPart (0x7FFF - g.f0) g.start (s.fld 0x3F4C 15 0)
  | .disengage => 0
  | .sync => 0
  | .engage => 0
  | _ => s.factorRest

/-- SYNC at this step: recomputed in SYNC and ENGAGE (Table 10.2). -/
def State.syncNow (s : State) : Nat := if s.gbx.st == .sync || s.gbx.st == .engage then s.syncWord else 0x8000

/-- FACTOR and SYNC of this step reach the traction contexts where they change; the ramp of a park engagement lowers
FACTOR further (R251, R252, R255). -/
def State.gbxFactor (s : State) : State :=
  let f := match s.gbx.parkRamp with
    | some (t, f0) => min s.factorNow (f0 - s.rampPart f0 t (s.fld 0x3F4C 31 16))
    | none => s.factorNow
  if f == s.gbx.factor && s.syncNow == s.gbx.sync && !s.gbx.rewrite then s
  else (s.setGbx { s.gbx with rewrite := false }).gbxSet f s.syncNow

/-- The ramp of a park engagement has ended: GX2 goes to A (R255). -/
def State.parkRampEnd (s : State) : State :=
  match s.gbx.parkRamp with
  | some (t, _) =>
    if t + s.fld 0x3F4C 31 16 * ticksPerMs ≤ s.gbxTick then (s.setGbx { s.gbx with parkRamp := none }).actDrive 2 1 else s
  | none => s

/-! ### Commands at a step -/

/-- GEAR_REF: origins from the stored detents (R249). -/
def State.gearRef (s : State) (p : List Nat) : State × Status :=
  let gear := p.getD 0 0
  let park := p.getD 1 0
  let pto := p.getD 2 0
  if s.gbx.st != .idle || 4 < gear || 1 < park || 1 < pto then (s, .refused)
  else
    let dets := [forkDet gear 0, forkDet gear 1, if park = 1 then 1 else 2, if pto = 1 then 1 else 2]
    let s := (List.range 4).foldl (fun s k =>
      let d := dets.getD k 0
      let ch := s.fld (0x3C00 + 0x40 * k) 25 22
      let org := toBits 32 (((getD s.fb.pfis ch {} : Pfi).pos : Int) - s.detOfs k d)
      s.setAct k { origin := org, want := none, at' := [d], near := [(d, s.gbxTick)] }) s
    let ch := s.gbx.park != park || s.gbx.pto != pto
    let s := (s.setGbx { s.gbx with ref := true, gear := gear, park := park, pto := pto, parkRamp := none }).raiseIf ch 118 [park, pto]
    (s.gbxSet s.factorRest 0x8000, .ok)

/-- GEAR_SHIFT (R253). -/
def State.gearShift (s : State) (tgt : Nat) : State × Status :=
  let g := s.gbx
  if g.st != .idle then (s, .busy)
  else if !g.ref || g.park != 0 || !s.cmuGrpRun 0 || !s.cmuGrpRun 1 || (s.cmu 0).st != .run || (s.cmu 1).st != .run
    || (0 < tgt && s.fld 0x3F48 31 16 * 16384 < s.outSpd.natAbs * s.ratio tgt) then (s, .refused)
  else
    let mv := (List.range 2).filter (fun k => 4 < g.gear || forkDet g.gear k != forkDet tgt k)
    let s := s.setGbx { g with tgt := tgt, old := g.gear, movers := mv, retries := 0, reverted := false, nudge := false, toN := false, outcome := 0 }
    if 4 < g.gear then (s.gbxToN, .ok)
    else (s.gbxStage .unload (s.fld 0x3F4C 31 16), .ok)

/-- GEAR_STOP (Table 10.2). -/
def State.gearStop (s : State) : State × Status :=
  match s.gbx.st with
  | .idle => (s, .refused)
  | .unload => ((s.setGbx { s.gbx with outcome := 7 }).gbxStage .reload (s.fld 0x3F4C 15 0), .ok)
  | .disengage => ((s.setGbx { s.gbx with toN := true, outcome := 7 }).gbxToN, .ok)
  | .sync => ((s.setGbx { s.gbx with toN := true, outcome := 7 }).gbxToN, .ok)
  | .engage => ((s.setGbx { s.gbx with toN := true, outcome := 7 }).gbxToN, .ok)
  | _ => (s, .ok)

/-- PARK_SET (R255). -/
def State.parkSet (s : State) (v : Nat) : State × Status :=
  let g := s.gbx
  if !g.ref then (s, .refused)
  else if v = 1 then
    if g.st != .idle || 4 * s.fld 0x3F48 15 0 < s.outSpd.natAbs then (s, .refused)
    else (s.setGbx { g with parkRamp := some (s.gbxTick, g.factor) }, .ok)
  else ((s.setGbx { g with parkRamp := none }).actDrive 2 2, .ok)

/-- PTO_SET (R256). -/
def State.ptoSet (s : State) (v : Nat) : State × Status :=
  if !s.gbx.ref then (s, .refused)
  else if s.gbx.pto = 2 then (s, .busy)
  else (s.actDrive 3 (if v = 1 then 1 else 2), .ok)

/-- One waiting command at a step: it meets what the step has brought so far, and the next one what it leaves (R254). -/
def State.gbxCmd (s : State) (c : GbxCmd) : State :=
  let a := c.p.getD 0 0
  let (s, st) :=
    if c.op = 0x0600 then s.gearRef c.p else if c.op = 0x0601 then s.gearShift a else if c.op = 0x0602 then s.gearStop
    else if c.op = 0x0603 then s.parkSet a else s.ptoSet a
  s.gbxPos.decide c.sq c.tick st 0 s.gbxTick

/-- The sequencer runs now. -/
def State.gbxUp (s : State) : Bool := s.gbx.run && s.up dApp && s.up dImpl && s.gaf.partUp.contains 4

/-- A step is due at the latest boundary: the first at or after its whole millisecond (R30, R250). -/
def State.gbxDue (s : State) : Bool := s.gbxUp && s.gbx.next ≤ s.gbxTick

/-- GBX_STEP: the sequencer's step: positions, TRM group states, stage exits, then the commands of no later tick
(R250, R254). -/
def execGbxStep (t : Nat) (s : State) : Out :=
  runIf t s State.gbxDue (fun s =>
    let s := s.setGbx { s.gbx with next := s.gbx.next + ((s.gbxTick - s.gbx.next) / ticksPerMs + 1) * ticksPerMs }
    let s := (List.range 4).foldl (fun s k => s.actLook k) s
    let s := (((s.gbxTrips.rampEnd).stageExit).stageTimeout).parkRampEnd.gbxPos.gbxFactor
    let cs := s.gbx.cmds
    let s := s.setGbx { s.gbx with cmds := cs.filter (fun c => s.gbxTick < c.tick) }
    ((cs.filter (fun c => c.tick ≤ s.gbxTick)).foldl (fun s c => s.gbxCmd c) s).gbxFactor)

/-! The three commands below are parts of the step that is due at the latest boundary; TRM group states come first in
each (R254), and GBX_STEP then does the rest of that step. -/

/-- GBX_DETENT_REACHED: actuator k has stayed within tol of its detent for settle_ms (R248). -/
def execGbxDetentReached (t k : Nat) (s : State) : Out :=
  runIf t s (fun s => s.gbxDue && k < 4) (fun s => (s.actLook k).gbxTrips.stageExit.gbxPos)

/-- GBX_RAMP_END: the ramp of UNLOAD or RELOAD has ended (Table 10.2). -/
def execGbxRampEnd (t : Nat) (s : State) : Out := runIf t s State.gbxDue (fun s => s.gbxTrips.rampEnd)

/-- GBX_STAGE_TIMEOUT: DISENGAGE, SYNC or ENGAGE has reached its deadline (Table 10.2). -/
def execGbxStageTimeout (t : Nat) (s : State) : Out := runIf t s State.gbxDue (fun s => s.gbxTrips.stageTimeout)

/-- A gearbox command reaches the sequencer: it acts at the next step (R250, R254).  Without a running
sequencer it is refused. -/
def gbxRun (code : Nat) (d : Desc) (s : State) : Out :=
  hostRun code d s (fun s =>
    if s.gbx.run then s.setGbx { s.gbx with cmds := s.gbx.cmds ++ [{ op := code, sq := d.sq, tick := d.t, p := d.p }] }
    else s.refuse d)

/-- GEAR_REF (R249). -/
def execGearRef (d : Desc) (s : State) : Out := gbxRun 0x0600 d s
/-- GEAR_SHIFT (R253). -/
def execGearShift (d : Desc) (s : State) : Out := gbxRun 0x0601 d s
/-- GEAR_STOP (R253). -/
def execGearStop (d : Desc) (s : State) : Out := gbxRun 0x0602 d s
/-- PARK_SET (R255). -/
def execParkSet (d : Desc) (s : State) : Out := gbxRun 0x0603 d s
/-- PTO_SET (R256). -/
def execPtoSet (d : Desc) (s : State) : Out := gbxRun 0x0604 d s

/-- The check at lock (R247, R258, R384): a failure keeps the sequencer stopped with EV119; named are the slots that
SFP, PPM and DCL write. -/
def State.gbxLockCheck (s : State) (named : List (Nat × Nat)) : State × Bool :=
  if !s.rb 0x3F40 31 then (s, false)
  else
    let hostSlot := fun (c j : Nat) => let b := s.bind c false j; b.en && b.kind == 4
    let ok := s.fld 0x3F40 30 26 ≤ 19 && s.fld 0x3F40 25 21 ≤ 19 && s.facSlot != s.syncSlot
      && s.fld 0x3F44 7 0 ≤ 191 && (s.fld 0x3F44 15 8 ≤ 191 || s.fld 0x3F44 15 8 == 255)
      && s.gbxCtxs.all (fun c => hostSlot c s.facSlot && hostSlot c s.syncSlot
                               && !named.contains (c, s.facSlot) && !named.contains (c, s.syncSlot))
      && 1 ≤ s.fld 0x3F48 31 16 && 1 ≤ s.fld 0x3F4C 31 16 && 1 ≤ s.fld 0x3F4C 15 0 && 1 ≤ s.fld 0x3F50 31 16
      && 1 ≤ s.fld 0x3F50 15 0 && 1 ≤ s.fld 0x3F54 31 16 && 1 ≤ s.fld 0x3F54 15 8
      && (List.range 4).all (fun k => 1 ≤ s.detTol k && 1 ≤ s.settleMs k && 1 ≤ s.fld (0x3F78 + 4 * k) 19 0
           && (!s.rb (cmuBase k) 31 || (!s.pgnVel (s.gbxPgn k) && !s.rb (pgnBase (s.gbxPgn k)) 29)))
    if ok then (s.setGbx { s.gbx with armed := true }, false) else (s.raise 119 [], true)

/-- The sequencer starts with the clapper (Table 10.3): its steps count from here, and the first writes its slots (R252). -/
def State.gbxStart (s : State) : State :=
  if s.gbx.armed then s.setGbx { s.gbx with armed := false, run := true, rewrite := true, next := s.now } else s

/-- GBX_CFG.en as it reads: a failed check keeps it 0 (R258). -/
def State.gbxEn (s : State) : Bool := s.rb 0x3F40 31 && (!s.lock.done || s.gbx.armed || s.gbx.run)

/-- PD_APP has been reset: IDLE, the reference kept, gear, park and pto read from the positions, here and at the first
step, which rewrites the slots; a command that has not acted ends with DOMAIN_OFF (R259, R463). -/
def State.gbxRestart (s : State) : State :=
  let s := s.gbx.cmds.foldl (fun s c => s.decide c.sq c.tick .domainOff 0 s.now) s
  let s := s.setGbx { s.gbx with st := .idle, movers := [], cmds := [], parkRamp := none, rewrite := true, toN := false, nudge := false, reverted := false }
  ((List.range 4).foldl (fun s k => s.setAct k { s.act k with want := none }) s).gbxPos

/-- The sequencer owns a HOST slot or a PGN target that a SET_TARGET names (R247, R251). -/
def State.gbxOwns (s : State) (x slot : Nat) : Bool :=
  s.gbxEn && (if 256 ≤ x then (List.range 4).any (fun k => s.rb (cmuBase k) 31 && s.gbxPgn k == x - 256)
                else s.gbxCtxs.contains x && (slot == s.facSlot || slot == s.syncSlot))

end Sys2Proof.Machine
end

