-- ==== Sys2Proof/Machine/SafeOps.lean ====
section
/-! DEFINITION. The two safety channels (chapter 17): the safety configuration, safe inputs, STO, SS1 and
the continuity check, as shared operations.  Channel 0 is SHL, channel 1 is SFP. -/

namespace Sys2Proof.Machine

def State.setSaf (s : State) (v : Saf) : State := { s with saf := v }

/-- Channel 0 SHL, 1 SFP. -/
def State.safeCh (s : State) (ch : Nat) : SafeCh := if ch = 0 then s.saf.shl else s.saf.sfp
def State.setSafeCh (s : State) (ch : Nat) (v : SafeCh) : State :=
  if ch = 0 then s.setSaf { s.saf with shl := v } else s.setSaf { s.saf with sfp := v }

def State.safeIn (s : State) (ch i : Nat) : SafeIn := getD (s.safeCh ch).ins i {}
def State.setSafeIn (s : State) (ch i : Nat) (v : SafeIn) : State :=
  s.setSafeCh ch { s.safeCh ch with ins := put (s.safeCh ch).ins i v }
def State.ss1 (s : State) (ch g : Nat) : Ss1 := getD (s.safeCh ch).ss1 g {}
def State.setSs1 (s : State) (ch g : Nat) (v : Ss1) : State :=
  s.setSafeCh ch { s.safeCh ch with ss1 := put (s.safeCh ch).ss1 g v }
def State.tap (s : State) (g : Nat) : Tap := getD s.saf.taps g {}
def State.setTap (s : State) (g : Nat) (v : Tap) : State := s.setSaf { s.saf with taps := put s.saf.taps g v }
def State.conn (s : State) (c : Nat) : Conn := getD s.saf.conns c {}
def State.setConn (s : State) (c : Nat) (v : Conn) : State := s.setSaf { s.saf with conns := put s.saf.conns c v }

/-- The domain of a channel. -/
def chDom (ch : Nat) : Nat := if ch = 0 then dShl else dSfp

/-- Safety channel ch runs: its domain does, and SFP has its code (R543). -/
def State.chanUp (s : State) (ch : Nat) : Bool := s.up (chDom ch) && (ch == 0 || !s.secu.dead.contains 0)

/-! ### The configuration in force (Tables 17.5 and 18.4) -/

/-- k bytes of the SAFE section in force at offset o. -/
def State.sf (s : State) (o k : Nat) : Nat :=
  match s.saf.cfg with
  | some b => field b.safe o k
  | none => 0

/-- k bytes of the BSL section in force at offset o. -/
def State.bf (s : State) (o k : Nat) : Nat :=
  match s.saf.cfg with
  | some b => field b.bsl o k
  | none => 0

/-- A configuration is active and confirmed (R428). -/
def State.safeLive (s : State) : Bool :=
  match s.saf.cfg with
  | some b => b.confirmed
  | none => false

/-- SFP cycle time in ticks; the default of 1 ms without a configuration. -/
def State.sfpCyc (s : State) : Nat := if s.saf.cfg.isSome then s.sf 0 2 * 100 * ticksPerUs else ticksPerMs
def State.reqMask (s : State) : Nat := s.sf 3 1
/-- mode of input i: 0 UNUSED, 1 EQUIV, 2 ANTIV. -/
def State.siMode (s : State) (i : Nat) : Nat := s.sf (8 + 16 * i) 1
/-- func of input i: 0 STO, 1 SS1, 2 RESET. -/
def State.siFunc (s : State) (i : Nat) : Nat := s.sf (9 + 16 * i) 1
def State.siMask (s : State) (i : Nat) : Nat := s.sf (10 + 16 * i) 1
def State.siRestart (s : State) (i : Nat) : Bool := s.sf (11 + 16 * i) 1 == 1
/-- Test-pulse output plus one that line b of input i names; 0 none. -/
def State.siTp (s : State) (i b : Nat) : Nat := s.sf (12 + b + 16 * i) 1
def State.siReset (s : State) (i : Nat) : Nat := s.sf (14 + 16 * i) 1
/-- disc of input i in ticks. -/
def State.siDisc (s : State) (i : Nat) : Nat := s.sf (18 + 16 * i) 2 * ticksPerMs

def tgBase (g : Nat) : Nat := 0x118 + 32 * g
def State.tgTap (s : State) (g : Nat) : Nat := s.sf (tgBase g) 1
def State.tgRsv (s : State) (g : Nat) : Nat := s.sf (tgBase g + 1) 1
/-- w of group g in ticks. -/
def State.tgW (s : State) (g : Nat) : Nat := s.sf (tgBase g + 2) 2 * 20000
def State.tgRamp (s : State) (g : Nat) : Nat := s.sf (tgBase g + 4) 2 * ticksPerMs
def State.tgTmax (s : State) (g : Nat) : Nat := s.sf (tgBase g + 6) 2 * 10 * ticksPerMs
def State.tgSlot (s : State) (g : Nat) : Nat := s.sf (tgBase g + 22) 1
def State.tgCtx (s : State) (g : Nat) : Nat := s.sf (tgBase g + 23) 1

/-- The HOST slots that SFP writes (R417). -/
def State.sfpSlots (s : State) : List (Nat × Nat) :=
  if s.saf.cfg.isNone then []
  else ((List.range 4).filter (fun g => s.tgCtx g ≤ 191 && s.tgSlot g ≤ 15)).map (fun g => (s.tgCtx g, s.tgSlot g))

/-- SFP owns a HOST slot (R417). -/
def State.sfpOwns (s : State) (c slot : Nat) : Bool := s.sfpSlots.contains (c, slot)

def cnBase (c : Nat) : Nat := 8 + 32 * c
/-- Connection c is enabled. -/
def State.cnEn (s : State) (c : Nat) : Bool := bitAt (s.bf (cnBase c) 1) 0
/-- Connection c is OUT. -/
def State.cnOut (s : State) (c : Nat) : Bool := bitAt (s.bf (cnBase c) 1) 1
def State.cnRestart (s : State) (c : Nat) : Bool := bitAt (s.bf (cnBase c) 1) 2
def State.cnCan (s : State) (c : Nat) : Nat := s.bf (cnBase c + 1) 1
def State.cnReset (s : State) (c : Nat) : Nat := s.bf (cnBase c + 2) 1
def State.cnGap (s : State) (c : Nat) : Nat := s.bf (cnBase c + 3) 1
def State.cnData (s : State) (c : Nat) : Nat := s.bf (cnBase c + 4) 4
def State.cnAck (s : State) (c : Nat) : Nat := s.bf (cnBase c + 8) 4
/-- The eight bytes of the uid of connection c, least significant first. -/
def State.cnUid (s : State) (c : Nat) : List Nat := leBytes 8 (s.bf (cnBase c + 12) 8)
def State.cnProd (s : State) (c : Nat) : Nat := s.bf (cnBase c + 20) 2 * 100 * ticksPerUs
def State.cnExp (s : State) (c : Nat) : Nat := s.bf (cnBase c + 22) 2 * 100 * ticksPerUs
def State.cnWd (s : State) (c : Nat) : Nat := s.bf (cnBase c + 24) 2 * 100 * ticksPerUs
def State.cnCrcMax (s : State) (c : Nat) : Nat := s.bf (cnBase c + 26) 1
def State.cnOpenN (s : State) (c : Nat) : Nat := s.bf (cnBase c + 27) 1
def State.cnSto (s : State) (c : Nat) : Nat := s.bf (cnBase c + 28) 1
def State.cnSs1 (s : State) (c : Nat) : Nat := s.bf (cnBase c + 29) 1

/-! ### Demands -/

/-- Line A or line B shows the demand (R410). -/
def State.lineDem (s : State) (ch i b : Nat) : Bool :=
  let x := s.safeIn ch i
  if b = 0 then !x.a else if s.siMode i = 2 then x.b else !x.b

/-- Input i demands in channel ch: either line, or a fault (R410 to R412). -/
def State.siDem (s : State) (ch i : Nat) : Bool :=
  s.lineDem ch i 0 || s.lineDem ch i 1 || (s.safeIn ch i).fault != 0

/-- Input i is in use with function f and names group k. -/
def State.siNames (s : State) (i f k : Nat) : Bool := s.siMode i != 0 && s.siFunc i == f && bitAt (s.siMask i) k

/-- Connection c demands STO of STO group k (R448). -/
def State.cnStoDem (s : State) (c k : Nat) : Bool :=
  s.cnEn c && !s.cnOut c && ((s.conn c).st != .opn || !bitAt (s.conn c).data 0)
  && (bitAt (s.cnSto c) k || (k < 4 && bitAt (s.cnSs1 c) k))

/-- Connection c demands SS1 of traction group k (R448). -/
def State.cnSs1Dem (s : State) (c k : Nat) : Bool :=
  s.cnEn c && !s.cnOut c && (s.conn c).st == .opn && bitAt (s.conn c).data 0 && !bitAt (s.conn c).data 1
  && bitAt (s.cnSs1 c) k

/-- Connection numbers. -/
def conns : List Nat := List.range 32

/-- An SS1 demand for group k is present in channel ch (R413, R448). -/
def State.ss1Dem (s : State) (ch k : Nat) : Bool :=
  k < 4 && ((List.range 16).any (fun i => s.siNames i 1 k && s.siDem ch i)
            || (ch == 1 && conns.any (fun c => s.cnSs1Dem c k)))

/-- The start conditions of R430 hold in channel ch. -/
def State.safeStarted (s : State) (ch : Nat) : Bool :=
  (s.safeCh ch).tested && s.safeLive && s.saf.match3 == 3
  && [0, 1, 2, 3].all (fun k => (s.safeCh ch).tps.contains k)

/-- Channel ch has an STO demand of its own for group k, apart from a running SS1 (R414, R415, R422, R423,
R428, R430, R448, R550). -/
def State.stoDem (s : State) (ch k : Nat) : Bool :=
  let x := s.safeCh ch
  !s.safeStarted ch || x.fault || s.saf.dbg
  || (List.range 16).any (fun i => s.siNames i 0 k && s.siDem ch i)
  || ((x.pin || s.saf.reqLatch) && bitAt s.reqMask k)
  || (ch == 1 && (conns.any (fun c => s.cnStoDem c k) || (k < 4 && (s.tap k).bad)))

/-- Items with restart MANUAL that demand group k in channel ch now (R415). -/
def State.manuals (s : State) (ch k : Nat) : List Nat :=
  (List.range 16).filter (fun i => s.siRestart i && (s.siNames i 0 k || (k < 4 && s.siNames i 1 k)) && s.siDem ch i)
  ++ (if s.sf 5 1 = 1 && bitAt s.reqMask k && ((s.safeCh ch).pin || s.saf.reqLatch) then [16] else [])
  ++ (if ch = 1 then (conns.filter (fun c => s.cnRestart c && (s.cnStoDem c k || (k < 4 && s.cnSs1Dem c k)))).map (· + 32)
      else [])

/-- Items with restart MANUAL that name group k: each needs a reset after start-up (R430). -/
def State.manualAll (s : State) (ch k : Nat) : List Nat :=
  (List.range 16).filter (fun i => s.siRestart i && (s.siNames i 0 k || (k < 4 && s.siNames i 1 k)))
  ++ (if s.sf 5 1 = 1 && bitAt s.reqMask k then [16] else [])
  ++ (if ch = 1 then (conns.filter (fun c => s.cnEn c && !s.cnOut c && s.cnRestart c
        && (bitAt (s.cnSto c) k || (k < 4 && bitAt (s.cnSs1 c) k)))).map (· + 32)
      else [])

/-- The conditions of R415 but for the reset have cleared for group k in channel ch. -/
def State.stoCleared (s : State) (ch k : Nat) : Bool :=
  !s.stoDem ch k && !s.ss1Dem ch k && (s.ss1 ch k).st != 1
  && (k < 4 || (s.stoGroups k).all (fun g => s.safeLvl g == 0))

/-- STO group k is in STO (R405). -/
def State.inSto (s : State) (k : Nat) : Bool := bitAt s.saf.shl.dem k || bitAt s.saf.sfp.dem k

/-- Set or clear bit k of a mask. -/
def withBit (m k : Nat) (b : Bool) : Nat := if b then m ||| 2 ^ k else m &&& (63 - 2 ^ k)

/-- The RESET input that an item with restart MANUAL names; 255 none. -/
def State.itemReset (s : State) (item : Nat) : Nat :=
  if item < 16 then s.siReset item else if item = 16 then s.sf 6 1 else s.cnReset (item - 32)

/-- A reset reaches channel ch for the items that p picks: groups whose conditions have cleared wait for
them no longer (R415). -/
def State.giveReset (s : State) (ch : Nat) (p : Nat → Bool) : State :=
  let x := s.safeCh ch
  s.setSafeCh ch { x with waits := x.waits.filter (fun w => !(p w.2 && s.stoCleared ch w.1)) }

/-! ### SS1 -/

/-- SS1 of group g ends in channel ch with a cause: 1 SHORTFALL, 2 STANDSTILL, 3 DEADLINE, 4 SOURCE_LOST,
5 STO; STO follows (R419, R420). -/
def State.ss1End (s : State) (ch g cause : Nat) : State :=
  let first := (s.ss1 (1 - ch) g).st < 2
  let s := s.setSs1 ch g { s.ss1 ch g with st := if cause = 1 then 3 else 2 }
  let x := s.safeCh ch
  let s := s.setSafeCh ch { x with own := withBit x.own g true, dem := withBit x.dem g true }
  s.raiseIf first 14 [g, cause]

/-- SS1 of group g starts in channel ch (R418). -/
def State.ss1Start (s : State) (ch g : Nat) : State :=
  let v0 := if ch = 0 then (s.tap g).last else (s.srcRpm (s.tgRsv g)).natAbs
  let first := (s.ss1 (1 - ch) g).st != 1
  (s.setSs1 ch g { st := 1, start := s.now, v0 := v0 }).raiseIf first 14 [g, 0]

/-- c_lim of group g at t ticks after its start (R418). -/
def State.cLim (s : State) (g t : Nat) : Nat :=
  let r := s.tgRamp g
  (s.ss1 0 g).v0 * (r - t) / r + s.sf (tgBase g + 8) 2

/-- SHL judges a window count of a running SS1 at its close (R419). -/
def State.shlJudge (s : State) (g count close : Nat) : State :=
  let t := close - (s.ss1 0 g).start
  let lim := s.cLim g t
  if lim < count then (s.ss1End 0 g 1).raise 24 [g, 0, count, lim]
  else if count ≤ s.sf (tgBase g + 10) 2 then s.ss1End 0 g 2
  else if s.tgTmax g ≤ t then s.ss1End 0 g 3
  else s

/-- n_lim of group g in 0.25 rpm × t_ramp, at t ticks after its start (R418). -/
def State.nLim (s : State) (g t : Nat) : Nat :=
  (s.ss1 1 g).v0 * (s.tgRamp g - t) + 4 * s.sf (tgBase g + 12) 2 * s.tgRamp g

/-- SFP judges a running SS1 of group g in its cycle (R419). -/
def State.sfpJudge (s : State) (g : Nat) : State :=
  let t := s.now - (s.ss1 1 g).start
  let n := (s.srcRpm (s.tgRsv g)).natAbs
  if !s.srcValid (s.tgRsv g) then s.ss1End 1 g 4
  else if s.nLim g t < n * s.tgRamp g then
    (s.ss1End 1 g 1).raise 24 [g, 1, n / 4, s.nLim g t / (4 * s.tgRamp g)]
  else if n ≤ 4 * s.sf (tgBase g + 14) 2 then s.ss1End 1 g 2
  else if s.tgTmax g ≤ t then s.ss1End 1 g 3
  else s

/-! ### STO -/

/-- Group k in channel ch: new waits, the channel's own demand (R415), its demand with that of R408, the end
of an SS1 that STO overtakes, and the start of one (R420). -/
def State.groupUpdate (s : State) (ch k : Nat) : State :=
  let x := s.safeCh ch
  let x := { x with waits := (s.manuals ch k).foldl (fun l i => if l.contains (k, i) then l else l ++ [(k, i)]) x.waits }
  let own := if bitAt x.own k then !s.stoCleared ch k || x.waits.any (fun w => w.1 == k) else s.stoDem ch k
  let dem := own || bitAt x.seen k
  let s := s.setSafeCh ch { x with own := withBit x.own k own, dem := withBit x.dem k dem }
  if 4 ≤ k then s
  else if dem then (if (s.ss1 ch k).st = 1 then s.ss1End ch k 5 else s)
  else
    let s := if 2 ≤ (s.ss1 ch k).st then s.setSs1 ch k {} else s
    if (s.ss1 ch k).st = 0 && s.ss1Dem ch k && !s.inSto k then s.ss1Start ch k else s

/-- Every group of channel ch. -/
def State.chanUpdate (s : State) (ch : Nat) : State := (List.range 6).foldl (fun s k => s.groupUpdate ch k) s

/-- The high-side channels of STO group k. -/
def stoChs (k : Nat) : List Nat := (List.range 134).filter (fun c => chSto c == some k)

/-- SHL removes the high-side supplies of STO group k (R406, R111, R113). -/
def State.linesOpen (s : State) (k : Nat) : State :=
  let s := (stoChs k).foldl (fun s c => s.setCh c { s.ch c with armed := false, on := false, removed := true, uv := [] }) s
  s.setSaf { s.saf with opened := withBit s.saf.opened k true, openAt := del s.saf.openAt k
                        readAt := put s.saf.readAt k (s.now + 305 * ticksPerUs) }

/-- The supply-enable lines of STO group k follow the demands (R406, R407). -/
def State.lineSync (s : State) (k : Nat) : State :=
  if s.inSto k then
    if bitAt s.saf.opened k || s.saf.openAt.any (fun x => x.1 == k) then s
    else s.setSaf { s.saf with openAt := put s.saf.openAt k (s.now + 3 * ticksPerUs) }
  else s.setSaf { s.saf with opened := withBit s.saf.opened k false, openAt := del s.saf.openAt k, readAt := del s.saf.readAt k }

/-- A safety source at TRM follows its channel (R406, R407); the assertion has fine part 0 (notes/assumptions/52.md). -/
def State.safeSrc (s : State) (n : Nat) (b : Bool) : State := if b then s.assertSrc n (s.now * 32) else s.releaseSrc n

/-- EV13 for an STO group that has entered or left STO (Table 17.9). -/
def State.stoEvent (s : State) (k : Nat) : State :=
  if s.inSto k == bitAt s.saf.sto k then s
  else (s.setSaf { s.saf with sto := withBit s.saf.sto k (s.inSto k) }).raise 13
    [k, b2n (bitAt s.saf.shl.dem k) + 2 * b2n (bitAt s.saf.sfp.dem k)]

/-- What the demands of both channels do outside them: sources at TRM while PD_CTRL runs, supply-enable
lines, EV13 (R405 to R407). -/
def State.safeSync (s : State) : State :=
  let s := if s.up dCtrl then
      let s := (List.range 6).foldl (fun s k => s.safeSrc (328 + k) (bitAt s.saf.shl.dem k)) s
      (List.range 16).foldl (fun s g => s.safeSrc (334 + g) (s.sfpForces g)) s
    else s
  (List.range 6).foldl (fun s k => (s.lineSync k).stoEvent k) s

/-- SSO_A of SHL, SSO_B of SFP (R438). -/
def State.sso (s : State) (ch : Nat) : Bool :=
  s.saf.cfg.isSome && !(s.safeCh ch).fault && (List.range 6).all (fun k => !bitAt (s.sf 4 1) k || s.inSto k)

/-- Name and code of a connection's state, as BSL_Cc_STAT codes it. -/
def ConnSt.code : ConnSt → Nat
  | .closed => 0
  | .opening => 1
  | .opn => 2
  | .fault => 3

/-- A connection changes its state (R447). -/
def State.connGo (s : State) (c : Nat) (x : ConnSt) (cause : Nat) : State :=
  if (s.conn c).st == x then s else (s.setConn c { s.conn c with st := x }).raise 216 [c, x.code, cause]

/-- Every connection closes (Table 18.3). -/
def State.connsClose (s : State) : State :=
  conns.foldl (fun s c => (s.connGo c .closed 0).setConn c { (s.connGo c .closed 0).conn c with tx := [], txAt := [], rx := [] }) s

/-- Channel ch enters SAFE_FAULT: ev is EV25 with the field, or EV30 with the diagnostic; EV26 follows
(R422). -/
def State.safeFault (s : State) (ch cause ev arg : Nat) : State :=
  if (s.safeCh ch).fault then s
  else
    let s := s.setSafeCh ch { s.safeCh ch with fault := true, cause := cause }
    let s := if ch = 1 then s.connsClose else s
    ((s.raiseIf (ev != 0) ev [arg]).raise 26 [ch, cause]).chanUpdate ch

/-! ### Safe inputs -/

/-- An input goes into fault: 1 DISC, 2 TEST_PULSE; EV15 once for both channels (R411, R412). -/
def State.siFault (s : State) (ch i line kind : Nat) : State :=
  let x := s.safeIn ch i
  if x.fault != 0 then s
  else
    let other := (s.safeIn (1 - ch) i).fault != 0
    (s.setSafeIn ch i { x with fault := kind, both := s.lineDem ch i 0 && s.lineDem ch i 1, first := none }).raiseIf
      (!other) 15 [i, line, kind]

/-- The way out of a fault: both lines have shown the demand together, then both release within disc (R39, R411). -/
def State.siClear (s : State) (ch i : Nat) : State :=
  let x := s.safeIn ch i
  let da := s.lineDem ch i 0
  let db := s.lineDem ch i 1
  if x.fault = 0 then s
  else if da && db then s.setSafeIn ch i { x with both := true, first := none }
  else if !x.both then s
  else match x.first with
    | none =>
      if da || db then s.setSafeIn ch i { x with first := some s.now }
      else s.setSafeIn ch i { x with fault := 0, both := false, first := none }
    | some f =>
      if da || db then s
      else if s.now < f + s.siDisc i then s.setSafeIn ch i { x with fault := 0, both := false, first := none }
      else s.setSafeIn ch i { x with both := false, first := none }

/-- The lines of input i have disagreed for disc, and a change in this very tick comes too late (R39, R411). -/
def State.siOverdue (s : State) (ch i : Nat) : Bool :=
  s.siMode i != 0 && (match (s.safeIn ch i).dis with
                      | some x => x + s.siDisc i ≤ s.now
                      | none => false)

/-- The disagreement puts the input into fault, naming the line that demands (R411). -/
def State.siDisagree (s : State) (ch i : Nat) : State := s.siFault ch i (if s.lineDem ch i 0 then 0 else 1) 1

/-- The filtered level of a line changes in channel ch (R410, R411, R413). -/
def State.siLine (s : State) (ch i : Nat) (lineB level : Bool) : State :=
  let was := s.siDem ch i
  let s := if s.siOverdue ch i then s.siDisagree ch i else s
  let x := s.safeIn ch i
  let s := s.setSafeIn ch i (if lineB then { x with b := level } else { x with a := level })
  let s := s.siClear ch i
  let x := s.safeIn ch i
  let dis := s.lineDem ch i 0 != s.lineDem ch i 1
  let dem := s.siDem ch i
  let s := s.setSafeIn ch i { x with dis := if dis then (if x.dis.isSome then x.dis else some s.now) else none
                                     rel := if dem then none else if was then some s.now else x.rel }
  match x.rel with
  | some r =>
    if !was && dem && s.siMode i != 0 && s.siFunc i == 2 && x.fault == 0
       && r + ticksPerS / 10 ≤ s.now && s.now ≤ r + 5 * ticksPerS
    then s.giveReset ch (fun item => s.itemReset item == i) else s
  | none => s

/-- Lines i × 2 + b that read low during a pulse of TPk as channel ch sees it (R412). -/
def State.tpJudge (s : State) (ch k : Nat) (low : List Nat) : State :=
  let s := s.setSafeCh ch { s.safeCh ch with tps := insN (s.safeCh ch).tps k }
  (List.range 32).foldl (fun s l =>
    let i := l / 2
    let tp := s.siTp i (l % 2)
    let high := if l % 2 = 0 then (s.safeIn ch i).a else (s.safeIn ch i).b
    if s.siMode i != 0 && tp != 0 && high && (tp == k + 1) != low.contains l then s.siFault ch i (l % 2) 2 else s) s

/-! ### Continuity -/

/-- The fields of the state words in which two channels differ: 0 lines, 1 faults, 2 STO, 3 SS1 running (R421). -/
def State.wordDiff (s : State) (x y : SafeCh) : List Nat :=
  let used := (List.range 16).filter (fun i => s.siMode i != 0)
  let inp := fun (c : SafeCh) (i : Nat) => (getD c.ins i {} : SafeIn)
  let run := fun (c : SafeCh) (g : Nat) => (getD c.ss1 g {} : Ss1).st == 1
  [(0, used.any (fun i => (inp x i).a != (inp y i).a || (inp x i).b != (inp y i).b)),
   (1, used.any (fun i => ((inp x i).fault != 0) != ((inp y i).fault != 0))),
   (2, x.dem != y.dem),
   (3, [0, 1, 2, 3].any (fun g => run x g != run y g))].filterMap (fun p => if p.2 then some p.1 else none)

/-- The state words are exchanged at the end of an SFP cycle, SHL's as it stood at the cycle's start (R408,
R421). -/
def State.wordExchange (s : State) (shl0 : SafeCh) : State :=
  let bad := s.wordDiff s.saf.sfp shl0
  let mis := ([0, 1, 2, 3].map (fun f => (f, if bad.contains f then getD s.saf.mis f 0 + 1 else 0)))
  let early := mis.find? (fun x => s.sf 2 1 < x.2)
  let v := s.saf
  let s := s.setSaf { v with
    mis := mis
    misCnt := if bad.isEmpty || early.isSome then v.misCnt else satInc 65535 v.misCnt
    match3 := if bad.isEmpty then satInc 3 v.match3 else if v.match3 = 3 then 3 else 0
    shl := { v.shl with word := some s.now, seen := v.sfp.own }
    sfp := { v.sfp with word := some s.now, seen := shl0.own } }
  let s := match early with
    | some x => (s.safeFault 0 1 25 x.1).safeFault 1 1 0 0
    | none => s
  s.chanUpdate 0

/-- No state word within 2 × t_cyc of the last one (R421). -/
def State.wordLate (s : State) (ch : Nat) : Bool :=
  match (s.safeCh ch).word with
  | some w => w + 2 * s.sfpCyc ≤ s.now
  | none => false

/-! ### Speed plausibility and the SS1 slots -/

/-- R423 for group g. -/
def State.plausible (s : State) (g : Nat) : State :=
  let x := s.tap g
  let b := tgBase g
  let w := s.sf (b + 2) 2
  let n4 := (s.srcRpm (s.tgRsv g)).natAbs * 4 * w
  let r := x.last * 20000
  if s.tgTap g = 255 || s.tgRsv g = 255 then s
  else if r < s.sf (b + 20) 2 * w then s.setTap g { x with fails := 0, passT := none }
  else if s.sf (b + 16) 2 * r ≤ n4 && n4 ≤ s.sf (b + 18) 2 * r then
    match x.passT with
    | none => s.setTap g { x with fails := 0, passT := if x.bad then some s.now else none }
    | some p =>
      if p + ticksPerS ≤ s.now then s.setTap g { x with fails := 0, bad := false, passT := none }
      else s.setTap g { x with fails := 0 }
  else
    let f := satInc 3 x.fails
    (s.setTap g { x with fails := f, bad := x.bad || f == 3, passT := none }).raiseIf (f == 3 && x.fails == 2) 27 [g, n4 / r]

/-- SFP writes the SS1 slot of group g: 0x7FFF from recognition until the group leaves STO (R417). -/
def State.ss1Slot (s : State) (g : Nat) : State :=
  if s.tgCtx g ≤ 191 && s.tgSlot g ≤ 15 && s.up dCtrl then
    s.hostPutAt (s.tgCtx g) (s.tgSlot g) (if (s.ss1 1 g).st != 0 then 0x7FFF else 0)
  else s

/-! ### The check of a configuration (R427, R454) -/

/-- First of a list of checks that fails, by its number. -/
def firstFail (l : List Bool) : Option Nat := (List.range l.length).find? (fun i => !l.getD i true)

/-- An input of the SAFE section that breaks its range; fields of an unused input are not judged. -/
def siBad (b : List Nat) (i : Nat) : Bool :=
  let f := fun (o k : Nat) => field b (8 + 16 * i + o) k
  let tpOk := fun (tp : Nat) => tp == 0 || field b (0x108 + 4 * (tp - 1) + 2) 2 + 100 ≤ f 8 2 * 100
  !(f 0 1 ≤ 2) || (f 0 1 != 0 &&
    !(f 1 1 ≤ 2 && f 2 1 < 64 && (f 1 1 != 1 || f 2 1 < 16) && f 3 1 ≤ 1 && f 4 1 ≤ 4 && f 5 1 ≤ 4 && f 6 1 ≤ 15
      && f 7 1 == 0 && 5 ≤ f 8 2 && f 8 2 ≤ 200 && 5 ≤ f 10 2 && f 10 2 ≤ 1000 && f 12 4 == 0
      && tpOk (f 4 1) && tpOk (f 5 1)))

/-- Traction group g lacks a field that SS1 needs (R427). -/
def tgLacks (b : List Nat) (g : Nat) : Bool :=
  field b (tgBase g) 1 == 255 || field b (tgBase g + 1) 1 == 255 || field b (tgBase g + 22) 1 == 255
  || field b (tgBase g + 23) 1 == 255

/-- A traction group of the SAFE section that breaks its range; times of a group without tap and resolver
are not judged. -/
def tgBad (b : List Nat) (g : Nat) : Bool :=
  let f := fun (o k : Nat) => field b (tgBase g + o) k
  let unused := f 0 1 == 255 && f 1 1 == 255
  !((f 0 1 ≤ 15 || f 0 1 == 255) && (f 1 1 ≤ 3 || f 1 1 == 255) && (f 22 1 ≤ 15 || f 22 1 == 255)
    && (f 23 1 ≤ 191 || f 23 1 == 255) && f 24 8 == 0 && f 16 2 ≤ f 18 2
    && (unused || (1 ≤ f 2 2 && f 2 2 ≤ 20000 && 100 ≤ f 4 2 && f 4 2 ≤ 60000 && 10 ≤ f 6 2 && f 6 2 ≤ 6000)))

/-- An SS1 input or connection mask names a group that lacks a field. -/
def ss1Lacks (b : List Nat) (mask : Nat) : Bool := [0, 1, 2, 3].any (fun g => bitAt mask g && tgLacks b g)

/-- An enabled entry of the BSL section, or a disabled one that is not all 0, breaks Table 18.4. -/
def cnBad (safe b : List Nat) (c : Nat) : Bool :=
  let f := fun (o k : Nat) => field b (cnBase c + o) k
  let out := bitAt (f 0 1) 1
  let idOk := fun (o : Nat) => bits (f o 4) 30 29 == 0
  if !bitAt (f 0 1) 0 then f 0 32 != 0
  else !(f 0 1 < 8 && f 1 1 ≤ 5 && (f 2 1 ≤ 15 || f 2 1 == 255) && 1 ≤ f 3 1 && f 3 1 ≤ 15 && idOk 4 && idOk 8
    && f 12 8 != 0 && 10 ≤ f 20 2 && f 20 2 ≤ 10000 && f 20 2 < f 22 2 && f 22 2 ≤ f 24 2 && 20 ≤ f 24 2
    && f 24 2 ≤ 20000 && 1 ≤ f 26 1 && f 26 1 ≤ 15 && 1 ≤ f 27 1 && f 27 1 ≤ 8 && f 28 1 < 64 && f 29 1 < 16
    && f 30 2 == 0 && (if out then f 28 1 == 0 && f 29 1 == 0 else f 28 1 != 0 || f 29 1 != 0)
    && !ss1Lacks safe (f 29 1))

/-- Two enabled connections share a uid, or an identifier on one controller (R454). -/
def cnClash (b : List Nat) : Bool :=
  let on := conns.filter (fun c => bitAt (field b (cnBase c) 1) 0)
  let ids := (on.map (fun c => [(field b (cnBase c + 1) 1, field b (cnBase c + 4) 4),
                                (field b (cnBase c + 1) 1, field b (cnBase c + 8) 4)])).flatten
  let uids := on.map (fun c => field b (cnBase c + 12) 8)
  !decide ids.Nodup || !decide uids.Nodup

/-- The first entry and field of a configuration that fails: entry 0 the head, 1 + i an input, 17 the
test pulses, 18 + g a traction group, 22 + c a connection, 54 a clash, 55 a HOST slot of another writer. -/
def State.safeBad (s : State) (safe bsl : List Nat) : Option Nat :=
  let h := fun (o k : Nat) => field safe o k
  let head := safe.length == 408 && bsl.length == 1032 && 5 ≤ h 0 2 && h 0 2 ≤ 40 && 1 ≤ h 2 1 && h 2 1 ≤ 3
    && h 3 1 < 64 && h 4 1 < 64 && h 5 1 ≤ 1 && h 6 1 ≤ 15 && h 7 1 == 0
    && field bsl 0 1 == 32 && field bsl 3 5 == 0
  let tps := [0, 1, 2, 3].all (fun k => 10 ≤ h (0x108 + 4 * k) 2 && h (0x108 + 4 * k) 2 ≤ 1000
    && 200 ≤ h (0x10A + 4 * k) 2 && h (0x10A + 4 * k) 2 ≤ 2000)
  let inputs := (List.range 16).map (fun i => !siBad safe i
    && !(field safe (8 + 16 * i) 1 != 0 && field safe (9 + 16 * i) 1 == 1 && ss1Lacks safe (field safe (10 + 16 * i) 1)))
  let groups := (List.range 4).map (fun g => !tgBad safe g)
  let cns := conns.map (fun c => !cnBad safe bsl c)
  let slots := (List.range 4).all (fun g =>
    let c := field safe (tgBase g + 23) 1
    let j := field safe (tgBase g + 22) 1
    c == 255 || j == 255 || !(s.ppmOwns c j
      || (s.gbxEn && s.gbxCtxs.contains c && (j == s.facSlot || j == s.syncSlot))))
  firstFail ([head] ++ inputs ++ [tps] ++ groups ++ cns ++ [!cnClash bsl, slots])

/-- Connections leave CLOSED once the configuration is active and confirmed (Table 18.3); cseq starts from
the device time (R447). -/
def State.connOpen (s : State) (c : Nat) : State :=
  let s := s.connGo c .opening 0
  s.setConn c { s.conn c with begun := false, run := 0, cseq := s.now % 65536, named := [], dl := 0
                              next := s.now + s.cnProd c }

/-- BSL starts (Table 18.3). -/
def State.bslOpen (s : State) : State :=
  if s.chanUp 1 && s.safeLive && !s.saf.sfp.fault then
    (conns.filter (fun c => s.cnEn c && (s.conn c).st == .closed)).foldl (fun s c => s.connOpen c) s
  else s

/-- SAF_STAT.state: 0 START, 1 RUN, 2 CFG_PENDING, 3 SAFE_FAULT, 4 NO_CFG (Table 17.7). -/
def State.safeState (s : State) : Nat :=
  if s.saf.shl.fault || s.saf.sfp.fault then 3
  else if s.saf.cfg.isNone then 4
  else if !s.safeLive then 2
  else if s.safeStarted 0 && s.safeStarted 1 then 1 else 0

/-- Both domains have been reset: a loaded bank becomes active if its check passes; every group waits for
the resets that MANUAL restarts ask for (R422, R427, R428, R430). -/
def State.safeActivate (s : State) : State :=
  let v := s.saf
  let cur := if v.loaded then 1 - v.cur else v.cur
  let b := v.banks.find? (fun x => x.1 == cur)
  let bad := match b with
    | some x => s.safeBad x.2.safe x.2.bsl
    | none => some 255
  let cfg := if bad.isSome then none else b.map (·.2)
  let s := s.setSaf { banks := v.banks, cur := cur, cfg := cfg, cfgCause := match bad with
                                                                            | some n => if b.isNone then 1 else n + 2
                                                                            | none => 0
                      dbg := v.dbg, next := s.now }
  let ws := fun (ch : Nat) => ((List.range 6).map (fun k => (s.manualAll ch k).map (fun i => (k, i)))).flatten
  let s := s.setSaf { s.saf with shl := { waits := ws 0 }, sfp := { waits := ws 1 }
                                 taps := (List.range 4).map (fun g => (g, { next := s.now + s.tgW g })) }
  let s := (List.range 6).foldl (fun s k => s.linesOpen k) s
  s.setSaf { s.saf with readAt := [] }

end Sys2Proof.Machine
end

