-- ==== Sys2Proof/Machine/BslOps.lean ====
section
/-! DEFINITION. The Baronold safety layer (chapter 18): frames, their judgement and the connection states,
as shared operations. -/

namespace Sys2Proof.Machine

/-- One bit of the reflected CRC-32C. -/
def crcBit (c : Nat) : Nat := if c % 2 = 1 then (c / 2) ^^^ 0x82F63B78 else c / 2

/-- One byte of the reflected CRC-32C. -/
def crcByte (c b : Nat) : Nat := (List.range 8).foldl (fun c _ => crcBit c) (c ^^^ (b % 256))

/-- CRC-32C (R440). -/
def crc32c (l : List Nat) : Nat := (l.foldl crcByte 0xFFFFFFFF) ^^^ 0xFFFFFFFF

/-- A safety frame of type ty, 1 DATA or 2 ACK (Table 18.1). -/
def State.bslFrame (s : State) (c ty flags seq echo data : Nat) : List Nat :=
  let l := [0x10 + ty, flags] ++ leBytes 2 seq ++ leBytes 2 echo ++ leBytes 2 data ++ [0, 0, 0, 0]
  l ++ leBytes 4 (crc32c (s.cnUid c ++ l))

/-- Why a received frame is bad: 1 by its length, SDT, VCID, version or type (R439), 2 by its check value
(R440). -/
def State.bslBad (s : State) (c : Nat) (f : SafeFrame) : Option Nat :=
  if !f.good || f.bytes.length != 16 then some 1
  else if crc32c (s.cnUid c ++ f.bytes.take 12) != field f.bytes 12 4 then some 2
  else if field f.bytes 0 1 != 0x10 + (if s.cnOut c then 2 else 1) then some 1
  else none

/-- A connection enters FAULT: 1 WATCHDOG, 2 SEQUENCE, 3 CRC, 4 FAIL_SAFE; EV218 on OUT (R447, R449). -/
def State.connFault (s : State) (c cause : Nat) : State :=
  let x := s.conn c
  let s := s.setConn c { x with cause := cause, fltT := s.now, fltCnt := satInc 255 x.fltCnt }
  (s.connGo c .fault cause).raiseIf (s.cnOut c) 218 [c]

/-- The connection is judged: OPENING or OPEN. -/
def Conn.live (x : Conn) : Bool := x.st == .opening || x.st == .opn

/-- A bad frame (R446). -/
def State.frameIsBad (s : State) (c kind sof : Nat) : State :=
  let x := s.conn c
  let bads := sof :: x.bads.filter (fun t => sof ≤ t + ticksPerS)
  let ev := x.ev217 = 0 || x.ev217 - 1 + ticksPerS ≤ s.now
  let s := (s.setConn c { x with crcCnt := satInc 255 x.crcCnt, bads := bads
                                 ev217 := if ev then s.now + 1 else x.ev217 }).raiseIf ev 217 [c, kind]
  if s.cnCrcMax c < bads.length && x.live then s.connFault c 3 else s

/-- BSL queues one ACK for the frame of sequence number seq (R444). -/
def State.ackQueue (s : State) (c seq : Nat) : State :=
  let x := s.conn c
  let q := (x.cseq + 1) % 65536
  s.setConn c { x with
    cseq := q
    named := x.named.filter (fun n => match n.2 with
                                      | some t => s.now < t + s.cnExp c
                                      | none => true) ++ [(q, none)]
    tx := x.tx ++ [s.bslFrame c 2 0 q seq 0]
    txAt := x.txAt ++ [s.now] }

/-- OPENING ends after open_n consecutive accepted frames (Table 18.3). -/
def State.connRun (s : State) (c : Nat) : State :=
  let x := s.conn c
  let s := s.setConn c { x with run := x.run + 1 }
  if x.st == .opening && s.cnOpenN c ≤ x.run + 1 then s.connGo c .opn 0 else s

/-- The frame is discarded: it breaks a run of accepted ones. -/
def State.connDrop (s : State) (c : Nat) (x : Conn) : State := s.setConn c { x with run := 0 }

/-- Data of an accepted DATA frame (R441). -/
def dataOf (f : SafeFrame) : Nat := if bitAt (field f.bytes 1 1) 1 then 0 else field f.bytes 6 2

/-- The START frame that opens an IN connection, accepted without R442 and R443 (Table 18.3). -/
def State.inStart (s : State) (c : Nat) (f : SafeFrame) : State :=
  let q := field f.bytes 2 2
  (s.setConn c { s.conn c with last := q, data := dataOf f, dl := f.sof + s.cnWd c, begun := true, run := 0 }).ackQueue c q

/-- The resets of R448 from an accepted frame: bit 2 rises. -/
def State.connReset (s : State) (c old : Nat) : State :=
  if !bitAt old 2 && bitAt (s.conn c).data 2 then s.giveReset 1 (fun item => item == 32 + c) else s

/-- A DATA frame accepted by R444. -/
def State.inAccept (s : State) (c : Nat) (f : SafeFrame) : State :=
  let x := s.conn c
  let q := field f.bytes 2 2
  let s := (s.setConn c { x with last := q, data := dataOf f, dl := f.sof + s.cnWd c }).ackQueue c q
  let s := (s.connRun c).connReset c x.data
  if x.st == .opn && bitAt (field f.bytes 1 1) 1 then s.connFault c 4 else s

/-- An echo names a frame sent on this connection less than t_exp before tick t (R443, R449). -/
def State.echoOk (s : State) (c echo t : Nat) : Bool :=
  (s.conn c).named.any (fun n => n.1 == echo && (match n.2 with
                                                  | some sof => t < sof + s.cnExp c
                                                  | none => false))

/-- One DATA frame on an IN connection (R442 to R446, Table 18.3). -/
def State.inFrame (s : State) (c : Nat) (f : SafeFrame) : State :=
  let x := s.conn c
  let start := bitAt (field f.bytes 1 1) 0
  let d := (field f.bytes 2 2 + 65536 - x.last) % 65536
  match x.st with
  | .closed => s
  | .fault => if start && x.fltT + s.cnWd c ≤ f.sof then (s.connOpen c).inStart c f else s
  | _ =>
    if !x.begun then (if start then s.inStart c f else s)
    else if d = 0 || 32768 ≤ d then s.connDrop c { x with repCnt := satInc 255 x.repCnt }
    else if s.cnGap c < d then s.connFault c 2
    else if !s.echoOk c (field f.bytes 4 2) s.now then s.connDrop c { x with staleCnt := satInc 255 x.staleCnt }
    else if x.dl ≤ f.sof then s
    else s.inAccept c f

/-- An ACK accepted on an OUT connection (R449). -/
def State.outAccept (s : State) (c : Nat) (f : SafeFrame) : State :=
  let q := field f.bytes 2 2
  (s.setConn c { s.conn c with last := q, cseq := q, echo := q, dl := f.sof + s.cnWd c, begun := true }).connRun c

/-- One ACK frame on an OUT connection (R442, R445, R449, Table 18.3). -/
def State.outFrame (s : State) (c : Nat) (f : SafeFrame) : State :=
  let x := s.conn c
  let q := field f.bytes 2 2
  let d := (q + 65536 - x.last) % 65536
  let names := s.echoOk c (field f.bytes 4 2) f.sof
  match x.st with
  | .closed => s
  | .fault =>
    if names && x.fltT + s.cnWd c ≤ f.sof then
      let s := s.connOpen c
      (s.setConn c { s.conn c with last := q, cseq := q, echo := q, dl := f.sof + s.cnWd c, begun := true, named := x.named })
    else s
  | _ =>
    if !x.begun then
      (if names then s.setConn c { x with last := q, cseq := q, echo := q, dl := f.sof + s.cnWd c, begun := true, run := 0 } else s)
    else if d = 0 || 32768 ≤ d then s.connDrop c { x with repCnt := satInc 255 x.repCnt }
    else if s.cnGap c < d then s.connFault c 2
    else if !names then s.connDrop c { x with staleCnt := satInc 255 x.staleCnt, echo := q }
    else if x.dl ≤ f.sof then s
    else s.outAccept c f

/-- Judge one received frame (R439, R440, R446). -/
def State.bslJudge (s : State) (c : Nat) (f : SafeFrame) : State :=
  if (s.conn c).st == .closed then s
  else match s.bslBad c f with
    | some kind => s.frameIsBad c kind f.sof
    | none => if s.cnOut c then s.outFrame c f else s.inFrame c f

/-- Insert a frame by its start-of-frame tick, equal ones in the order they came. -/
def insFrame (f : SafeFrame) (l : List SafeFrame) : List SafeFrame :=
  match l with
  | [] => [f]
  | g :: r => if f.sof < g.sof then f :: g :: r else g :: insFrame f r

/-- The watchdog of a connection that has been judged once (R445). -/
def State.connWatch (s : State) (c : Nat) : State :=
  let x := s.conn c
  if x.live && x.begun && x.dl ≤ s.now then s.connFault c 1 else s

/-- The frames of connection c whose reception completed before the cycle, in ascending start of frame, then
its watchdog (R442 to R445). -/
def State.bslConn (s : State) (c : Nat) : State :=
  let x := s.conn c
  let (now, later) := x.rx.partition (fun f => f.fin < s.now)
  let s := s.setConn c { x with rx := later }
  ((now.foldl (fun l f => insFrame f l) []).foldl (fun s f => s.bslJudge c f) s).connWatch c

/-- BSL in one SFP cycle. -/
def State.bslCycle (s : State) : State :=
  if s.safeLive && !s.saf.sfp.fault then (conns.filter s.cnEn).foldl (fun s c => s.bslConn c) s else s

/-- The state that an OUT connection sends (Table 18.2). -/
def State.outData (s : State) : Nat :=
  let sto := (List.range 6).filter s.inSto
  b2n sto.isEmpty + 2 * b2n (!s.saf.shl.fault && !s.saf.sfp.fault) + (sto.map (fun k => 2 ^ (k + 2))).sum

/-- An OUT connection queues a DATA frame (R449, Table 18.3). -/
def State.outSend (s : State) (c : Nat) : State :=
  let x := s.conn c
  let q := (x.seq + 1) % 65536
  let data := if x.st == .opn then s.outData else 0
  s.setConn c { x with
    seq := q, data := data, next := nextMultiple x.next (s.cnProd c) s.now
    named := x.named.filter (fun n => match n.2 with
                                      | some t => s.now < t + s.cnExp c
                                      | none => true) ++ [(q, none)]
    tx := x.tx ++ [s.bslFrame c 1 (if x.st == .opn then 0 else 1) q x.echo data]
    txAt := x.txAt ++ [s.now] }

/-- The first frame of connection c that has not been sent yet gets its start-of-frame tick. -/
def nameSent (sof : Nat) (l : List (Nat × Option Nat)) : List (Nat × Option Nat) :=
  match l with
  | [] => []
  | (q, some t) :: r => (q, some t) :: nameSent sof r
  | (q, none) :: r => (q, some sof) :: r

/-- The oldest queued frame of connection c has been sent (R443, R449). -/
def State.bslSent (s : State) (c sof : Nat) : State :=
  let x := s.conn c
  s.setConn c { x with tx := x.tx.drop 1, txAt := x.txAt.drop 1, named := nameSent sof x.named }

/-- A frame for connection c has been received (R439). -/
def State.bslReceived (s : State) (c : Nat) (f : SafeFrame) : State :=
  s.setConn c { s.conn c with rx := (s.conn c).rx ++ [f] }

/-- One SFP cycle: late words, a diagnostic that fails, BSL, plausibility, demands, SS1, the SS1 slots and the
word exchange (R405 to R423, R442 to R449). -/
def State.sfpCycle (s : State) (diag : Nat) : State :=
  let shl0 := s.saf.shl
  let s := [0, 1].foldl (fun s ch => if s.chanUp ch && s.wordLate ch then s.safeFault ch 1 25 4 else s) s
  let s := if diag = 5 || diag = 7 || diag = 8 then s.safeFault 1 diag 30 diag
           else s.setSafeCh 1 { s.safeCh 1 with tested := true }
  let s := s.bslCycle
  let s := (List.range 4).foldl (fun s g => s.plausible g) s
  let s := s.chanUpdate 1
  let s := (List.range 4).foldl (fun s g => if (s.ss1 1 g).st = 1 then s.sfpJudge g else s) s
  let s := (List.range 4).foldl (fun s g => s.ss1Slot g) s
  let s := if s.up dShl && s.saf.cfg.isSome then s.wordExchange shl0 else s
  let v := s.saf
  (s.setSaf { v with next := nextMultiple v.next s.sfpCyc s.actTick, cycAt := s.now
                     cycles := (v.cycles + 1) % 65536 }).safeSync

end Sys2Proof.Machine
end

