-- ==== Sys2Proof/Machine/MbxOps.lean ====
section
/-! DEFINITION. The mailbox channels (chapter 20): binding, posting, acknowledging and clearing, as shared
operations. -/

namespace Sys2Proof.Machine

def State.mbxCh (s : State) (c : Nat) : Mbx := getD s.mbx c {}
def State.setMbx (s : State) (c : Nat) (v : Mbx) : State := { s with mbx := put s.mbx c v }

def mbxBase (c : Nat) : Nat := 0x5C00 + 8 * c

/-- Sender identity of channel c (Tables 20.2 and 20.4). -/
def State.mbxSnd (s : State) (c : Nat) : Nat :=
  if c < 48 then s.fld (mbxBase c) 23 20 else if c < 52 then 9 else if c < 56 then c - 50 else if c < 60 then 1 else 10

/-- Receiver identity of channel c (Tables 20.2 and 20.4). -/
def State.mbxRcv (s : State) (c : Nat) : Nat :=
  if c < 48 then s.fld (mbxBase c) 19 16 else if c < 52 then c - 46 else if c < 56 then 9 else if c < 60 then c - 54 else c - 58

def State.mbxWake (s : State) (c : Nat) : Bool := c < 48 && s.rb (mbxBase c) 30
def State.mbxCk4 (s : State) (c : Nat) : Bool := c < 48 && s.rb (mbxBase c) 29
def State.mbxTo (s : State) (c : Nat) : Nat := if c < 48 then s.fld (mbxBase c + 4) 23 0 else 0

/-- The domain of a master; none for the host (Table 20.1). -/
def masterDom (id : Nat) : Option Nat :=
  match id with
  | 1 => some dSfp
  | 2 => some dApp
  | 3 => some dApp
  | 4 => some dApp
  | 5 => some dApp
  | 6 => some dCtrl
  | 7 => some dImpl
  | 8 => some dCtrl
  | 9 => some dHost
  | 10 => some dAon
  | _ => none

/-- Channel c breaks R493. -/
def State.mbxBad (s : State) (c : Nat) : Bool :=
  let a := s.mbxSnd c
  let b := s.mbxRcv c
  a == b || 11 ≤ a || 11 ≤ b || !((a == 0 && 2 ≤ b && b ≤ 5) || (b == 0 && (a == 8 || a == 9 || a == 10)))
  || (s.mbxWake c && !(2 ≤ b && b ≤ 5))

/-- Channel c is bound and passes its check, so that it is enabled from the lock on (R493). -/
def State.mbxWill (s : State) (c : Nat) : Bool := s.rb (mbxBase c) 31 && !s.mbxBad c

/-- Channel c is enabled: fixed, or bound at lock without a fault (R493). -/
def State.mbxEn (s : State) (c : Nat) : Bool :=
  c < 64 && (48 ≤ c || (s.lock.done && s.rb (mbxBase c) 31 && !(s.mbxCh c).bad))

/-- Channels with en = 1 that fail the check at lock stay disabled, with EV204 (R493). -/
def State.mbxLockCheck (s : State) : State × Bool :=
  (List.range 48).foldl (fun x c =>
    if x.1.rb (mbxBase c) 31 && x.1.mbxBad c then ((x.1.setMbx c { x.1.mbxCh c with bad := true }).raise 204 [c], true)
    else x) (s, false)

/-- A status has become final: the register shows it, and a waiting MBX_POST is completed (R496, R500). -/
def State.mbxFinal (s : State) (c : Nat) (f : MbxFinal) (st : Status) (done : Nat) : State :=
  let x := s.mbxCh c
  let s := s.setMbx c { x with final := f, lateAck := false, post := none }
  match x.post with
  | some (sq, id) => s.decide sq id st 0 done
  | none => s

/-- The deadline of a PENDING message has passed (R498 to R500). -/
def State.mbxDue (s : State) (c : Nat) : Bool :=
  let x := s.mbxCh c
  x.slot == .pending && (match x.deadline with
                         | some d => d ≤ s.now
                         | none => false)

/-- TIMED_OUT becomes final (R500). -/
def State.mbxTimeOut (s : State) (c : Nat) : State :=
  if s.mbxDue c then
    let x := s.mbxCh c
    let s := s.setMbx c { x with slot := .unconsumed, toCnt := satInc 255 x.toCnt }
    (s.mbxFinal c .timedOut .timedOut (x.deadline.getD s.now)).raise 201 [c, x.tag]
  else s

/-- A message is placed in the slot (R494, R497, R498); us is its timeout. -/
def State.mbxPut (s : State) (c ptr tag us : Nat) (post : Option (Nat × Nat)) : State :=
  let x := s.mbxCh c
  let s := s.setMbx c { x with
    slot := .pending, ptr := ptr, tag := tag, post := post, postCnt := satInc 255 x.postCnt
    deadline := if us = 0 then none else some (s.now + us * ticksPerUs) }
  s.raiseIf (s.mbxRcv c == 0) 200 [c, ptr % 2 ^ 32, ptr / 2 ^ 32, tag]

/-- An internal sender posts a notice; while the slot is PENDING the notice waits (notes/assumptions/70.md). -/
def State.mbxNotice (s : State) (c ptr tag : Nat) : State :=
  let s := s.mbxTimeOut c
  let x := s.mbxCh c
  if !s.mbxEn c || !s.up dHost then s
  else if x.slot == .pending then s.setMbx c { x with kept := x.kept ++ [(ptr, tag)] }
  else s.mbxPut c ptr tag (s.mbxTo c) none

/-- A notice that waits is posted once the slot has been emptied. -/
def State.mbxNext (s : State) (c : Nat) : State :=
  let x := s.mbxCh c
  match x.kept with
  | [] => s
  | (p, g) :: r => if x.slot == .empty then (s.setMbx c { x with kept := r }).mbxPut c p g (s.mbxTo c) none else s

/-- An acknowledgement consumes the message; the answer says whether it was late (R494, R500). -/
def State.mbxConsume (s : State) (c : Nat) : State × Bool :=
  let s := s.mbxTimeOut c
  let x := s.mbxCh c
  if x.slot == .pending then (((s.setMbx c { x with slot := .empty }).mbxFinal c .acked .acked s.now).mbxNext c, false)
  else if x.slot == .unconsumed then
    (((s.setMbx c { x with slot := .empty, lateAck := true }).raise 202 [c, x.tag]).mbxNext c, true)
  else (s, false)

/-- A reset of the receiver's domain clears the slot of a channel with ck4 = 1 (R502). -/
def State.mbxClear (s : State) (c : Nat) : State :=
  let s := s.mbxTimeOut c
  let x := s.mbxCh c
  if x.slot == .pending then
    (((s.setMbx c { x with slot := .empty }).mbxFinal c .aborted .aborted s.now).raise 203 [c, x.tag]).mbxNext c
  else (s.setMbx c { x with slot := .empty }).mbxNext c

/-- Domain d is reset: its ck4 channels clear (R502). -/
def State.mbxDomReset (s : State) (d : Nat) : State :=
  (s.mbx.map (·.1)).foldl (fun s c =>
    if s.mbxEn c && s.mbxCk4 c && masterDom (s.mbxRcv c) == some d && (s.mbxCh c).slot != .empty then s.mbxClear c else s) s

/-- PD_HOST is reset: every slot is emptied, and the MBX and EVR registers hold what they held at
CONFIG_LOCK (R503). -/
def State.mbxHostReset (s : State) : State :=
  { s with mbx := s.mbx.filterMap (fun x => if x.2.bad then some (x.1, { bad := true }) else none)
           evr := { s.evr with cnt := if s.lock.done then s.evr.atLock else [] } }

/-- Every channel of channels 0 to 47 that a master sends to the host on (Table 20.3). -/
def State.mbxFrom (s : State) (id : Nat) : List Nat :=
  (List.range 48).filter (fun c => s.mbxEn c && s.mbxSnd c == id && s.mbxRcv c == 0)

/-- GAF's notice of a domain power change: on channels 60 to 63 and on every channel from ID10 to the host
(R563, Tables 20.2 and 20.3). -/
def State.powerNotice (s : State) (d : Nat) (on : Bool) : State :=
  ((if s.domSt dApp != DomSt.off then [60, 61, 62, 63] else []) ++ s.mbxFrom 10).foldl
    (fun s c => s.mbxNotice c 0 (d + 256 * b2n on)) s

/-- The notice of an ended take (Table 20.3). -/
def State.takeNotice (s : State) (h no addr status : Nat) : State :=
  (s.mbxFrom 9).foldl (fun s c => s.mbxNotice c addr (h + 256 * no + 65536 * (status % 256))) s

end Sys2Proof.Machine
end

