-- ==== Sys2Proof/Machine/CanOps.lean ====
section
/-! DEFINITION. The CAN controllers (chapter 21): checks, message memory, error states, queues and the ISOBUS
role, as shared operations. -/

namespace Sys2Proof.Machine

def State.can (s : State) (k : Nat) : Can := getD s.cans k {}
def State.setCan (s : State) (k : Nat) (v : Can) : State := { s with cans := put s.cans k v }
def State.canObj (s : State) (k o : Nat) : CanObj := getD (s.can k).objs o {}
def State.setCanObj (s : State) (k o : Nat) (v : CanObj) : State :=
  s.setCan k { s.can k with objs := put (s.can k).objs o v }
def State.canQ (s : State) (k q : Nat) : CanQ := getD (s.can k).qs q {}
def State.setCanQ (s : State) (k q : Nat) (v : CanQ) : State := s.setCan k { s.can k with qs := put (s.can k).qs q v }

def canBase (k : Nat) : Nat := 0x5400 + 0x100 * k
def qBase (k q : Nat) : Nat := canBase k + 0x40 + 0x18 * q

/-- role ISOBUS. -/
def State.isobus (s : State) (k : Nat) : Bool := s.rb (canBase k) 26
def State.boffAuto (s : State) (k : Nat) : Bool := s.rb (canBase k) 24
def State.retryMax (s : State) (k : Nat) : Nat := s.fld (canBase k) 23 16
def State.qEn (s : State) (k q : Nat) : Bool := s.rb (qBase k q) 31
def State.qFirst (s : State) (k q : Nat) : Nat := s.fld (qBase k q) 24 18
def State.qN (s : State) (k q : Nat) : Nat := s.fld (qBase k q) 17 10
def State.qMbx (s : State) (k q : Nat) : Nat := s.fld (qBase k q) 7 0

/-- Bytes of an entry of class c (Table 21.2). -/
def clsSize (c : Nat) : Nat := if c = 0 then 32 else if c = 1 then 88 else 2072

/-- The enabled queue that holds object o. -/
def State.queueOf (s : State) (k o : Nat) : Option Nat :=
  (List.range 8).find? (fun q => s.qEn k q && s.qFirst k q ≤ o && o < s.qFirst k q + s.qN k q)

/-- Owner of object o: 0 host send, 1 queue entry, 2 SXE, 3 BSL, 4 ISOBUS (Table 21.5). -/
def State.objOwner (s : State) (k o : Nat) : Nat :=
  match (s.can k).users.find? (fun x => x.1 == o) with
  | some x => x.2.1
  | none => if (s.queueOf k o).isSome then 1 else 0

/-! ### The check at lock (R513, Table 21.1) -/

/-- A bit timing within its ranges: brp, tseg1, tseg2 and sjw, and the shortest bit in kernel clocks. -/
def timingOk (brp t1 t2 sjw t1lo t1hi t2hi short : Nat) : Bool :=
  1 ≤ brp && brp ≤ 32 && t1lo ≤ t1 && t1 ≤ t1hi && 1 ≤ t2 && t2 ≤ t2hi && 1 ≤ sjw && sjw ≤ t2 && short ≤ brp * (1 + t1 + t2)

/-- The users of controller k's reserved objects, from object 127 downward (R513). -/
def State.canUsers (s : State) (k : Nat) : List (Nat × Nat) :=
  let bsl := if s.safeLive then conns.filter (fun c => s.cnEn c && s.cnCan c == k) else []
  let rns := s.rns.filter (fun j => s.rnCan j == k)
  (if s.isobus k then [(4, 0), (4, 1), (4, 1)] else [])
  ++ (bsl.map (fun c => [(3, 2 * c), (3, 2 * c + 1)])).flatten
  ++ (if rns.isEmpty then [] else [(2, 16)])
  ++ (rns.map (fun j => List.replicate (s.rnDepth j) (2, j))).flatten

/-- Register of queue q of controller k that fails; lo is rsv_lo. -/
def State.queueBad (s : State) (k lo q : Nat) : Option Nat :=
  let b := qBase k q
  let m := s.qMbx k q
  let meets := fun (p : Nat) => p != q && s.qEn k p && s.qFirst k p < s.qFirst k q + s.qN k q && s.qFirst k q < s.qFirst k p + s.qN k p
  if !s.qEn k q then none
  else if s.fld b 30 29 = 3 || s.qN k q = 0 || 128 < s.qN k q || lo < s.qFirst k q + s.qN k q || (List.range 8).any meets
    || (m != 255 && !(m ≤ 47 && s.mbxWill m && s.mbxSnd m == 8 && s.mbxRcv m == 0)) then some b
  else if s.reg (b + 12) % 64 != 0 then some (b + 12)
  else none

/-- First register of controller k that fails. -/
def State.canBad (s : State) (k : Nat) : Option Nat :=
  let b := canBase k
  let fd := s.rb b 28
  let xl := s.rb b 27
  let f := fun (o hi lo : Nat) => s.fld (b + o) hi lo
  if f 0 30 29 = 3 then some b
  else if !timingOk (f 4 31 26) (f 4 25 17) (f 4 16 9) (f 4 8 1) 2 256 128 0 then some (b + 4)
  else if fd && !timingOk (f 8 31 26) (f 8 25 20) (f 8 19 15) (f 8 14 10) 1 32 16 10 then some (b + 8)
  else if xl && !timingOk (f 12 31 26) (f 12 25 20) (f 12 19 15) (f 12 14 10) 1 32 16 8 then some (b + 12)
  else if xl && !(1 ≤ f 16 31 26 && 1 ≤ f 16 25 20
      && f 16 31 26 + f 16 25 20 == f 12 31 26 * (1 + f 12 25 20 + f 12 19 15)) then some (b + 16)
  else if s.isobus k && !(128 ≤ f 0x1C 15 8 && f 0x1C 15 8 ≤ f 0x1C 23 16 && f 0x1C 23 16 ≤ 247 && f 0x1C 7 0 ≤ 253) then some (b + 0x1C)
  else ((List.range 8).filterMap (s.queueBad k (128 - (s.canUsers k).length))).head?

/-- The reserved objects of controller k (R513). -/
def State.canReserve (s : State) (k : Nat) : State :=
  let us := s.canUsers k
  s.setCan k { s.can k with rsvLo := 128 - us.length
                            users := (us.zip (List.range us.length)).reverse.map (fun u => (127 - u.2, u.1)) }

/-- Objects are reserved, and controllers with en = 1 checked; the mailboxes have been checked before (R513). -/
def State.canLockCheck (s : State) : State × Bool :=
  (List.range 6).foldl (fun x k =>
    let s := x.1.canReserve k
    if !s.rb (canBase k) 31 then (s, x.2)
    else
      match s.canBad k with
      | some r => (s.raise 199 [k, r], true)
      | none => (s.setCan k { s.can k with armed := true }, x.2)) (s, false)

/-! ### States and errors (R508 to R511) -/

/-- CANk_STAT.state (Table 21.3). -/
def CanSt.code : CanSt → Nat
  | .stopped => 0
  | .integrating => 1
  | .active => 2
  | .passive => 3
  | .busOff => 4
  | .failed => 5

/-- The controller takes part in the traffic of its bus. -/
def Can.onBus (c : Can) : Bool := c.st == .active || c.st == .passive

/-- A change of state raises EV192 (R508). -/
def State.canGo (s : State) (k : Nat) (x : CanSt) : State :=
  let c := s.can k
  if c.st == x then s else (s.setCan k { c with st := x }).raise 192 [k, x.code, min 255 c.tec, min 255 c.rcnt]

/-- The error state that the counters give (R508; notes/assumptions/71.md). -/
def State.canErrors (s : State) (k : Nat) : State :=
  let c := s.can k
  if !c.onBus then s
  else if 256 ≤ c.tec then
    let s := s.canGo k .busOff
    s.setCan k { s.can k with boffCnt := satInc 255 c.boffCnt, check := true }
  else s.canGo k (if 128 ≤ c.tec || 128 ≤ c.rcnt then .passive else .active)

/-- A transmission has received its acknowledge (R511). -/
def State.canSentOk (s : State) (k : Nat) : State :=
  let c := s.can k
  (s.setCan k { c with tec := c.tec - 1, ackRun := 0, noAck := false }).canErrors k

/-- A frame has been received without an error: REC falls; from the error-passive range it returns to a value
from 119 to 127 that the spec leaves open (notes/assumptions/71.md). -/
def State.canRecvOk (s : State) (k : Nat) : State :=
  let c := s.can k
  if c.rcnt ≤ 127 then (s.setCan k { c with rcnt := c.rcnt - 1 }).canErrors k
  else
    let (v, s) := s.freeNat
    (s.setCan k { c with rcnt := 119 + v % 9 }).canErrors k

/-! ### Send objects (R512 to R516) -/

/-- The commands that wait for the frame of an object end with a status (R516). -/
def State.abortsEnd (s : State) (l : List (Nat × Nat)) (st : Status) : State :=
  l.foldl (fun s c => s.decide c.1 c.2 st 0 s.now) s

/-- An object is aborted; its frame will not be sent (Table 21.5). -/
def State.objAbort (s : State) (k o cause : Nat) (ev : Bool) : State :=
  let x := s.canObj k o
  ((s.setCanObj k o { x with st := 3, cause := cause, abort := [] }).abortsEnd x.abort .ok).raiseIf ev 195 [k, o, cause]

/-- The armed host objects of controller k. -/
def State.armedObjs (s : State) (k : Nat) : List Nat := ((s.can k).objs.filter (fun x => x.2.st == 1)).map (·.1)

/-- The order of arbitration: the lower key wins (ISO 11898-1). -/
def arbKey (f : CanFrame) : Nat :=
  let ide := bitAt f.id 31
  let base := if ide then bits f.id 28 18 else bits f.id 10 0
  base * 2 ^ 21 + (if ide then 3 * 2 ^ 19 + bits f.id 17 0 * 2 else 2 ^ 20 * b2n (bitAt f.flags 0))

/-- What an armed object offers to the bus: its frame, the tick of its arming and its place among those armed in one
tick, and the first tick at which it is eligible. -/
structure Offer where
  frame : CanFrame
  armed : Nat
  order : Nat := 0
  since : Nat

/-- The place of reserved object o among the objects of remote node j, from the highest: the frames of a node wait in
its objects in that order (R281; notes/assumptions/42.md). -/
def Can.rnPlace (c : Can) (j o : Nat) : Nat := (c.users.filter (fun x => x.2 == (2, j) && o < x.1)).length

/-- The frame that waits in reserved object o (R513, R517, R522).  A safety frame's layout on the bus is R439's; the
identifier decides its arbitration. -/
def State.rsvOffer (s : State) (k o : Nat) : Option Offer :=
  match (s.can k).users.find? (fun x => x.1 == o) with
  | some (_, 2, 16) =>
    let y : SyncCan := getD s.sxe.syncs k {}
    y.frame.map (fun b => { frame := { id := s.reg 0x4284, fmt := 1, data := b }, armed := y.since, since := y.since })
  | some (_, 2, j) =>
    ((s.rn j).queue[(s.can k).rnPlace j o]?).map (fun f =>
      { frame := { id := s.reg (0x4184 + 0x10 * j), fmt := 1, data := f.bytes }, armed := f.since, order := (s.can k).rnPlace j o
        since := f.since })
  | some (_, 3, w) =>
    let x := s.conn (w / 2)
    let t := x.txAt.headD 0
    if w % 2 = 0 then x.tx.head?.map (fun b =>
      { frame := { id := if s.cnOut (w / 2) then s.cnData (w / 2) else s.cnAck (w / 2), fmt := 1, data := b }, armed := t, since := t })
    else none
  | some (_, 4, w) =>
    if w = 0 then (s.can k).iso.head?.map (fun f => { frame := f, armed := f.time, since := f.time }) else none
  | _ => none

/-- A frame waits in reserved object o. -/
def State.rsvArmed (s : State) (k o : Nat) : Bool := (s.rsvOffer k o).isSome

/-- What object o offers, whoever owns it (R515). -/
def State.offer (s : State) (k o : Nat) : Option Offer :=
  let x := s.canObj k o
  if s.objOwner k o = 0 then
    (if x.st = 1 then some { frame := x.frame, armed := x.armT, order := x.order, since := max x.armT x.frame.time } else none)
  else s.rsvOffer k o

/-- The offer x may be on the bus from tick sof although y waits: y is not eligible yet, loses arbitration, or has the
identifier and format of x and was armed later (R515). -/
def Offer.before (x y : Offer) (sof : Nat) : Bool :=
  Nat.blt sof y.since || Nat.blt (arbKey x.frame) (arbKey y.frame)
  || (arbKey x.frame == arbKey y.frame
      && (x.frame.fmt != y.frame.fmt || Nat.blt x.armed y.armed || (x.armed == y.armed && Nat.ble x.order y.order)))

/-- Object o may have been offered at tick sof: it was eligible, and no other eligible object, whatever its owner, comes
before it (R515). -/
def State.offered (s : State) (k o sof : Nat) : Bool :=
  match s.offer k o with
  | some x => Nat.ble x.since sof
      && (s.armedObjs k ++ (s.can k).users.map (·.1)).all (fun p =>
            p == o || (match s.offer k p with
                       | some y => x.before y sof
                       | none => true))
  | none => false

/-- The frame of a reserved object has left: its user takes note (R281, R285, R443, R522). -/
def State.rsvSent (s : State) (k o sof : Nat) : State :=
  match (s.can k).users.find? (fun x => x.1 == o) with
  | some (_, 2, 16) => s.syncSent k sof
  | some (_, 2, j) => s.rnSent j sof
  | some (_, 3, w) => s.bslSent (w / 2) sof
  | some (_, 4, _) => s.setCan k { s.can k with iso := (s.can k).iso.drop 1 }
  | _ => s

/-- The frame of a reserved object is dropped after its last attempt (R512). -/
def State.rsvDrop (s : State) (k o : Nat) : State :=
  match (s.can k).users.find? (fun x => x.1 == o) with
  | some (_, 2, 16) =>
    s.setSxe { s.sxe with syncs := put s.sxe.syncs k { (getD s.sxe.syncs k {} : SyncCan) with frame := none } }
  | some (_, 2, j) => s.setRn j { s.rn j with queue := (s.rn j).queue.eraseIdx ((s.can k).rnPlace j o) }
  | some (_, 3, w) => s.setConn (w / 2) { s.conn (w / 2) with tx := (s.conn (w / 2)).tx.drop 1, txAt := (s.conn (w / 2)).txAt.drop 1 }
  | some (_, 4, _) => s.setCan k { s.can k with iso := (s.can k).iso.drop 1 }
  | _ => s

/-! ### Frame records (Table 21.2) -/

/-- The frame record in a buffer. -/
def frameOf (l : List Nat) : CanFrame :=
  { id := field l 0 4, fmt := field l 4 1, flags := field l 5 1, time := field l 8 8, af := field l 16 4
    sdt := field l 20 1, vcid := field l 21 1, data := (l.drop 24).take (field l 6 2) }

/-- Data lengths of a format (Table 21.2). -/
def lenOk (fmt len : Nat) : Bool :=
  if fmt = 0 then len ≤ 8
  else if fmt ≤ 2 then len ≤ 8 || [12, 16, 20, 24, 32, 48, 64].contains len
  else 1 ≤ len && len ≤ 2048

/-- The record of a frame to send is as Table 21.2 gives it, and its format is enabled on controller k. -/
def State.frameOk (s : State) (k : Nat) (l : List Nat) : Bool :=
  let f := frameOf l
  f.fmt ≤ 3 && lenOk f.fmt (field l 6 2) && bits f.id 30 29 == 0 && (bitAt f.id 31 || bits f.id 28 11 == 0)
  && f.flags < 16 && (!bitAt f.flags 0 || f.fmt == 0) && !bitAt f.flags 1 && (!bitAt f.flags 2 || f.fmt == 3)
  && (f.fmt == 3 || (f.af == 0 && f.sdt == 0 && f.vcid == 0)) && field l 22 2 == 0
  && (f.fmt = 0 || (if f.fmt ≤ 2 then s.rb (canBase k) 28 else s.rb (canBase k) 27))

/-! ### Receive queues (R518 to R521) -/

/-- The notice of queue q, when one is due and its slot is free (R521). -/
def State.canNotice (s : State) (k q : Nat) : State :=
  let x := s.canQ k q
  let c := s.qMbx k q
  let n := s.qN k q
  if x.fresh && 0 < x.owned && c ≤ 47 && s.mbxEn c && s.up dHost then
    let s := s.mbxTimeOut c
    if (s.mbxCh c).slot == .pending then s
    else
      let base := s.reg (qBase k q + 12) + s.reg (qBase k q + 16) * 2 ^ 32
      let old := (x.head + n - x.owned) % n
      (s.setCanQ k q { x with fresh := false }).mbxPut c (base + old * clsSize (s.fld (qBase k q) 30 29))
        (k + 16 * q + 256 * x.owned) (s.mbxTo c) none
  else s

/-- Channel c's slot has been emptied: queues that wait for it post their notice (R521). -/
def State.canNotices (s : State) (c : Nat) : State :=
  (List.range 48).foldl (fun s i => if s.qMbx (i / 8) (i % 8) == c then s.canNotice (i / 8) (i % 8) else s) s

/-- The bus of controller k reaches it: the logic pins of CAN4 and CAN5 lie in VIO banks A and B, and while a bank is held
RX reads low and TX is high-impedance (R589, Table 26.1). -/
def State.canWired (s : State) (k : Nat) : Bool :=
  !((k == 4 && s.gaf.vioHeld.contains 0) || (k == 5 && s.gaf.vioHeld.contains 1))

/-- Controller k can receive frames of this form: a format that it has enabled, with a length of that format (R506,
Table 21.2). -/
def State.rxOk (s : State) (k : Nat) (f : CanFrame) : Bool :=
  lenOk f.fmt f.data.length && (f.fmt == 0 || (if f.fmt ≤ 2 then s.rb (canBase k) 28 else f.fmt == 3 && s.rb (canBase k) 27))

/-- Queue q matches a received frame (R518). -/
def State.qMatch (s : State) (k q : Nat) (f : CanFrame) : Bool :=
  let b := qBase k q
  let m := s.fld (b + 8) 28 0
  s.qEn k q && s.rb b 25 == bitAt f.id 31 && (bits f.id 28 0 &&& m) == (s.fld (b + 4) 28 0 &&& m)
  && s.rb b (if f.fmt = 0 then 26 else if f.fmt ≤ 2 then 27 else 28)
  && 24 + f.data.length ≤ clsSize (s.fld b 30 29)

/-- The frame is offered to the queues (R518, R519, R528). -/
def State.toQueues (s : State) (k : Nat) (f : CanFrame) : State :=
  match (List.range 8).find? (fun q => s.qMatch k q f) with
  | none => s
  | some q =>
    let x := s.canQ k q
    let n := s.qN k q
    if x.owned < n && !s.hif.canDrop then
      let c := s.can k
      let s := s.setCan k { c with sent := { queue := q, entry := x.head, frame := f } :: c.sent }
      (s.setCanQ k q { x with head := (x.head + 1) % n, owned := x.owned + 1, fresh := true }).canNotice k q
    else
      let ev := x.ev194 != s.periodMark
      (s.setCanQ k q { x with drop := satInc 65535 x.drop, ev194 := s.periodMark }).raiseIf ev 194 [k, q]

/-! ### ISOBUS address claim (R522, R523; frame layouts of ISO 11783-5, notes/assumptions/72.md) -/

def State.isoName (s : State) (k : Nat) : Nat := s.reg (canBase k + 0x14) + s.reg (canBase k + 0x18) * 2 ^ 32

/-- Address Claimed, or Cannot Claim at 254, from address sa. -/
def State.isoClaim (s : State) (k : Nat) : State :=
  let c := s.can k
  s.setCan k { c with iso := c.iso ++ [{ id := 0x98EEFF00 + c.sa, time := s.now, data := leBytes 8 (s.isoName k) }] }

/-- The controller holds address a from now on (R522). -/
def State.isoHold (s : State) (k a : Nat) : State := ((s.setCan k { s.can k with sa := a }).isoClaim k).raise 198 [k, a]

/-- The runtime claims: the address held, or pref_sa (R522, R523). -/
def State.isoStart (s : State) (k : Nat) : State :=
  if s.isobus k && (s.can k).onBus && s.up dApp && s.gaf.partUp.contains 5 then
    s.isoHold k (if (s.can k).sa = 254 then s.fld (canBase k + 0x1C) 7 0 else (s.can k).sa)
  else s

/-- The next address from rng_lo to rng_hi, ascending and wrapping, not seen claimed; 254 when none remains
(R522). -/
def State.isoNext (s : State) (k : Nat) : Nat :=
  let lo := s.fld (canBase k + 0x1C) 15 8
  let n := s.fld (canBase k + 0x1C) 23 16 + 1 - lo
  let a := (s.can k).sa
  let at0 := if lo ≤ a && a < lo + n then a + 1 - lo else 0
  if !bitAt (s.isoName k) 63 then 254
  else (((List.range n).map (fun i => lo + (at0 + i) % n)).find? (fun x => x != a && !(s.can k).seen.contains x)).getD 254

/-- The address is lost: objects that carry it are aborted, and the next one is claimed (R522, R523). -/
def State.isoLose (s : State) (k : Nat) : State :=
  let s := ((s.armedObjs k).filter (fun o => bitAt (s.canObj k o).frame.flags 3)).foldl (fun s o => s.objAbort k o 3 true) s
  s.isoHold k (s.isoNext k)

/-- A received frame under role ISOBUS (R522). -/
def State.isoFrame (s : State) (k : Nat) (f : CanFrame) : State :=
  let pf := bits f.id 23 16
  let ps := bits f.id 15 8
  let src := bits f.id 7 0
  let c := s.can k
  if !(s.isobus k && bitAt f.id 31 && s.up dApp && s.gaf.partUp.contains 5 && c.onBus) then s
  else if pf = 0xEE && ps = 0xFF && f.data.length = 8 then
    let s := if src ≤ 253 then s.setCan k { c with seen := insN c.seen src } else s
    if src = c.sa && src ≤ 253 then (if leNat f.data < s.isoName k then s.isoLose k else s.isoClaim k) else s
  else if pf = 0xEA && (ps = 0xFF || ps = c.sa) && f.data.take 3 = [0x00, 0xEE, 0x00] then s.isoClaim k
  else s

/-! ### Start, reset and reception -/

/-- Controllers that passed the check leave STOPPED with the clapper and integrate (R508, R525). -/
def State.cansStart (s : State) : State :=
  (List.range 6).foldl (fun s k =>
    if (s.can k).armed then
      let s := s.canGo k .integrating
      s.setCan k { s.can k with armed := false, check := true }
    else s) s

/-- A reset of PD_HOST (R528). -/
def State.cansHostReset (s : State) : State :=
  let s := (List.range 6).foldl (fun s k =>
    let s := (s.armedObjs k).foldl (fun s o => s.objAbort k o 5 true) s
    s.setCan k { s.can k with qs := (s.can k).qs.map (fun x => (x.1, { x.2 with owned := 0, fresh := false })) }) s
  { s with hif := { s.hif with canDrop := true } }

/-- The connection of controller k that a frame belongs to by its identifier (R439, R518). -/
def State.bslOf (s : State) (k : Nat) (f : CanFrame) : Option Nat :=
  ((s.can k).users.filterMap (fun x => if x.2.1 == 3 && x.2.2 % 2 == 1 then some (x.2.2 / 2) else none)).find?
    (fun c => f.id == (if s.cnOut c then s.cnAck c else s.cnData c))

/-- The safety frame that a CAN frame carries (R439). -/
def State.safeFrame (s : State) (f : CanFrame) : SafeFrame :=
  { sof := f.time, fin := s.now, bytes := f.data
    good := f.data.length == 16 && (f.fmt != 3 || (f.sdt == s.bf 1 1 && f.vcid == s.bf 2 1)) }

/-- A frame has been received: reserved objects first, then the queues (R518). -/
def State.canReceive (s : State) (k : Nat) (f : CanFrame) : State :=
  match s.bslOf k f with
  | some c => s.bslReceived c (s.safeFrame f)
  | none => (s.isoFrame k f).toQueues k f

end Sys2Proof.Machine
end

