-- ==== Sys2Proof/Machine/SecOps.lean ====
section
/-! DEFINITION. Memories, images, keys and lifecycle (chapter 22): shared operations. -/

namespace Sys2Proof.Machine

/-! ### Memories and ECC (R529 to R538) -/

/-- Regions, spare regions and domain of memory m (Table 22.1). -/
def memRow (m : Nat) : Nat × Nat × Nat :=
  match m with
  | 0 => (1536, 31, dApp)
  | 1 => (512, 11, dHost)
  | 2 => (128, 3, dSfp)
  | 3 => (64, 2, dSfp)
  | 4 => (32, 1, dCtrl)
  | 5 => (64, 2, dCtrl)
  | 6 => (16, 1, dImpl)
  | _ => (0, 0, dAon)

def State.eccMem (s : State) (m : Nat) : EccMem := getD s.mem.mems m {}
def State.setEccMem (s : State) (m : Nat) (v : EccMem) : State := { s with mem := { s.mem with mems := put s.mem.mems m v } }

/-- Codewords of 32 bytes in a region of 4 KiB. -/
def regionCws : Nat := 128

/-- Ticks of 24 h. -/
def ticksPerDay : Nat := 86400 * ticksPerS

/-- Spare regions of memory m still free. -/
def State.sparesLeft (s : State) (m : Nat) : Nat :=
  (memRow m).2.1 - (s.eccMem m).retired.length - (s.eccMem m).copying.length

/-- Entries of region r within the last 24 h. -/
def State.within24 (s : State) (r : Nat) (l : List (Nat × Nat)) : Nat :=
  (l.filter (fun x => x.1 == r && s.now < x.2 + ticksPerDay)).length

/-- Region r of memory m meets R535. -/
def State.regionWorn (s : State) (m r : Nat) : Bool :=
  8 ≤ s.within24 r (s.eccMem m).corrs || 2 ≤ s.within24 r (s.eccMem m).uncs

/-- Region r of memory m after an error: where it meets R535 it is retired to a free spare, or stays in service, with
EV241 unless it met R535 before the error (R535 to R537; notes/assumptions/43.md). -/
def State.retireCheck (s : State) (m r : Nat) (was : Bool) : State :=
  let x := s.eccMem m
  if x.retired.contains r || x.copying.contains r then s
  else if s.regionWorn m r then
    if 0 < s.sparesLeft m then s.setEccMem m { x with copying := insN x.copying r }
    else if was then s
    else
      let s := s.raise 241 [m, r, 0]
      if m = 2 || m = 3 then s.safeFault 1 8 30 8 else s
  else s

/-- A codeword is corrected and written back (R531, R534). -/
def State.eccCorrect (s : State) (m cw : Nat) : State :=
  let x := s.eccMem m
  let r := cw / regionCws
  let was := s.regionWorn m r
  let ev := x.ev239 = 0 || x.ev239 - 1 + ticksPerS ≤ s.now
  let s := s.setEccMem m { x with corrCnt := satInc 255 x.corrCnt, corrs := (r, s.now) :: x.corrs
                                  ev239 := if ev then s.now + 1 else x.ev239 }
  let s := { s with mem := { s.mem with last := some (m, false, cw, s.now) }, hif := { s.hif with dlyEcc := s.hif.dlyEcc + 1 } }
  (s.raiseIf ev 239 [m, cw * 32]).retireCheck m r was

/-- An uncorrectable codeword is found; it counts at its first detection (R532, R534). -/
def State.eccBroken (s : State) (m cw reaction : Nat) : State :=
  let x := s.eccMem m
  let r := cw / regionCws
  let was := s.regionWorn m r
  if x.poison.contains cw then s
  else
    let s := s.setEccMem m { x with poison := insN x.poison cw, uncCnt := satInc 255 x.uncCnt, uncs := (r, s.now) :: x.uncs }
    let s := { s with mem := { s.mem with last := some (m, true, cw, s.now) } }
    (s.raise 240 [m, cw * 32, reaction]).retireCheck m r was

/-- More regions of memory m are retired than half its spares (R538). -/
def State.memWorn (s : State) (m : Nat) : Bool := (memRow m).2.1 < 2 * (s.eccMem m).retired.length

/-- The check of R538 at start-up. -/
def State.memStart (s : State) : State :=
  (List.range 7).foldl (fun s m => if s.memWorn m then s.advise 0 m else s) s

/-- A reset of domain d wipes its memories: poison marks and the counts of R535 go, retirement stays (R535,
R536, R553). -/
def State.memWipe (s : State) (d : Nat) : State :=
  { s with mem := { s.mem with mems := s.mem.mems.map (fun x =>
      if (memRow x.1).2.2 == d then (x.1, { x.2 with poison := [], corrs := [], uncs := [], copying := [] }) else x) } }

/-- Regions lo to lo + n − 1 of memory m are wiped: their poison marks go (R553, R554). -/
def State.regionsWipe (s : State) (m lo n : Nat) : State :=
  let x := s.eccMem m
  s.setEccMem m { x with poison := x.poison.filter (fun cw => !(lo * regionCws ≤ cw && cw < (lo + n) * regionCws)) }

/-- A reset of PD_CTRL sets the MEM registers to their reset values. -/
def State.memRegsReset (s : State) : State :=
  { s with mem := { mems := s.mem.mems.map (fun x => (x.1, { x.2 with corrCnt := 0, uncCnt := 0, ev239 := 0 })), last := none } }

/-! ### Keys and signatures (R540, R546, Table 22.5) -/

def State.setSecu (s : State) (v : Secu) : State := { s with secu := v }

/-- Vendor and owner slots that are accepted in lifecycle state lc for kind 0 firmware and partition images, 1
loop images and safety configurations, 2 lifecycle authorisation (Table 22.5). -/
def keyRow (lc kind : Nat) : Bool × Bool :=
  match lc, kind with
  | 0, 2 => (true, false)
  | 1, _ => (true, false)
  | 2, 0 => (true, false)
  | 2, 1 => (false, true)
  | 2, _ => (true, true)
  | 3, 0 => (true, false)
  | 3, 1 => (false, true)
  | 3, _ => (true, true)
  | 4, _ => (true, false)
  | _, _ => (false, false)

/-- Slot k is programmed and not revoked (R540). -/
def State.keyValid (s : State) (k : Nat) : Bool := s.secu.keys.any (fun x => x.1 == k) && !s.secu.revoked.contains k

/-- Slot k may sign for a kind in the present lifecycle state. -/
def State.keyFor (s : State) (kind k : Nat) : Bool :=
  s.keyValid k && (if k < 4 then (keyRow s.secu.lc kind).1 else (keyRow s.secu.lc kind).2)

/-- Slot k holds digest dig and may sign for a kind (R209, R540). -/
def State.keyOk (s : State) (kind k : Nat) (dig : List Nat) : Bool := s.keyFor kind k && getD s.secu.keys k [] == dig

/-- GLB_PART (Table 0.1). -/
def glbPart : Nat := 0x0AE19160

/-- A safety image as R427 checks it but for its fields: header, section table and signature; its SAFE and BSL
sections and the digest of R429. -/
def State.safeImage (s : State) (l : List Nat) : Option SafeBank :=
  match imgSect l 8, imgSect l 9 with
  | some a, some b =>
    if imgHead 0x53465A41 l && field l 6 2 == 3 && field l 8 4 == glbPart && field l 0x16 1 == 0 && field l 0x18 8 == 0
       && imgTableIn 8 9 l && (imgSigned (s.keyOk 1) l).isNone
    then some { safe := a.2, bsl := b.2, dig := Config.shake256 64 (l.take (field l 0x10 4)), confirmed := false }
    else none
  | _, _ => none

/-- A partition image for a slot: header, sections and signature; its record and whether R541 accepts its
version (R540, R541, R544). -/
def State.partImage (s : State) (slot : Nat) (l : List Nat) : Option NorImg :=
  if imgHead 0x57465A41 l && field l 6 2 == (if slot = 0 then 4 else 5) && field l 8 4 == glbPart && field l 0x16 1 == slot
     && field l 0x18 4 ≤ 255 && field l 0x1C 4 == 0 && imgTableIn 10 12 l && (imgSigned (s.keyOk 0) l).isNone
  then some { ver := field l 0x18 4, key := field l 0x15 1, dig := Config.shake256 64 (l.take (field l 0x10 4)) }
  else none

/-- A signed lifecycle authorisation: its new state, when everything but the transition holds (R546). -/
def State.authState (s : State) (l : List Nat) : Option Nat :=
  let slot := field l 30 1
  let pk := (l.drop 64).take 1793
  if l.length == 3140 && field l 0 4 == 0x434C5A41 && field l 4 2 == 1 && field l 6 2 == 0 && field l 8 4 == glbPart
     && field l 12 16 == s.secu.serial && field l 28 1 == s.secu.lc && field l 31 1 == s.secu.refurb
     && (l.drop 32).take 32 == List.replicate 32 0 && s.keyOk 2 slot (Config.shake256 64 pk)
     && (l.drop 1857).take 3 == [0, 0, 0]
     && Config.falconVerify pk (Config.shake256 64 (l.take 64)) ((l.drop 1860).take 1280)
  then some (field l 29 1) else none

/-- A transition of Table 22.7. -/
def State.lcStep (s : State) (new : Nat) : Bool :=
  match s.secu.lc, new with
  | 0, 1 => true
  | 1, 2 => true
  | 2, 3 => s.secu.keys.any (fun x => 4 ≤ x.1)
  | 2, 4 => true
  | 3, 4 => true
  | 4, 2 => s.secu.refurb < 4
  | o, 5 => o < 5
  | _, _ => false

/-- What entering a lifecycle state does (R546, R548). -/
def State.lcEnter (s : State) (new : Nat) : State :=
  let v := s.secu
  let s := s.setSecu { v with
    lc := new, lcNext := none, refurb := if v.lc = 4 && new = 2 then v.refurb + 1 else v.refurb
    revoked := if new = 4 || new = 5 then
        (if new = 5 then [0, 1, 2, 3] else v.revoked.filter (· < 4)) ++ [4, 5, 6, 7] else v.revoked
    attest := v.attest && new != 5 }
  let s := if new = 4 || new = 5 then s.setSaf { s.saf with banks := [], loaded := false } else s
  if new = 4 then { s with rpl := [], rplLast := 0 } else s

/-! ### The boot chain (R541 to R543) -/

/-- The boot record is written with the slots that run from bank B: into the copy that is not in force, with the next
sequence number, so that it is the one in force from then on (R539). -/
def State.bootWrite (s : State) (l : List Nat) : State :=
  let v := s.secu
  let a := (getD v.boot 0 (0, [])).1
  let b := (getD v.boot 1 (0, [])).1
  s.setSecu { v with bankB := l, boot := put v.boot (if b ≤ a then 1 else 0) (max a b + 1, l) }

/-- The boot record's copy with the higher sequence number, which start-up uses (R539). -/
def State.bootRead (s : State) : State :=
  let v := s.secu
  let x := getD v.boot 0 (0, [])
  let y := getD v.boot 1 (0, [])
  s.setSecu { v with bankB := if x.1 < y.1 then y.2 else x.2 }

/-- The active banks after the other bank of a slot has been made the active one. -/
def Secu.flipped (v : Secu) (slot : Nat) : List Nat :=
  if v.bankB.contains slot then v.bankB.filter (· != slot) else insN v.bankB slot

/-- Why bank b of a slot fails: 1 SIGNATURE, 2 ROLLBACK, 3 FORMAT, 4 READ_ERROR; bad lists what the boot ROM
finds in the flash. -/
def State.bankFail (s : State) (bad : List (Nat × Nat)) (slot b : Nat) : Option Nat :=
  match s.secu.imgs.find? (fun x => x.1 == 2 * slot + b) with
  | none => some 3
  | some x =>
    match bad.find? (fun y => y.1 == 2 * slot + b) with
    | some y => some y.2
    | none => if !s.keyFor 0 x.2.key then some 1 else if x.2.ver < getD s.secu.rb slot 0 then some 2 else none

/-- EV243 for a bank that fails by its version (R541). -/
def State.keepRollback (s : State) (slot b cause : Nat) : State :=
  if cause = 2 then
    s.setSecu { s.secu with kept := s.secu.kept ++
      [(243, [slot, (getD s.secu.imgs (2 * slot + b) {}).ver, getD s.secu.rb slot 0])] }
  else s

/-- Verify one slot: its active bank, else the other, else neither (R541 to R543). -/
def State.bootSlot (s : State) (bad : List (Nat × Nat)) (slot : Nat) : State :=
  let b := if s.secu.bankB.contains slot then 1 else 0
  let other := s.bankFail bad slot (1 - b)
  let s := match s.bankFail bad slot b with
    | none => s
    | some c =>
      let s := s.keepRollback slot b c
      match other with
      | none =>
        let s := s.bootWrite (s.secu.flipped slot)
        s.setSecu { s.secu with kept := s.secu.kept ++ [(242, [slot, 1 - b, c])] }
      | some c' =>
        let s := s.keepRollback slot (1 - b) c'
        s.setSecu { s.secu with dead := insN s.secu.dead slot }
  if (s.bankFail bad slot 0).isNone && (s.bankFail bad slot 1).isNone then
    let lo := min (getD s.secu.imgs (2 * slot) {}).ver (getD s.secu.imgs (2 * slot + 1) {}).ver
    s.setSecu { s.secu with rb := put s.secu.rb slot (max (getD s.secu.rb slot 0) lo) }
  else s

/-- The boot ROM reads the boot record and verifies slot 0 and then each partition slot (R539, R542). -/
def State.bootRom (s : State) (bad : List (Nat × Nat)) : State :=
  (List.range 7).foldl (fun s k => s.bootSlot bad k) (s.bootRead.setSecu { s.bootRead.secu with dead := [], kept := [] })

/-- The slot's running image. -/
def State.runImg (s : State) (slot : Nat) : NorImg :=
  getD s.secu.imgs (2 * slot + (if s.secu.bankB.contains slot then 1 else 0)) {}

/-- The cause bits of REPLACE_ADVISED (Table 22.9). -/
def State.rplMask (s : State) : Nat := (s.rpl.map (fun x => 2 ^ x.1)).sum

/-- The RPL_REQ output conducts to ground (R552). -/
def State.rplReq (s : State) : Bool := !s.rpl.isEmpty

/-- A digest as 64 bytes, zero when there is none. -/
def dig64 (l : List Nat) : List Nat := (l ++ List.replicate 64 0).take 64

/-- The slate body for a nonce (Table 22.6). -/
def State.slate (s : State) (rev start : Nat) (nonce : List Nat) : List Nat :=
  let v := s.secu
  leBytes 4 0x4C535A41 ++ leBytes 2 1 ++ leBytes 2 768 ++ leBytes 4 glbPart ++ leBytes 4 rev ++ leBytes 16 v.serial
  ++ [v.lc, ((List.range 8).map (fun k => if s.keyValid k then 2 ^ k else 0)).sum, s.rplMask,
      b2n s.safeLive + 2 * b2n v.dbg] ++ [0, 0, 0, 0] ++ leBytes 8 (start % 2 ^ 64)
  ++ (List.range 7).map (fun k => getD v.rb k 0) ++ [(v.bankB.map (2 ^ ·)).sum, nonce.length] ++ List.replicate 7 0
  ++ dig64 nonce ++ dig64 (s.runImg 0).dig
  ++ ((List.range 6).map (fun p => dig64 (if s.gaf.partUp.contains p then (s.runImg (p + 1)).dig else []))).flatten
  ++ dig64 (match s.saf.cfg with
            | some b => b.dig
            | none => [])
  ++ dig64 v.loopDig ++ List.replicate 64 0

/-- What TK10 has been given to close a slate with, its public key and its signature, verifies over the body (R545). -/
def slateSigned (body l : List Nat) : Bool :=
  Config.falconVerify (l.take 1793) (Config.shake256 64 body) ((l.drop 1796).take 1280)

end Sys2Proof.Machine
end

