-- ==== Sys2Proof/Machine/Sections.lean ====
section
/-! DEFINITION. The commands and events of the section engine, the cue memory and the valve drivers
(chapters 11 and 12). -/

namespace Sys2Proof.Machine

/-- SXE runs, and first and count name enabled sections (R279, R306). -/
def State.secRange (s : State) (first count : Nat) : Bool :=
  s.sxe.running && 0 < count && first + count ≤ 160 && (List.range count).all (fun i => s.secEn (first + i))

/-- SEC_BASE (R279). -/
def execSecBase (d : Desc) (s : State) : Out :=
  hostRun 0x0700 d s (fun s =>
    if s.secRange d.target d.count && d.par 0 ≤ 65536 then s.await 0x0700 d (.secBase d.target d.count (d.par 0))
    else s.refuse d)

/-- SEC_GATE (R279). -/
def execSecGate (d : Desc) (s : State) : Out :=
  hostRun 0x0701 d s (fun s =>
    if s.secRange d.target d.count then s.await 0x0701 d (.secGate d.target d.count (d.par 0 == 1)) else s.refuse d)

/-- An entry of Table 12.1 is legal (R295). -/
def cueLegal (w : Nat) : Bool :=
  let a := bits w 23 20
  let g := bits w 16 0
  a ≤ 4 && !bitAt w 17 && (!(a == 0 || a == 1) || g == 0) && (!(a == 2 || a == 3) || g ≤ 65536)

/-- An entry as a pending cue that joins its sheet at a boundary (R294, R299). -/
def cueOf (join w : Nat) : Cue :=
  { pos := bits w 63 24, action := bits w 23 20, catchUp := bitAt w 19, bidir := bitAt w 18, arg := bits w 16 0, join := join }

/-- The 8-byte entries of a buffer (R294). -/
def cueWords (d : Desc) : List Nat := (List.range d.count).map (fun i => field d.data (8 * i) 8)

/-- Entries beyond the reserve that count more would take (R298). -/
def State.cueExtra (s : State) (k count : Nat) : Nat :=
  let u := (s.sec k).used
  (u + count - s.secReserve k) - (u - s.secReserve k)

/-- Take entries for section k from the pool (R298). -/
def State.cueReserve (s : State) (k count : Nat) : State :=
  (s.setSec k { s.sec k with used := (s.sec k).used + count }).poolCheck

/-- CUE_APPEND (R295, R298, R299). -/
def execCueAppend (d : Desc) (s : State) : Out :=
  hostRun 0x0702 d s (fun s =>
    let k := d.target
    let ws := cueWords d
    if !s.sxe.running || !s.secEn k || d.count = 0 || 256 < d.count || !ws.all cueLegal then s.refuse d
    else if s.secLimit k < (s.sec k).used + d.count || s.sharedFree < s.cueExtra k d.count then
      (s.raise 130 [k, d.count]).refuse d
    else
      let s := s.cueReserve k d.count
      (s.complete d .ok (s.sec k).used).awaitRest 0x0702 d (.cueAppend k ws))

/-- CUE_FLUSH (R306). -/
def execCueFlush (d : Desc) (s : State) : Out :=
  hostRun 0x0703 d s (fun s =>
    if s.secRange d.target d.count then s.await 0x0703 d (.cueFlush d.target d.count (d.par 0 == 1)) else s.refuse d)

/-- Accepted entries join the end of the sheet at the boundary with number B (R299). -/
def State.cueJoin (s : State) (B k : Nat) (ws : List Nat) : State :=
  s.setSec k { s.sec k with cues := (s.sec k).cues ++ ws.map (cueOf B) }

/-- ODO_DIST_READ: the values of all four odometers at the latest boundary (R260, Table 11.2). -/
def execOdoDistRead (t : Nat) (s : State) : Out :=
  runIf t s (fun s => s.up dImpl) (fun s =>
    let one := fun (o : Nat) => let x := s.odo o; (toBits 32 (x.d / 256), toBits 8 x.d, x.v)
    { s.setSxe { s.sxe with snap := (List.range 4).map one } with readout := (one 0).1 })

/-- The core that an abandoned update leaves: the one before it, with what has happened since, the entries that appends have
taken, lost sheets, counts that a read has cleared and the ticks of events (R275, R298, R307). -/
def SxeCore.undo (prev cur : SxeCore) : SxeCore :=
  { prev with
    poolLow := cur.poolLow
    secs := cur.secs.map (fun x =>
      let p := getD prev.secs x.1 {}
      (x.1, { p with used := x.2.used, lost := x.2.lost, passCnt := min p.passCnt x.2.passCnt
                     lateCnt := min p.lateCnt x.2.lateCnt, ev131 := x.2.ev131, ev132 := x.2.ev132
                     ev146 := x.2.ev146, ev151 := x.2.ev151 })) }

/-- SXE_OVERRUN: the update of the latest boundary is not complete before the next (R275, R39). -/
def execSxeOverrun (t : Nat) (s : State) : Out :=
  runIf t s (fun s => s.up dImpl && s.sxe.running && s.sxe.updated && !s.sxe.overrun && s.tbu.lastB < s.now) (fun s =>
    (s.setSxe { s.sxe with core := SxeCore.undo s.sxe.prev s.sxe.core, overrun := true, ovrCnt := satInc 65535 s.sxe.ovrCnt }).raise 149 [s.boundary])

/-- RN_REFRESH: node j is sent a refresh frame at the latest boundary (R280). -/
def execRnRefresh (t j : Nat) (s : State) : Out :=
  runIf t s (fun s => s.up dImpl && s.sxe.running && j < 16 && s.rnEn j && (s.rn j).next ≤ s.tbu.lastB) (fun s =>
    let b := s.tbu.lastB
    let s := s.rnQueue b j true
    s.setRn j { s.rn j with next := nextMultiple s.sxe.startTick (s.rnRep j) b })

/-- SXE_SYNC_FRAME: sync frames are queued at the start of SXE or at the latest boundary (R285). -/
def execSxeSyncFrame (t : Nat) (s : State) : Out :=
  runIf t s (fun s => s.up dImpl && s.sxe.running && s.rb 0x4280 31 && s.sxe.syncNext ≤ max s.tbu.lastB s.sxe.startTick)
    (fun s =>
      let b := max s.tbu.lastB s.sxe.startTick
      let s := s.syncQueue b
      s.setSxe { s.sxe with syncNext := nextMultiple s.sxe.startTick (s.fld 0x4280 15 0 * ticksPerMs) b })

/-! ### Valve drivers (R287 to R292) -/

def State.vlv (s : State) (m : Nat) : Vlv := getD s.vlvs m {}
def State.setVlv (s : State) (m : Nat) (v : Vlv) : State := { s with vlvs := put s.vlvs m v }
def vlvReg (m : Nat) : Nat := 0x7400 + 0x10 * m

/-- The channel's switch follows MOD (R288, R289). -/
def State.vlvFollows (s : State) (m : Nat) : Bool := (s.vlv m).st == .ok && !(s.vlv m).resume && !s.thm.vlvHot

/-- Valve output m conducts at an instant in fine steps (R75, R288, R293, R401, R556). -/
def State.vlvOut (s : State) (m x : Nat) : Bool := s.up dImpl && s.vlvFollows m && (s.valve m).out x

/-- i_sum: the sum of the mean currents in 10 mA (Table 11.9). -/
def State.vlvSum (s : State) : Nat := (s.vlvs.map (fun x => x.2.iMa)).sum / 10

/-- VLV_SET (R292). -/
def execVlvSet (d : Desc) (s : State) : Out :=
  hostRun 0x0704 d s (fun s =>
    if s.mapped d.target || !s.vProp d.target then s.refuse d
    else (s.setVlv d.target { s.vlv d.target with target := d.par 0 }).ok d)

/-- Fine steps that channel m has conducted since its last short, up to now (R288). -/
def State.vlvConducted (s : State) (m : Nat) : Nat :=
  (s.vlv m).conduct + (s.valve m).ran + (s.valve m).onSince (s.now * 32)

/-- VLV_SHORT: the current of channel m has stayed above i_short for 5 µs while it is on (R288, R289). -/
def execVlvShort (t m : Nat) (s : State) : Out :=
  runIf t s (fun s => m < 48 && s.vlvOut m (s.now * 32 - 1)) (fun s =>
    let v := s.vlv m
    let again := v.shorted && s.vlvConducted m < 32 * ticksPerS
    let n := if again then v.retries else 0
    let failed := again && s.fld (vlvReg m) 15 8 ≤ n
    let s := s.setVlv m { v with st := if failed then .failed else .short, shorted := true, retries := n, conduct := 0
                                 dl := s.inMs (100 * s.fld (vlvReg m) 7 0), ev152 := s.periodMark }
    let s := s.raiseIf (v.ev152 != s.periodMark) 152 [m]
    if failed then (s.raise 154 [m]).advise 2 m else s)

/-- VLV_RETRY_END: the retry time has passed; the channel follows MOD from its next on-part (R288). -/
def execVlvRetryEnd (t m : Nat) (s : State) : Out :=
  runIf t s (fun s => s.up dImpl && (s.vlv m).st == .short && (s.vlv m).dl ≤ s.now) (fun s =>
    s.setVlv m { s.vlv m with st := .ok, resume := true, retries := (s.vlv m).retries + 1 })

/-- VLV_TOTAL_OVER: the sum of the mean currents over 10 ms, in 10 mA, exceeds 40 A (R291). -/
def execVlvTotalOver (t sum : Nat) (s : State) : Out :=
  runIf t s (fun s => s.up dImpl && 4000 < sum) (fun s => ({ s with vlvPeak := max s.vlvPeak (min 65535 sum) }).raise 155 [sum])

/-- What VLV makes of a period of channel m that has ended; its on-part is what the gate let through to the end of it
(R287, R288, R290). -/
def State.vlvPeriod (s : State) (m : Nat) (i : VlvMeas) : State :=
  let c := (s.valve m).reckon ((s.valve m).next * 32)
  let v := s.vlv m
  let on := s.vlvFollows m
  let v := { v with iMa := i.iMa, conduct := if on then v.conduct + c.ran else v.conduct }
  let low := i.iEnd < s.fld (vlvReg m) 23 16 * 10
  let v' :=
    if !(on && 64 * ticksPerMs ≤ c.part) then v
    else if low then { v with openRun := v.openRun + 1, opn := v.opn || 3 ≤ v.openRun + 1 }
    else { v with openRun := 0, opn := false }
  let s := s.setVlv m v'
  let s := { s with vlvPeak := max s.vlvPeak (min 65535 s.vlvSum) }
  s.raiseIf (v'.opn && !v.opn) 153 [m]

/-- The regulator of PROP channel m writes its duty (R292). -/
def State.vlvRegulate (s : State) (m : Nat) : State :=
  if !s.vProp m || !(s.valve m).enabled then s
  else
    let v := s.vlv m
    let tgt := if s.mapped m then (divOpen (s.fld (vlvReg m + 4) 31 16 * (s.sec (s.mapSec m)).out : Nat) 65536).toNat else v.target
    let e : Int := (tgt : Int) - v.iMa
    let raw := divOpen ((s.fld (vlvReg m + 4) 15 8 : Nat) * e * 16 + v.integ) 256
    let duty := clampI 0 65536 raw
    let hold := (65536 ≤ raw && 0 < e) || (raw ≤ 0 && e < 0)
    let s := s.setVlv m { v with integ := if hold then v.integ else v.integ + (s.fld (vlvReg m + 4) 7 0 : Nat) * e }
    s.setValve m { s.valve m with shDuty := duty.toNat }

/-- VALVE_CARRIER_START: a carrier period of channel m begins; i is what VLV measured in the period
that ends (R75, R76, R79, R287, R288, R290, R292). -/
def execValveCarrierStart (t m : Nat) (i : VlvMeas) (s : State) : Out :=
  runIf t s (fun s => s.up dCtrl && m < 48 && (match (s.valve m).due with
                                                | some x => x ≤ s.now
                                                | none => false))
    (fun s =>
      let s := if s.up dImpl && (s.valve m).begun then s.vlvPeriod m i else s
      let s := s.valveBegin m
      let s := s.setVlv m { s.vlv m with resume := false }
      if s.up dImpl then s.vlvRegulate m else s)

/-- A reset of PD_IMPL returns every valve driver to its reset record (R293). -/
def State.vlvReset (s : State) : State := { s with vlvs := [], vlvPeak := 0 }

end Sys2Proof.Machine
end

