-- ==== Sys2Proof/Machine/TakeOps.lean ====
section
/-! DEFINITION. Takes (chapter 19, R480 to R488): objects, preconditions, steps and ends, as shared
operations. -/

namespace Sys2Proof.Machine

def State.take (s : State) (h : Nat) : Take := getD s.hif.takes h {}
def State.setTake (s : State) (h : Nat) (v : Take) : State := { s with hif := { s.hif with takes := put s.hif.takes h v } }
def Take.p (k : Take) (i : Nat) : Nat := k.par.getD i 0

/-- GLB_REV (Table 0.2). -/
def glbRev : Nat := (1 + Config.hwRev % 255) * 2 ^ 16 + 0x4200

/-- The take runs, suspends, is suspended or is being cancelled. -/
def Take.busy (k : Take) : Bool := k.st != .free && k.st != .ended

/-- The take may still be ended by others: it has not passed its commit point (R483, R489). -/
def Take.open? (k : Take) : Bool := k.busy && k.st != .cancelling && !k.committed

/-- Numbers 0 to n − 1 whose bit is set in a mask. -/
def maskList (n mask : Nat) : List Nat := (List.range n).filter (fun i => bitAt mask i)

/-- The estimates of TK8, p4 to p7. -/
def Take.ests (k : Take) : List Nat :=
  (List.range 98).filter (fun e => bitAt (k.p (e / 32)) (e % 32))

/-- The leg groups that a take uses (Table 24.4). -/
def State.takeGroups (s : State) (k : Take) : List Nat :=
  match k.no with
  | 4 => [k.p 0]
  | 5 => maskList 16 (k.p 0)
  | 6 => maskList 9 (k.p 0)
  | 8 => (k.ests.filterMap (fun e => s.legGroup (estLeg e))).foldl insN []
  | 12 => [k.p 1]
  | _ => []

/-- The objects that a take holds: 0 a partition, 1 a program set, 2 a block, 3 a group, 4 the power path, 5 a
section (Table 24.4). -/
def State.takeHolds (s : State) (k : Take) : List (Nat × Nat) :=
  match k.no with
  | 1 => [(0, k.p 0)]
  | 2 => [(1, k.p 0)]
  | 3 => (List.range (k.p 1)).map (fun i => (2, k.p 0 + i))
  | 7 => [(4, 0)]
  | 9 => [(5, k.p 0)]
  | _ => (s.takeGroups k).map (fun g => (3, g))

/-- Objects that running takes hold. -/
def State.held (s : State) : List (Nat × Nat) :=
  ((s.hif.takes.filter (fun x => x.2.busy)).map (fun x => s.takeHolds x.2)).flatten

/-- A take holds an object of PD_IMPL or of PD_CONV (R571). -/
def State.implHeld (s : State) : Bool :=
  s.held.any (fun o => o.1 == 5 || (o.1 == 3 && (List.range 12).any (fun b => s.bridgeGroup b == some o.2)))

def State.convHeld (s : State) : Bool := s.held.any (fun o => o.1 == 4 || (o.1 == 3 && 5 ≤ o.2 && o.2 ≤ 8))

/-- The handle that a TAKE_START gets (R480). -/
def State.takeHandle (s : State) : Option Nat :=
  match (List.range 16).find? (fun h => (s.take h).st == .free) with
  | some h => some h
  | none => (List.range 16).find? (fun h => (s.take h).st == .ended)

/-! ### Preconditions (Table 19.12) -/

/-- No safety channel demands STO of group g. -/
def State.stoFree (s : State) (g : Nat) : Bool := !(s.routedOn g).any (fun n => srcKind n == 5 || srcKind n == 6)

/-- The take needs STO released. -/
def Take.needsSto (k : Take) : Bool := k.no == 4 || k.no == 6 || k.no == 8 || k.no == 12

/-- The partition that TK1 updates is idle. -/
def State.partIdle (s : State) (p : Nat) : Bool :=
  match p with
  | 2 => !([0, 1] : List Nat).any (fun r => (s.rail r).st == .softstart) && s.ppm.doing == .rest && s.ppm.path != .precharge
         && s.ppm.path != .handover && s.ppm.path != .shutdown
  | 3 => !s.ppm.ses.active
  | 4 => s.gbx.st == .idle
  | _ => true

/-- What Table 19.12 asks throughout a take beyond its groups. -/
def State.takeKeeps (s : State) (k : Take) : Bool :=
  (!k.needsSto || (s.takeGroups k).all s.stoFree)
  && (match k.no with
      | 1 => s.partIdle (k.p 0)
      | 5 => !s.gdv.diagBad
      | 6 => 1000 ≤ s.vLink
      | 7 => (s.ppm.path == .opn || s.ppm.path == .battery) && !s.ppm.ses.active
      | 9 => s.up dImpl && s.sxe.running && s.secEn (k.p 0)
      | _ => true)

/-- An image that TK2 is given, or why it fails (R209, R213). -/
def State.swapImage (s : State) (set : Nat) (l : List Nat) : Except ImgErr Img :=
  match parseImg l with
  | .error e => .error e
  | .ok g =>
    if g.kind != 2 then .error (11, 6)
    else if g.set != set then .error (2, 0x16)
    else match imgSigned (s.keyOk 1) l with
      | some e => .error e
      | none =>
        if g.progsOk then .ok g else .error (6, 0)

/-- The refusal of a SWAP image by R191 and R211: the cause, 0 when it is accepted or fails otherwise. -/
def State.swapRefusal (s : State) (k : Take) : Nat :=
  match s.swapImage (k.p 0) k.input with
  | .ok g => s.swapCause g
  | .error _ => 0

/-- A take may start: every group in STARTUP, and the rest of Table 19.12 (R480, R481). -/
def State.takeMay (s : State) (k : Take) : Bool :=
  (s.takeGroups k).all (fun g => (s.grp g).st == .startup) && s.takeKeeps k
  && (match k.no with
      | 4 => (match s.grpSpeed (k.p 0) with
              | some v => v < 40
              | none => false)
      | 12 => s.srcValid (k.p 0) && s.srcRpm (k.p 0) == 0
      | _ => true)

/-! ### Units of work -/

/-- Sizes of the pieces that n is cut into, size at a time. -/
def pieces (size n : Nat) : List Nat :=
  (List.range (n / size)).map (fun _ => size) ++ (if n % size = 0 then [] else [n % size])

/-- One leg of every bridge of the groups, ascending: the lowest leg of each follow set (R133, R134).  DEDUCED
(notes/assumptions/54.md): BK0, BK1 and PF3, which have no set, are a bridge each. -/
def State.bridgesOf (s : State) (gs : List Nat) : List Nat :=
  let legs := (List.range 68).filter (fun n => gs.any (fun g => s.legGroup n == some g))
  legs.filter (fun n => !legs.any (fun m => m < n && diagSet m == diagSet n))

/-- The legs of a take's bridge whose lowest leg is n. -/
def State.bridgeLegs (s : State) (k : Take) (n : Nat) : List Nat :=
  (List.range 68).filter (fun m => diagSet m == diagSet n && (s.takeGroups k).any (fun g => s.legGroup m == some g))

/-- What a take does, unit by unit.  TK1: bytes of each 64 KiB piece, then 0 to verify and commit and 1 for the
restart.  TK2: 0 to load, 1 for the swap.  TK3: blocks of each 64 KiB.  TK4: R_s, L_d, L_q, ψ.  TK5: bridges.
TK6: channels.  TK8: estimates.  TK9: entries of each append.  TK11: memories.  TK12: alignments. -/
def State.takeUnits (s : State) (k : Take) : List Nat :=
  match k.no with
  | 1 => pieces 65536 k.input.length ++ [0, 1]
  | 2 => [0, 1]
  | 3 => pieces 16 (k.p 1)
  | 4 => [0, 1, 2] ++ (if k.p 1 = 1 then [3] else [])
  | 5 => s.bridgesOf (s.takeGroups k)
  | 6 => ((s.takeGroups k).map (fun g => s.groupChs g)).flatten.foldl insN []
  | 8 => k.ests
  | 9 => pieces 256 (k.p 1)
  | 11 => [0, 1, 2, 3, 4, 5, 6]
  | 12 => [0, 1]
  | _ => [0]

/-- A suspend point follows the unit just done; n units are left (Table 19.12). -/
def Take.pointAfter (k : Take) (n : Nat) : Bool :=
  match k.no with
  | 1 => 2 ≤ n
  | 2 => n == 1
  | 7 => false
  | 10 => false
  | _ => 0 < n

/-- Timeout in ms when p3 is 0 (Table 19.12). -/
def takeDefault (no : Nat) : Nat :=
  match no with
  | 1 => 600000
  | 2 => 10000
  | 3 => 60000
  | 4 => 120000
  | 5 => 300000
  | 6 => 600000
  | 7 => 30000
  | 8 => 3600000
  | 9 => 10000
  | 10 => 5000
  | _ => 60000

/-! ### Results (R484, R485, Table 19.17) -/

def ones (n : Nat) : List Nat := List.replicate n 0xFF

/-- Bytes of the k-th record of n bytes, all ones when it is not there. -/
def recordOr (l : List Nat) (n k : Nat) : List Nat :=
  if (k + 1) * n ≤ l.length then (l.drop (k * n)).take n else ones n

/-- The data that follows the header. -/
def State.takeData (s : State) (k : Take) : List Nat :=
  match k.no with
  | 1 => if k.data.isEmpty then ones 64 else k.data
  | 2 => [k.p 0, 0, 0, 0] ++ leBytes 4 (k.aux.getD 0 0) ++ (match k.aux[1]? with
                                                            | some b => leBytes 8 (b % 2 ^ 64)
                                                            | none => ones 8)
  | 3 => leBytes 4 (k.p 0) ++ leBytes 4 (k.prog / 4096)
  | 4 =>
    let n := k.data.length / 6
    let v := fun (i : Nat) => (recordOr k.data 6 i).take 4
    let cur := if n = 0 then ones 2 else (recordOr k.data 6 (n - 1)).drop 4
    [k.p 0, 2 ^ n - 1, b2n (n < 3 + k.p 1), 0] ++ v 0 ++ v 1 ++ v 2 ++ v 3 ++ cur ++ [0, 0]
  | 9 => leBytes 4 (crc32c (k.input.take (8 * k.prog))) ++ leBytes 4 (crc32c k.input) ++ leBytes 4 k.prog
  | 12 =>
    if k.data.length < 4 then []
    else
      let a := field k.data 0 2
      let b := field k.data 2 2
      [k.p 0, k.p 1, 0, 0] ++ leBytes 2 (s.fld (rsvBase (k.p 0)) 15 0) ++ k.data.take 4
        ++ leBytes 2 (toBits 16 (sx 16 (b + 2 ^ 16 - a) - 16384))
  | _ => k.data

/-- Groups that the take holds in TEST return to STARTUP (R481). -/
def State.takeRelease (s : State) (k : Take) : State :=
  (s.takeGroups k).foldl (fun s g => if (s.grp g).st == .test then s.grpStartup g else s) s

/-- The take ends: EV236, its result and its notice (R483, R484, Table 20.3). -/
def State.takeEnd (s : State) (h : Nat) (st : Status) : State :=
  let k := s.take h
  let s := s.takeRelease k
  let s := match k.waiting with
    | some (sq, id) => s.decide sq id (if k.st == TakeSt.cancelling && k.endStatus == Status.cancelled then Status.ok else Status.refused) 0 s.now
    | none => s
  if k.lost then { s with hif := { s.hif with takes := del s.hif.takes h } }
  else
    let k := { k with st := .ended, status := st, waiting := none, todo := [], input := [] }
    let data := if st != .ok && (k.no == 7 || k.no == 10) then none else some (s.takeData { k with input := (s.take h).input })
    let s := (s.setTake h k).raise 236 [h, k.no, st.code, k.cause]
    let s := match data with
      | some l => s.send (.result k.resAddr k.no st.code k.cause k.step k.start s.now l.length (l.take k.resLen))
      | none => s
    s.takeNotice h k.no k.resAddr st.code

/-- One phase in the result of TK5 (Table 19.17). -/
def State.diagBytes (s : State) (n : Nat) : List Nat :=
  [n, getD s.gdv.res n 0, getD s.gdv.ratio n 0 / 256, getD s.gdv.ratio n 0 % 256]

/-- The cancel result of a take (Table 19.12). -/
def State.takeUndo (s : State) (h : Nat) : State :=
  let k := s.take h
  match k.no with
  | 2 => { s with lpe := { s.lpe with swaps := s.lpe.swaps.filter (fun w => w.take != h) } }
  | 5 =>
    let mine := s.gdv.diag.filter (fun g => g.take == h)
    let left := if k.aux.isEmpty then k.todo else k.todo.drop 1
    let fin := match mine with
      | some g => g.legs.take g.idx
      | none => if k.aux.isEmpty then [] else s.bridgeLegs k (k.todo.headD 0)
    let s := if mine.isSome then s.diagAbort else s
    let s := (left.map (fun n => s.bridgeLegs k n)).foldl (fun s l => s.diagUndone l) s
    s.setTake h { k with prog := k.prog + fin.length, data := k.data ++ (fin.map s.diagBytes).flatten }
  | 6 => ((s.takeGroups k).map (fun g => s.groupChs g)).flatten.foldl (fun s c =>
      s.setCh c { s.ch c with src := none, snk := none, limSrc := 0, limSnk := 0 }) s
  | _ => s

/-- A take that has not passed its commit point is to end with a status and a cause (R481, R482). -/
def State.takeDoom (s : State) (h : Nat) (st : Status) (cause : Nat) : State :=
  let k := s.take h
  if !k.open? then s
  else
    let s := match k.waiting with
      | some (sq, id) => s.decide sq id .refused 0 s.now
      | none => s
    (s.setTake h { k with st := .cancelling, endStatus := st, cause := cause, waiting := none }).takeUndo h

/-- A take ends at once with its cancel result (R489, R490). -/
def State.takeKill (s : State) (h : Nat) (cause : Nat) : State :=
  let s := s.takeDoom h .aborted cause
  if (s.take h).st == .cancelling then s.takeEnd h (s.take h).endStatus else s

/-- Takes whose groups have left TEST, or whose preconditions are lost, end (R481). -/
def State.takesCheck (s : State) : State :=
  (s.hif.takes.map (·.1)).foldl (fun s h =>
    let k := s.take h
    if !k.open? || k.todo.isEmpty then s
    else if k.needsSto && !(s.takeGroups k).all s.stoFree then s.takeDoom h .aborted 4
    else if (s.takeGroups k).any (fun g => (s.grp g).st != .test) then s.takeDoom h .aborted 3
    else if !s.takeKeeps k then s.takeDoom h .aborted 4
    else s) s

/-! ### Steps -/

/-- The take goes on to its next unit: TK5 diagnoses a bridge, TK2 waits for its boundary, TK11 passes over
memories that a wipe has scrubbed (R131, R192, R572). -/
def State.takeProceed (s : State) (h : Nat) : State :=
  let k := s.take h
  if k.st != .running then s
  else match k.no, k.todo with
    | 2, [_] =>
      match s.swapImage (k.p 0) k.input with
      | .ok g => { s with lpe := { s.lpe with swaps := s.lpe.swaps ++ [{ img := g, take := h }] } }
      | .error _ => s
    | 5, n :: _ =>
      if s.gdv.diag.isSome then s
      else (s.setTake h { k with aux := [1] }).diagStart h (s.bridgeLegs k n)
    | 11, l =>
      let done := l.takeWhile (fun m => k.skip.contains m)
      s.setTake h { k with todo := l.drop done.length, prog := k.prog + done.length
                           data := k.data ++ (done.map (fun m => [m] ++ List.replicate 11 0)).flatten }
    | _, _ => s

/-- The unit at the head of the list is done, with n more units counted and data added. -/
def State.takePop (s : State) (h n : Nat) (data : List Nat) : State :=
  let k := s.take h
  let todo := k.todo.drop 1
  let pt := k.pointAfter todo.length
  (s.setTake h { k with todo := todo, prog := k.prog + n, data := k.data ++ data
                        step := if pt then min 4095 (k.step + 1) else k.step
                        atPoint := pt && k.st == .suspending }).takeProceed h

/-- The take has failed a check of its own: nothing is left to do (Table 19.7). -/
def State.takeFail (s : State) (h : Nat) : State :=
  s.setTake h { s.take h with todo := [], endStatus := .failed, cause := 5, atPoint := false }

/-- One piece of an image goes into the inactive bank, which holds no image from then on (R544). -/
def State.bankErase (s : State) (slot : Nat) : State :=
  let b := if s.secu.bankB.contains slot then 0 else 1
  s.setSecu { s.secu with imgs := del s.secu.imgs (2 * slot + b) }

/-- Rewrite the boot record with the other bank of a slot as the active one (R488, R539, R544). -/
def State.bankFlip (s : State) (slot : Nat) : State :=
  s.bootWrite (s.secu.flipped slot)

/-- The partition restarts: its commands are held (R488). -/
def State.partRestart (s : State) (p : Nat) : State :=
  { s with gaf := { s.gaf with restarting := insN s.gaf.restarting p, partUp := s.gaf.partUp.filter (· != p) } }

/-- TK1 verifies its image and, when it passes, commits (R541, R544). -/
def State.takeCommit (s : State) (h : Nat) : State :=
  let k := s.take h
  let slot := k.p 0 + 1
  match s.partImage slot k.input with
  | none => s.takeFail h
  | some g =>
    let old := getD s.secu.rb slot 0
    if g.ver < old then (s.raise 243 [slot, g.ver, old]).takeFail h
    else
      let was := s.secu.bankB.contains slot
      let run := s.runImg slot
      let s := s.setSecu { s.secu with imgs := put s.secu.imgs (2 * slot + (if was then 0 else 1)) g }
      let both := s.secu.imgs.any (fun x => x.1 == 2 * slot + (if was then 1 else 0))
      let s := if both then s.setSecu { s.secu with rb := put s.secu.rb slot (max old (min g.ver run.ver)) } else s
      let s := (s.bankFlip slot).partRestart (k.p 0)
      (s.setTake h { s.take h with committed := true }).takePop h 0 g.dig

/-- TK8 writes the coefficients of an estimate whole: r25, alpha, and r_k and tau_k (R487, Table 16.3). -/
def State.estCoeffs (s : State) (e : Nat) (l : List Nat) : State :=
  let w := fun (i : Nat) => field l (4 * i) 2 * 2 ^ 16 + field l (4 * i + 2) 2
  if 98 ≤ e then s
  else (List.range 5).foldl (fun s i => s.setReg (estKey e + 0x14 + 4 * i) (w i)) s

/-- TK9 appends its next entries as CUE_APPEND would, or stops appending (R486). -/
def State.takeAppend (s : State) (h n : Nat) : State :=
  let k := s.take h
  let sec := k.p 0
  let ws := cueWords { count := n, data := k.input.drop (8 * k.prog) }
  if !s.sxe.running || !s.secEn sec || !ws.all cueLegal then s.takeFail h
  else if s.secLimit sec < (s.sec sec).used + n || s.sharedFree < s.cueExtra sec n then (s.raise 130 [sec, n]).takeFail h
  else
    let s := s.cueReserve sec n
    let s := s.awaitRest 0x0702 { t := s.now } (.cueAppend sec ws)
    s.takePop h n []

/-- TK12: its two angles, the second just measured, fit one resolver (R487). -/
def Take.alignGood (k : Take) (l : List Nat) : Bool :=
  let d := (k.data ++ l).take 4
  (sx 16 (field d 2 2 + 2 ^ 16 - field d 0 2) - 16384).natAbs ≤ 910 && k.p 0 < 4

/-- TK12: the angle of an alignment; after the second, a failure or success (R487). -/
def State.takeAlign (s : State) (h u : Nat) (l : List Nat) : State :=
  let k := s.take h
  let s := s.takePop h 0 (l.take 2)
  if u = 0 || k.alignGood l then s else s.takeFail h

/-- The set-up registers that a unit of TK8 or the last of TK12 writes: coefficients, or ofs of a resolver (R487). -/
def State.calibrated (s : State) (h : Nat) (l : List Nat) (ok : Bool) : State :=
  let k := s.take h
  match k.todo with
  | [] => s
  | u :: _ =>
    if !ok then s
    else if k.no = 8 then s.estCoeffs u l
    else if k.no = 12 && u != 0 && k.alignGood l then
      let b := rsvBase (k.p 0)
      s.setReg b (s.reg b / 2 ^ 16 * 2 ^ 16 + (s.fld b 15 0 + 2 ^ 16 - field ((k.data ++ l).take 4) 0 2) % 2 ^ 16)
    else s

/-- The unit at the head of the list is done: l is what was measured or read, ok whether it went well. -/
def State.takeStep (s : State) (h : Nat) (l : List Nat) (ok : Bool) : State :=
  let k := s.take h
  match k.todo with
  | [] => s
  | u :: r =>
    match k.no with
    | 1 =>
      let slot := k.p 0 + 1
      match r.length with
      | 0 => if ok then s else (s.bankFlip slot).takeFail h
      | 1 => s.takeCommit h
      | _ => if ok then (s.bankErase slot).takePop h u [] else (s.bankErase slot).takeFail h
    | 2 =>
      if u = 1 then s
      else match s.swapImage (k.p 0) k.input with
        | .ok g => if s.swapOwn g then s.takePop h k.input.length [] else (s.raise 107 [8, 0]).takeFail h
        | .error e => (s.raise 107 [e.1, e.2]).takeFail h
    | 5 =>
      if k.aux.isEmpty then s.takeProceed h
      else if s.gdv.diag.any (fun g => g.take == h) then s
      else
        let legs := s.bridgeLegs k u
        (s.setTake h { k with aux := [] }).takePop h legs.length (legs.map s.diagBytes).flatten
    | 9 => if ok then s.takeAppend h u else s.takeFail h
    | _ =>
      if !ok then s.takeFail h
      else match k.no with
        | 3 => (s.regionsWipe 1 (k.p 0 + k.prog / 4096) u).takePop h (u * 4096) []
        | 4 => s.takePop h 1 (l.take 6)
        | 6 => s.takePop h 1 ([u, 0, 0, 0] ++ l.take 64)
        | 7 => s.takePop h 0 (l.take 8 ++ leBytes 2 (min 65535 s.vLink) ++ [s.ppm.path.code] ++ List.replicate 5 0)
        | 8 => s.takePop h 1 ([u, 0, 0, 0] ++ l.take 24)
        | 10 =>
          if s.secu.attest && slateSigned k.data l then
            (s.takePop h 0 (l.take 1793 ++ [0, 0, 0] ++ (l.drop 1796).take 1280)).raise 246 [3844]
          else s.takeFail h
        | 11 => s.takePop h 1 ([u, 0, 0, 0] ++ l.take 8)
        | 12 => s.takeAlign h u l
        | _ => s

/-- The last step is done: the take ends with OK or FAILED; TK9 verifies what it has stored (R483, R486). -/
def State.takeFinish (s : State) (h : Nat) : State :=
  let k := s.take h
  if k.no = 9 && crc32c (k.input.take (8 * k.prog)) != crc32c k.input then
    let s := s.cueFlush (k.p 0) true
    (s.setTake h { s.take h with cause := 5 }).takeEnd h .failed
  else s.takeEnd h k.endStatus

/-- A reset of domain d wipes memories that TK11 has still to scrub (R572). -/
def State.takesWipe (s : State) (d : Nat) : State :=
  (s.hif.takes.map (·.1)).foldl (fun s h =>
    let k := s.take h
    if k.busy && k.no == 11 then
      (s.setTake h { k with skip := k.skip ++ (k.todo.filter (fun m => (memRow m).2.2 == d)) }).takeProceed h
    else s) s

end Sys2Proof.Machine
end

