-- ==== Sys2Proof/Machine/React.lean ====
section
/-! DEFINITION. What follows in other blocks when leg groups change their state or are forced: commutation
units, rails, sessions, takes and precedence reports. -/

namespace Sys2Proof.Machine

/-- A rail of a group follows it out of RUN and RECOVERY: LATCHED at the next boundary, with cause OV when vc is
among the causes of a latch (Table 13.2, R318). -/
def State.reactRail (s : State) (old : Grp) (g r : Nat) : State :=
  let new := s.grp g
  if (old.st == .run || old.st == .recovery) && !(new.st == .run || new.st == .recovery) then
    s.railDoom r (if new.st == .latched && new.kinds.contains 3 then 3 else 2)
  else s

/-- Precedence causes of a group: LINK_ASC, RAIL_CROWBAR, THM_SHUTDOWN, TRIP and SAFETY_STOP (Table 15.2). -/
def State.reactPrec (s : State) (old : Grp) (g : Nat) : State :=
  let new := s.grp g
  let k := srcKind new.firstSrc
  let into := new.st == .latched && old.st != .latched
  let on := s.routedOn g
  let s := if g < 4 then s.precIs (s.vc6Forces g) 2 (rankBit 3) 3 g else s
  let s := if g = 5 || g = 6 then
      s.precIs (new.forced && on.any (fun n => n == 306 || n == 307)) 2 (rankBit 4) 4 (g - 5) else s
  let s := if into then s.precGrp (k == 4) 2 5 g else if new.st == .latched then s else s.precGrp false 2 5 g
  let s := if into then s.precGrp (k < 4 || k == 7) 2 7 g else if new.st == .latched then s else s.precGrp false 2 7 g
  s.precGrp (new.forced && on.any (fun n => srcKind n == 5 || srcKind n == 6)) 1 11 g

/-- Group g has gone from old to what it is now. -/
def State.reactGrp (s : State) (old : Grp) (g : Nat) : State :=
  let left := old.st == .run && (s.grp g).st != .run
  let s := if left then s.cmuTrip g else s
  let s := if g = 5 then s.reactRail old 5 0 else if g = 6 then s.reactRail old 6 1 else s
  let s := if left && (g == 7 || g == 8) then s.sesEnd 6 else s
  s.reactPrec old g

/-- What follows from the groups' changes since s0 (R244, R318, R374, R387, R481, Table 14.5). -/
def State.react (s s0 : State) : State :=
  let s := (List.range 16).foldl (fun s g => s.reactGrp (s0.grp g) g) s
  s.takesCheck.dclStageEv

/-- Run an effect with what follows from it at the leg groups. -/
def runR (t : Nat) (s : State) (k : State → State) : Out := run t s (fun s => (k s).react s)

/-- The same when a condition holds. -/
def runRIf (t : Nat) (s : State) (c : State → Bool) (k : State → State) : Out :=
  run t s (fun s => if c s then (k s).react s else s)

/-- A ring command whose effect may change leg groups. -/
def hostRunR (code : Nat) (d : Desc) (s : State) (k : State → State) : Out :=
  hostRun code d s (fun s => (k s).react s)

end Sys2Proof.Machine
end

