-- ==== Sys2Proof/Machine/Afe.lean ====
section
/-! DEFINITION. The analogue front end (chapters 03, 04, 07 and 26) and the peak-current comparators (R62). -/

namespace Sys2Proof.Machine

/-- A result breaks the limit of OCLi (R87, Table 4.8). -/
def State.oclBreaks (s : State) (i : Nat) (code : Int) : Bool :=
  let r := 0x2940 + 4 * i
  let lim : Int := (s.fld r 12 0 : Nat)
  match s.fld r 14 13 with
  | 0 => lim < code.natAbs
  | 1 => lim < code
  | 2 => code < -lim
  | _ => false

/-- Every OCL of an input compares its new result (R87); the assertion has fine part 0 (notes/assumptions/52.md). -/
def State.oclCheck (s : State) (input : Nat) (code : Int) : State :=
  (List.range 32).foldl (fun s i =>
    if s.fld (0x2940 + 4 * i) 31 25 = input then
      if s.oclBreaks i code then s.assertSrc (272 + i) (s.now * 32) else s.releaseSrc (272 + i)
    else s) s

/-- A conversion of input i with its aperture, as a fine timestamp, is ready (R168, R395, R587). -/
def State.afeResult (s : State) (i : Nat) (code : Int) (aperture : Nat) : State :=
  let code := clampI (-8192) 8191 code
  let s := { s with afe := { s.afe with ins := put s.afe.ins i { code := code, aperture := aperture } } }
  let s := s.oclCheck i code
  let s := if 60 ≤ i && i < 72 then s.snsRead (i - 60) else s
  if i = 26 then s.chopWatch else s

/-- The instant of trigger k of leg n in the running period (R67). -/
def State.trigAt (s : State) (n k : Nat) : Nat := (s.leg n).start + s.trigOfs n k (s.leg n).act

/-- ADC_TRIGGER: leg n pulses the line of its trigger k (R67 to R69, R168). -/
def execAdcTrigger (t n k fine : Nat) (s : State) : Out :=
  runIf t s (fun s =>
    let l := s.leg n
    s.up dCtrl && n < 68 && k < 2 && fine < 32 && l.carrier && 0 < l.periods && s.trigSel n k != 0 && t == s.now
    && s.trigAt n k == t * 32 + fine && (l.periods - 1) % s.trigDiv n == 0) (fun s =>
    let x := s.trigLine n k
    if getD s.mod.lines x 0 = t + 1 then s
    else
      let s := { s with mod := { s.mod with lines := put s.mod.lines x (t + 1) } }
      let cs : List Conv := (s.lineInputs x).map (fun i =>
        { input := i, line := x, trig := t * 32 + fine, ready := t + 260 + 80 * s.convPos x i })
      { s with afe := { s.afe with convs := s.afe.convs ++ cs } })

/-- AFE_CONVERSION_DONE: the result of a triggered conversion of input i becomes ready (R68, R87, R168). -/
def execAfeConversionDone (t i : Nat) (code : Int) (s : State) : Out :=
  runR t s (fun s =>
    match s.afe.convs.find? (fun x => x.input == i && x.ready ≤ s.now) with
    | none => s
    | some x =>
      if !s.up dCtrl then s
      else
        let s := { s with afe := { s.afe with convs := s.afe.convs.erase x } }
        let s := s.afeResult i code (x.trig + 160 * 32)
        s.runsCapture i x.line x.trig (s.afeCode i))

/-- No enabled AFE binding names an input of converter v (R587). -/
def State.convFree (s : State) (v : Nat) : Bool := (List.range 32).all (fun l => (s.lineInputs l).all (fun i => i / 4 != v))

/-- AFE_SCAN_CONVERSION: converter v, which no binding names, converts its next input, one every 80 ticks; its aperture
opened 100 ticks before (R587). -/
def execAfeScanConversion (t conv : Nat) (code : Int) (s : State) : Out :=
  runRIf t s (fun s => s.up dCtrl && conv < 24 && s.convFree conv && Nat.ble (getD s.afe.scanNext conv 0) s.now) (fun s =>
    let k := getD s.afe.scan conv 0
    let s := { s with afe := { s.afe with scan := put s.afe.scan conv ((k + 1) % 4),
                                           scanNext := put s.afe.scanNext conv (s.now + 80) } }
    s.afeResult (4 * conv + k) code ((s.now - 100) * 32))

/-- The earliest end of the high command of leg n: t_d + t_min after its commanded start (R62). -/
def State.peakLeast (s : State) (n : Nat) : Nat := (s.leg n).shape.loOff + s.legTd n + s.legTmin n

/-- The period of leg n with its high command ended at a comparator trip ofs after the carrier start: the end, never
before the earliest and never after the clamp limit or the period, is the compare that the erosion table sees (R62). -/
def State.peakShape (s : State) (n ofs : Nat) : Shape :=
  let l := s.leg n
  let sh := l.shape
  let off := min sh.hiOff (max ofs (s.peakLeast n))
  if off = sh.hiOff then sh
  else
    let x := erode (classF n) (s.rb (legBase n) 25) (fun _ => sh.loOff) l.len (off - sh.loOff) (s.legTd n) (s.legTmin n) (s.legTref n)
    if x.hiOn < x.hiOff then { x with hiOn := sh.hiOn } else x

/-- PEAK_COMPARATOR_TRIP: the comparator of a pk_term leg trips ofs fine steps after the carrier start (R62). -/
def execPeakComparatorTrip (t n ofs : Nat) (s : State) : Out :=
  runIf t s (fun s =>
    let l := s.leg n
    s.up dCtrl && 14 ≤ n && n < 28 && !(s.ppm.ses.st == .supply && s.ppm.ses.kind == 4 && (n == 24 || n == 27)) && s.rb (legBase n) 24 && l.active && t == s.now && (l.start + ofs) / 32 == t
    && l.shape.hiOn < l.shape.hiOff && l.shape.loOff ≤ ofs && ofs < l.shape.hiOff) (fun s =>
    let least := s.peakLeast n
    let s := s.setLeg n { s.leg n with shape := s.peakShape n ofs }
    if 24 ≤ n then s
    else
      let r := if n < 20 then 0 else 1
      let p := if n < 20 then n - 14 else n - 20
      let x := s.phase r p
      if x.ended = 0 then s.setPhase r p { x with ended := if ofs ≤ least then 1 else 2 } else s)

end Sys2Proof.Machine
end

