-- ==== Sys2Proof/Machine/Clap.lean ====
section
/-! DEFINITION. The timebase and the clapper (chapter 02): device time reads, the start of the clapper and
the slaving states.  The boundary itself stands in Boundary.lean. -/

namespace Sys2Proof.Machine

def State.setTbu (s : State) (v : Tbu) : State := { s with tbu := v }

/-- slave (Table 2.2). -/
def State.slaved (s : State) : Bool := s.rb 0x808 30
/-- slew_limit (Table 2.4). -/
def State.slewLimit (s : State) : Nat := s.fld 0x80C 7 0
/-- Clapper periods per CLAP_IN edge in fine steps. -/
def State.edgeSpan (s : State) : Nat := s.fld 0x80C 31 24 * s.fld 0x808 18 0 * 32

/-- in_ofs (Table 2.6). -/
def State.inOfs (s : State) : Int := sx 16 (s.fld 0x814 15 0)

/-- The register whose fields keep the clapper from starting (Table 2.2, R33); none when it may start.  An in_div of
129 to 255 is refused as Table 2.4 bounds it, though R33 names 0 only; where several checks fail the first of this
order is named, and a P − slew_limit below 2,000 names TBU_SLAVE_CFG: DESIGN CHOICE (notes/assumptions/51.md). -/
def State.clapBad (s : State) : Option Nat :=
  let P := s.clapP
  let w := s.fld 0x810 15 0
  if !(2000 ≤ P && P ≤ 400000) then some 0x808
  else if !s.slaved then none
  else if s.fld 0x80C 31 24 = 0 || 128 < s.fld 0x80C 31 24 || s.fld 0x80C 23 16 = 0 || s.fld 0x80C 15 8 = 0
    || s.slewLimit = 0 then some 0x80C
  else if !(40 ≤ w && w ≤ 4000 && 2 * w < P) then some 0x810
  else if P < 2000 + s.slewLimit then some 0x80C
  else none

/-- The clapper starts at this tick (R27, R28). -/
def State.clapStart (s : State) : State :=
  s.setTbu { s.tbu with running := true, startTick := s.now, period := s.clapP, nextB := s.now + s.clapP, count := 0 }

/-- Start the clapper when its fields are legal, else EV228 with the register (R33). -/
def State.clapTry (s : State) : State :=
  match s.clapBad with
  | none => s.clapStart
  | some r => s.raise 228 [r]

/-- A write to TBU_CLAP_CFG (Table 2.2, R33, R34, R582). -/
def State.writeClapCfg (s : State) (val be : Nat) : State :=
  if be % 16 = 0 then s
  else if s.lock.locked then s.raise 251 [0x808]
  else if s.tbu.running then s.raise 228 [0x808]
  else
    let v := mergeBits (beMask be &&& 0xC007FFFF) (s.reg 0x808) val
    let s := s.setReg 0x808 v
    if bitAt v 31 then
      let s' := s.clapTry
      if s'.tbu.running then s' else s'.setReg 0x808 (v % 2 ^ 31)
    else s

/-- CLAPPER_START: a write to TBU_CLAP_CFG that sets clap_en (R28, R33, R34). -/
def execClapperStart (t val be : Nat) (s : State) : Out := runCfg t s (fun s => s.writeClapCfg val be)

/-- TIME_LO_READ: captures bits 63:32 of device time (R26). -/
def execTimeLoRead (t : Nat) (s : State) : Out :=
  run t s (fun s => { s.setTbu { s.tbu with timeHi := s.now / 2 ^ 32 % 2 ^ 32 } with readout := s.now % 2 ^ 32 })

/-! ### Slaving (R31 to R36, Table 2.7) -/

/-- HOLDOVER ends at its deadline (Table 2.7, R39).  FREE uses no rate correction, so rate_corr reads 0 there: DESIGN
CHOICE (notes/assumptions/11.md). -/
def State.holdoverEnd (s : State) : State :=
  if s.tbu.state == .holdover && s.tbu.holdDl ≤ s.now then (s.setTbu { s.tbu with state := .free, rateCorr := 0 }).raise 226 []
  else s

/-- A rate correction of the spec's range that the edges lead to; how it is averaged is left open
(Table 2.8). -/
def State.newRate (s : State) : State :=
  let (r, s) := s.freeInt
  s.setTbu { s.tbu with rateCorr := clampI (-25000) 25000 r }

/-- An edge at fine timestamp x while FREE sets the expected phase; the TBU acquires (R31, Table 2.7). -/
def State.edgeFree (s : State) (x : Nat) : State :=
  s.setTbu { s.tbu with state := .acquire, good := 0, missed := 0, expect := x + s.edgeSpan
                        aim := x + s.inOfs * 32, span := s.edgeSpan }

/-- The interval of CLAP_IN that an edge at x shows with the last used one, over the missed edges between (R31). -/
def State.edgeGap (s : State) (x : Nat) : Nat := ((x : Int) - (s.tbu.aim - s.inOfs * 32)).toNat / (s.tbu.missed + 1)

/-- An edge in the window: its phase error is kept, the boundaries aim at it plus in_ofs, and enough good ones in
ACQUIRE lock (R31, R35).  The next edge is expected in_div periods P of device time later: DESIGN CHOICE
(notes/assumptions/11.md). -/
def State.edgeInWindow (s : State) (x : Nat) (err : Int) : State :=
  let good := if err.natAbs ≤ 4 * 32 then s.tbu.good + 1 else 0
  let s := (s.setTbu { s.tbu with phErr := err, missed := 0, good := good, expect := x + s.edgeSpan
                                  aim := x + s.inOfs * 32, span := s.edgeGap x }).newRate
  match s.tbu.state with
  | .holdover => s.setTbu { s.tbu with state := .acquire, good := 0 }
  | .acquire => if s.fld 0x80C 23 16 ≤ good then (s.setTbu { s.tbu with state := .locked }).raise 224 [] else s
  | _ => s

/-- CLAP_IN_EDGE: a rising edge of CLAP_IN at tick t and a fine part (R31, R35, Table 2.7). -/
def execClapInEdge (t fine : Nat) (s : State) : Out :=
  runIf t s (fun s => s.tbu.running && s.slaved) (fun s =>
    let s := s.holdoverEnd
    let x := t * 32 + fine % 32
    let err : Int := (x : Int) - s.tbu.expect
    if s.tbu.state == .free then s.edgeFree x
    else if err.natAbs ≤ s.fld 0x810 15 0 * 32 then s.edgeInWindow x err
    else
      let o := s.tbu.outside
      (s.setTbu { s.tbu with good := 0, outside := true }).raiseIf (!o) 227 [])

/-- CLAP_IN_MISSED: the window around the expected edge has passed with no edge in it (R35). -/
def execClapInMissed (t : Nat) (s : State) : Out :=
  runIf t s (fun s => s.tbu.running && s.slaved && s.tbu.state != .free
                      && s.tbu.expect + s.fld 0x810 15 0 * 32 < (s.now + 1) * 32) (fun s =>
    let s := s.holdoverEnd
    let m := s.tbu.missed + 1
    let s := s.setTbu { s.tbu with missed := m, good := 0, expect := s.tbu.expect + s.edgeSpan }
    if m < s.fld 0x80C 15 8 then s
    else
      let ms := s.fld 0x810 31 16
      match s.tbu.state with
      | .acquire => (s.setTbu { s.tbu with state := .free, rateCorr := 0 }).raise 226 []
      | .locked =>
        if ms = 0 then (s.setTbu { s.tbu with state := .free, rateCorr := 0 }).raise 226 []
        else (s.setTbu { s.tbu with state := .holdover, holdDl := s.inMs ms }).raise 225 []
      | _ => s)

/-- CLAP_HOLDOVER_EXPIRED: holdover_ms has passed (R35). -/
def execClapHoldoverExpired (t : Nat) (s : State) : Out :=
  runIf t s (fun s => s.tbu.state == .holdover && s.tbu.holdDl ≤ s.now) (fun s => s.holdoverEnd)

/-- Distance of the boundaries aimed at, in 10^-8 fine steps: as the last edges show it, and in HOLDOVER P with the
rate correction, whose fraction is so carried from period to period (R32, Table 2.7, notes/assumptions/11.md). -/
def State.aimStep (s : State) : Int :=
  if s.tbu.state == .holdover then (s.clapP * 32 : Nat) * (100000000 + s.tbu.rateCorr)
  else ((s.tbu.span * 100000000 / s.fld 0x80C 31 24 : Nat) : Int)

/-- The boundary instant aimed at that lies nearest to x, in fine steps (R31). -/
def State.aimNear (s : State) (x : Int) : Int :=
  let S := s.aimStep
  let k := (2 * ((x - s.tbu.aim) * 100000000) + S) / (2 * S)
  s.tbu.aim + k * S / 100000000

/-- The length of a period from b that ends at the tick nearest to the instant aimed at, within P ± slew_limit (R31,
R32). -/
def State.aimPeriod (s : State) (b : Nat) : Int :=
  let P : Int := s.clapP
  clampI (P - s.slewLimit) (P + s.slewLimit) ((s.aimNear ((b + P) * 32) + 16) / 32 - b)

/-- The length of the clapper period that begins at b (R27, R32, R35, R36, Table 2.7): FREE moves toward P by at
most slew_limit.  In ACQUIRE it is slewed toward the phase of CLAP_IN, by how much is open; in LOCKED the boundary
ends within 10 ns of the instant aimed at, where P ± slew_limit reaches it; HOLDOVER keeps the rate correction. -/
def State.nextPeriod (s : State) (b : Nat) : Nat × State :=
  let P := s.clapP
  if !s.slaved then (P, s)
  else
    let sl := s.slewLimit
    let c := s.aimPeriod b
    match s.tbu.state with
    | .free =>
      (if s.tbu.period < P then min P (s.tbu.period + sl) else max P (s.tbu.period - sl), s)
    | .acquire =>
      let (v, s) := s.freeInt
      ((clampI (min P c) (max P c) v).toNat, s)
    | .locked =>
      let (v, s) := s.freeInt
      ((clampI ((P : Int) - sl) (P + sl) (clampI (c - 3) (c + 3) v)).toNat, s)
    | .holdover => (c.toNat, s)

/-- The clapper at its boundary: boundary number, CLAP_OUT for 1 µs, and the next period (R27, R29,
R32). -/
def State.clapTick (s : State) : State :=
  let b := s.tbu.nextB
  let (p, s) := s.nextPeriod b
  s.setTbu { s.tbu with lastB := b, nextB := b + p, period := p, count := s.tbu.count + 1, outside := false
                        outFall := b + ticksPerUs }

end Sys2Proof.Machine
end

