-- ==== Sys2Proof/Machine/Modulator.lean ====
section
/-! DEFINITION. The commands of the modulator (chapter 03) but the carrier starts. -/

namespace Sys2Proof.Machine

/-- LEG_ENABLE (R72, R73, R221, R311, R598). -/
def execLegEnable (d : Desc) (s : State) : Out :=
  hostRun 0x0200 d s (fun s =>
    let n := d.target
    if !s.tbu.running || (s.leg n).enabled || s.legOwned n then s.refuse d
    else if s.legOk n then (s.legStart n).ok d
    else (s.raise 229 [n]).refuse d)

/-- LEG_DISABLE (R70, R221, R311, R598). -/
def execLegDisable (d : Desc) (s : State) : Out :=
  hostRun 0x0201 d s (fun s =>
    if (s.leg d.target).enabled && !s.legOwned d.target then (s.legStop d.target).ok d else s.refuse d)

/-- LEG_SET_CMP on BK0 or BK1: refused where LPE owns the compare value (R45, R57). -/
def execLegSetCmp (d : Desc) (s : State) : Out :=
  hostRun 0x0202 d s (fun s =>
    let l := s.leg d.target
    if s.mod.lpeBk.contains d.target then s.refuse d
    else (s.setLeg d.target { l with shadow := { l.shadow with tc := d.par 0 * 32 + d.par 1 } }).ok d)

/-- VALVE_ENABLE (R598). -/
def execValveEnable (d : Desc) (s : State) : Out :=
  hostRun 0x0203 d s (fun s =>
    let m := d.target
    if !s.tbu.running || (s.valve m).enabled then s.refuse d
    else if s.valveOk m then (s.setValve m { (s.valve m).reckon (s.now * 32) with enabled := true, part := 0 }).ok d
    else (s.raise 229 [m + 68]).refuse d)

/-- VALVE_DISABLE (R70, R598). -/
def execValveDisable (d : Desc) (s : State) : Out :=
  hostRun 0x0204 d s (fun s =>
    let v := s.valve d.target
    if v.enabled then (s.setValve d.target { v.reckon (s.now * 32) with enabled := false }).ok d else s.refuse d)

/-- VALVE_SET: the duty reaches the shadow set at the command's tick, the gate acts at the next boundary
(R76). -/
def execValveSet (d : Desc) (s : State) : Out :=
  hostRun 0x0205 d s (fun s =>
    let m := d.target
    let duty := bitAt (d.par 2) 0
    let gate := bitAt (d.par 2) 1
    if (duty && s.dutySrc m != 0) || (gate && s.gateSxe m) then s.refuse d
    else
      let s := if duty then s.setValve m { s.valve m with shDuty := d.par 0 } else s
      if gate && !duty then s.await 0x0205 d (.valveGate m (d.par 1 == 1))
      else
        let s := s.ok d
        if gate then s.awaitRest 0x0205 d (.valveGate m (d.par 1 == 1)) else s)

/-- VALVE_PERIOD (R79). -/
def execValvePeriod (d : Desc) (s : State) : Out :=
  hostRun 0x0206 d s (fun s =>
    if s.vPeriodOk d.target (d.par 0) then s.await 0x0206 d (.valvePeriod d.target (d.par 0)) else s.refuse d)

/-- t_c of leg n as the clamp leaves it in a period of L (R52). -/
def State.clampTc (s : State) (n L tc : Nat) : Nat :=
  if classF n then tc else min tc (L - s.legTd n - max (s.legTmin n) (s.legTref n))

/-- LEG_CARRIER_CENTRE: with upd_mid = 1 the carrier centre is an update instant; the pulse keeps the
turn-on edge of the old set, as that set's clamp has placed it, and the erosion table and the clamp apply to its new
length; an output that was on until the centre still gives its dead time (R47, R52, R58, R60). -/
def execLegCarrierCentre (t n : Nat) (s : State) : Out :=
  runIf t s (fun s =>
      let l := s.leg n
      s.up dCtrl && n < 68 && l.carrier && s.rb (legBase n) 26 && s.legMode n == 1 && !l.mid
      && l.start + l.len / 2 < (s.now + 1) * 32 && 0 < l.periods)
    (fun s =>
      let l := s.leg n
      let L := l.len
      let on := (L - s.clampTc n L l.act.tc) / 2
      let off := (((L : Int) - l.shadow.tc) / 2 + l.shadow.tc).toNat
      let sh := erode (classF n) (s.rb (legBase n) 25) (fun _ => on) L (off - on) (s.legTd n) (s.legTmin n) (s.legTref n)
      s.setLeg n { l with last := s.legEdges n (l.start + L / 2), act := l.shadow, shape := sh, mid := true })

end Sys2Proof.Machine
end

