-- ==== Sys2Proof/Machine/CmuLoop.lean ====
section
/-! DEFINITION. The control loops of the commutation units (chapter 09): what a driving unit does with each carrier
period: shared operations. -/

namespace Sys2Proof.Machine

/-! ### Angles (Table 9.2, R225, R230, R231) -/

/-- Speed w, in 0.25 rpm, over a time in ticks, as an electrical angle in 1/65,536 turn. -/
def State.turned (s : State) (u : Nat) (w : Int) (ticks : Nat) : Int :=
  divOpen (w * s.cmuPp u * 65536 * ticks) (240 * ticksPerS)

/-- The angle to which a ramp that began at tick b has turned the vector by tick t: at acc_max up to hand_rpm, then at
hand_rpm (R231). -/
def State.rampAngle (s : State) (u b t : Nat) : Int :=
  let e := s.handRpm u * ticksPerS / s.accMax u
  let x := min (t - b) e
  let a := divOpen (s.accMax u * s.cmuPp u * 65536 * x * x : Nat) (120 * ticksPerS * ticksPerS)
    + s.turned u (4 * s.handRpm u) (t - b - e)
  if (s.cmu u).fwd then a else -a

/-- A sixth of a turn. -/
def sector : Nat := 10923

/-- The angle that unit u uses at tick t; ang is what the observer has. -/
def State.cmuAngle (s : State) (u t ang : Nat) : Int :=
  let v := s.cmu u
  match v.st with
  | .align => 0
  | .ramp => s.rampAngle u v.since t
  | .precharge => v.loop.ang + s.turned u v.found (t - v.loop.angAt)
  | _ =>
    if s.cmuMode u = 2 then ang
    else
      let p := getD s.fb.pfis (s.cmuHall u) {}
      let e := Config.hallAngle p.hallState
      if s.cmuMode u = 0 then e + sector / 2 + 16384
      else
        let x := min sector (s.turned u (s.hallRpm u) (t - p.hallT / 32)).natAbs
        if p.hallFwd then e + x else e + sector - x

/-- ψ·ω_e at speed w, 0.25 rpm, in units of 10^-17 V (R232, R233). -/
def State.emfAt (s : State) (u : Nat) (w : Int) : Int :=
  w * s.fld (cmuBase u + 8) 15 0 * s.cmuPp u * 31415926535897932 / 1200000

/-- A vector (d, q) turned by an angle in 1/65,536 turn, in steps of 1/1,024 turn. -/
def turnVec (d q ang : Int) : Int × Int :=
  let i := (ang % 65536).toNat / 64
  let sn := sinT i
  let cs := sinT (i + 256)
  ((d * cs - q * sn).tdiv 32767, (d * sn + q * cs).tdiv 32767)

/-! ### Samples (R219, R241, R242) -/

/-- Compare values in force of the three legs of unit u, as the clamp leaves them (R52). -/
def State.cmuTc (s : State) (u : Nat) : List Nat :=
  (cmuLegs u).map (fun n => s.clampTc n (s.leg n).len (s.leg n).act.tc)

/-- Sample windows of the ended period, in ticks, from the compare values in force (R241). -/
def State.cmuWindows (s : State) (u : Nat) : List Nat :=
  let T := (s.leg (cmuU u)).len
  let tc := s.cmuTc u
  let a := tc.getD 0 0
  let b := tc.getD 1 0
  let c := tc.getD 2 0
  if u < 4 then [(T - max a b) / 64]
  else
    let hi := max a (max b c)
    let lo := min a (min b c)
    let mid := a + b + c - hi - lo
    [(hi - mid) / 64, (mid - lo) / 64]

/-- Phase currents of a current in α and β. -/
def phasesOf (a b : Int) : List Int :=
  [a, (-a * 32768 + 2 * 0x6EDA * b).tdiv 65536, (-a * 32768 - 2 * 0x6EDA * b).tdiv 65536]

/-- The current that the model predicts from the last one, the vector applied and the back-EMF at angle ang, in α and β
(R242). -/
def State.cmuPredict (s : State) (u : Nat) (ang : Int) : Int × Int :=
  let l := (s.cmu u).loop
  let T := (s.leg (cmuU u)).len
  let vb : Int := s.busVolt (cmuU u)
  let ls := s.fld (cmuBase u + 4) 31 16
  let rs : Int := s.fld (cmuBase u + 4) 15 0
  -- voltages in 10^-5 V: V_b is in 0.1 V, R_s·i in 10^-5 V
  let volts := fun (x : Int) => (x * vb * 10000 * 577350269).tdiv (32768 * 1000000000)
  let e := (s.emfAt u (s.cmuRpm u)).tdiv 1000000000000
  let (ea, eb) := turnVec 0 e ang
  let next := fun (i v e : Int) => i + divOpen ((v - rs * i - e) * T) (32 * 400000 * ls)
  (next l.iA (volts l.vA) ea, next l.iB (volts l.vB) eb)

/-- The current used for the ended period: the samples i1 and i2 where they were taken, the prediction in place of a
skipped one (R242). -/
def State.cmuCurrent (s : State) (u : Nat) (i1 i2 ang : Int) : Int × Int :=
  let win := s.fld (cmuBase u + 0x24) 31 20
  let ws := s.cmuWindows u
  let (pa, pb) := s.cmuPredict u ang
  if ws.all (fun w => w < win) then (pa, pb)
  else
    let ps := phasesOf pa pb
    let tc := s.cmuTc u
    -- the two phases whose currents the samples give, with the sign of each
    let hi := if u < 4 then 0 else ([0, 1, 2] : List Nat).foldl (fun k j => if tc.getD k 0 < tc.getD j 0 then j else k) 0
    let lo := if u < 4 then 1 else ([2, 1, 0] : List Nat).foldl (fun k j => if tc.getD j 0 < tc.getD k 0 then j else k) 2
    let x := if ws.getD 0 0 < win then ps.getD hi 0 else i1
    let y := if ws.getD (ws.length - 1) 0 < win then ps.getD lo 0 else if u < 4 then i2 else -i2
    let ph := fun (k : Nat) => if k = hi then x else if k = lo then y else -(x + y)
    (ph 0, ((ph 0 + 2 * ph 1) * 0x49E7).tdiv 32768)

/-- The U leg's trigger instants for the compare values in its shadow set: each aperture of 40 ticks,
which opens 160 ticks after its trigger, closes 10 ticks before its state ends (R68, R214, R241). -/
def State.cmuTriggers (s : State) (u : Nat) : State :=
  let n := cmuU u
  let l := s.leg n
  if u < 4 then s.setLeg n { l with shadow := { l.shadow with trg0 := 0 } }
  else
    let T := l.shadow.period * 32
    let tc := (cmuLegs u).map (fun n => s.clampTc n T (s.leg n).shadow.tc)
    let a := tc.getD 0 0
    let b := tc.getD 1 0
    let c := tc.getD 2 0
    let lo := min a (min b c)
    let mid := a + b + c - max a (max b c) - lo
    s.setLeg n { l with shadow := { l.shadow with trg0 := (T - mid) / 2 - 210 * 32, trg1 := (T - lo) / 2 - 210 * 32 } }

/-- Skipped samples of the ended period (R241 to R243); they do not count in ALIGN and RAMP (R231).  pk is the highest
current at a peak comparator. -/
def State.cmuSkip (s : State) (u pk : Nat) : State :=
  let v := s.cmu u
  let counted := v.st != .align && v.st != .ramp
  let skip := counted && (s.cmuWindows u).any (fun w => w < s.fld (cmuBase u + 0x24) 31 20)
  let run := if skip then satInc 255 v.skipRun else 0
  let starve := if skip then v.starved || s.fld (cmuBase u + 0x24) 19 12 ≤ run else false
  let st := s.fld (cmuBase u + 0x28) 15 0
  let sc := if v.starved && s.fld (cmuBase u + 0x28) 31 16 ≤ pk then v.vScale - st else min 65536 (v.vScale + st)
  (s.setCmu u { v with skipRun := run, starved := starve, vScale := sc }).raiseIf (starve && !v.starved) 112 [u]

/-! ### The vector (R222, R230 to R233, R239, R240) -/

/-- A vector scaled down to a magnitude, its angle kept, and whether it was (R239). -/
def limitVec (x y : Int) (top : Nat) : (Int × Int) × Bool :=
  let q := (x * x + y * y).toNat
  if q ≤ top * top then ((x, y), false)
  else
    let m : Int := isqrt q 40 + 1
    (((x * top).tdiv m, (y * top).tdiv m), true)

/-- Compare values of a space vector (x, y) in 1/32,768 of V_b/√3, in a period of T fine steps: leg voltages as SVM of Table
8.7 gives them, DUTY_BI as R167 turns them into times. -/
def vecTimes (x y : Int) (T : Nat) : List Nat :=
  let u := x * 65536
  let v := (-16384 * x + 0x6EDA * y) * 2
  let w := (-16384 * x - 0x6EDA * y) * 2
  let z := -((max u (max v w) + min u (min v w)) / 2)
  ([u, v, w] : List Int).map (fun k =>
    let d := clampI (-32768) 32767 (roundEven ((k + z) * 2 * 0x49E7) (2 ^ 31))
    (roundEven ((d + 32768) * T) 65536).toNat)

/-- An integrator's next value: a free value x, but never further from 0 than before while the loops meet their limit
(R239). -/
def integHold (lim : Bool) (old x : Int) : Int := if lim then clampI (min 0 old) (max 0 old) x else x

/-- The current command of unit u from what its speed loop asks, and whether the limit of R240 acts: a TORQUE unit takes its
command; while starved the limit is not enforced (R243). -/
def State.cmuAmps (s : State) (u : Nat) (ask : Int) : Int × Bool :=
  let v := s.cmu u
  let top : Int := s.fld (cmuBase u + 0x1C) 15 0
  let want := if s.cmuKind u != 1 then ask else if v.st == .stopping then 0 else s.cmuCmd u
  if v.st == .align || v.st == .ramp then (top / 2, false)
  else if v.starved then (want, false)
  else (clampI (-top) top want, want < -top || top < want)

/-- The voltage that unit u asks, in its d and q axes: i_max/2 through R_s in ALIGN, of a free size in RAMP, the preset of a
catch in the first vector of RUN; what the loops make of it is free (R231, R232, notes/assumptions/21.md). -/
def State.cmuAsk (s : State) (u : Nat) (d q : Int) : Int × Int :=
  let v := s.cmu u
  match v.st, v.loop.preset with
  | .align, _ =>
    (divOpen (s.fld (cmuBase u + 4) 15 0 * s.fld (cmuBase u + 0x1C) 15 0 * 32768 * 1732050808 : Nat)
      (2 * s.busVolt (cmuU u) * 10000 * 1000000000), 0)
  | .ramp, _ => (d.natAbs, 0)
  | _, some x => (0, x)
  | _, none => (d, q)

/-- The voltage vector of the next period at angle ang, within the limit of R239 as R243 has lowered it. -/
def State.cmuVector (s : State) (u : Nat) (ang : Int) : State :=
  let (d, s) := s.freeInt
  let (q, s) := s.freeInt
  let (w, s) := s.freeInt
  let v := s.cmu u
  let l := v.loop
  let (i, il) := s.cmuAmps u w
  let (ad, aq) := s.cmuAsk u d q
  let (x, y) := turnVec ad aq ang
  let ((a, b), vl) := limitVec x y (s.fld (cmuBase u + 0x20) 31 24 * 128 * v.vScale / 65536)
  let ev := vl && !v.vLim && (v.ev113 = 0 || v.ev113 - 1 + ticksPerS ≤ s.now)
  let s := (s.cmuWrite u (vecTimes a b ((s.leg (cmuU u)).shadow.period * 32))).cmuTriggers u
  (s.setCmu u { s.cmu u with
    vLim := vl, iLim := il, ev113 := if ev then s.now + 1 else v.ev113
    loop := { l with cmd := i, nA := a, nB := b, preset := none
                     d := integHold vl l.d d, q := integHold vl l.q q, w := integHold (vl || il) l.w w } }).raiseIf ev 113
    [u, toBits 32 (s.cmuRpm u)]

/-- The unit in RUN reads speed 0 under a current command of at least i_max/2, or its observer a back-EMF emf, in mV, below
half of ψ·ω_e (R233). -/
def State.cmuLow (s : State) (u emf : Nat) : Bool :=
  let v := s.cmu u
  v.st == .run
  && (if s.cmuMode u = 2 then (2 * emf * 10 ^ 14 : Int) < (s.emfAt u v.obs).natAbs
      else s.hallRpm u == 0 && s.fld (cmuBase u + 0x1C) 15 0 ≤ 2 * v.loop.cmd.natAbs)

/-- CMU_PERIOD: at the carrier start of its U leg a driving unit takes the samples of the ended period and computes its next
voltage vector; in a forced period its loops hold (R222, R239 to R244). -/
def State.cmuPeriod (s : State) (n : Nat) (m : LegMeas) : State :=
  match legCmu n with
  | none => s
  | some u =>
    let v := s.cmu u
    if cmuU u != n || !v.st.drives then s
    else
      let s := s.setCmu u { v with obs := m.rpm }
      let forced := match s.legGroup n with
        | some g => (s.grp g).forced
        | none => false
      if forced then s
      else
        let ang := s.cmuAngle u s.now m.ang
        let (a, b) := s.cmuCurrent u m.i1 m.i2 ang
        let low := if s.cmuLow u m.emf then (match v.loop.low with
                                             | some t => some t
                                             | none => some s.now) else none
        let s := s.setCmu u { s.cmu u with loop := { v.loop with iA := a, iB := b, vA := v.loop.nA, vB := v.loop.nB, low := low } }
        let s := s.cmuSkip u m.pk
        if v.st == .brake || v.st == .precharge then
          let s := (s.cmuWrite u [0, 0, 0]).cmuTriggers u
          s.setCmu u { s.cmu u with loop := { (s.cmu u).loop with nA := 0, nB := 0 } }
        else s.cmuVector u ang

end Sys2Proof.Machine
end

