-- ==== Sys2Proof/Machine/Drives.lean ====
section
/-! DEFINITION. The commands of the commutation units (chapter 09). -/

namespace Sys2Proof.Machine

/-- CMU_START: accepted when the unit is OFF or FAULT, its group is in RUN and R220 holds (Table 9.12);
the state changes at the next boundary (R224). -/
def execCmuStart (d : Desc) (s : State) : Out :=
  hostRun 0x0500 d s (fun s =>
    let u := d.target
    let v := s.cmu u
    if (v.st == .off || v.st == .fault) && s.rb (cmuBase u) 31 && !v.bad && s.cmuGrpRun u && s.cmuOk u then
      (s.setCmu u { v with req := v.req ++ [(1, d.t)] }).ok d
    else s.refuse d)

/-- CMU_STOP (Table 9.12, R224). -/
def execCmuStop (d : Desc) (s : State) : Out :=
  hostRun 0x0501 d s (fun s =>
    let u := d.target
    let v := s.cmu u
    if v.st == .off then s.refuse d else (s.setCmu u { v with req := v.req ++ [(2, d.t)] }).ok d)

/-- CMU_SET: used from the first boundary after the command's tick (R234). -/
def execCmuSet (d : Desc) (s : State) : Out :=
  hostRun 0x0502 d s (fun s =>
    if s.rb (cmuBase d.target) 26 then s.refuse d else s.await 0x0502 d (.cmuSet d.target (sx 32 (d.par 0))))

/-- The speed that a SENSORLESS unit measures at its taps, in 0.25 rpm; below 0.5 V it reads 0 (R225). -/
def State.tapRpm (s : State) (u : Nat) (w : TapMeas) : Int := if w.mV < 500 then 0 else divOpen (w.mHz * 240) (1000 * s.cmuPp u)

/-- The state of unit u, of length d ticks, has ended by the latest boundary (R224). -/
def State.cmuOver (s : State) (u d : Nat) : Bool := (s.cmu u).since + d ≤ s.boundNow

/-- CMU_LISTEN_END: lst_ms has passed; w is what a SENSORLESS unit finds at its taps (R225 to R230, Table 9.4). -/
def execCmuListenEnd (t u : Nat) (w : TapMeas) (s : State) : Out :=
  runIf t s (fun s => s.up dImpl && u < 12 && (s.cmu u).st == .listen && s.cmuOver u (s.fld (cmuBase u + 0x14) 31 24 * ticksPerMs))
    (fun s =>
      let v := s.cmu u
      if s.cmuHallFault u then (s.setCmu u { v with outcome := 5, brakes := 0 }).cmuRest u .fault 7
      else
        let sl := s.cmuMode u == 2
        let ang := if sl then w.ang else (s.cmuAngle u s.now 0 % 65536).toNat
        let w := if sl then s.tapRpm u w else s.hallRpm u
        let rev := w != 0 && ((0 < w) != v.fwd)
        let a := w.natAbs
        let stand := a < 4 * s.standRpm u
        -- outcome codes: 1 STANDSTILL, 2 CATCH, 3 BRAKE, 4 REFUSED
        let out := if stand then 1
          else if rev then (if a < 4 * s.fld (cmuBase u + 0x10) 31 16 then 3 else 4)
          else if sl && a < 4 * s.fld (cmuBase u + 0xC) 31 16 then 3 else 2
        let s := s.setCmu u { v with outcome := out, found := w, catching := out == 2, brakes := if out = 3 then v.brakes + 1 else 0
                                     obs := if sl then w else v.obs, loop := { ang := ang, angAt := s.now } }
        let s := if rev && !stand then
            (s.setCmu u { s.cmu u with revSeen := true }).raise 111 [u, toBits 32 w, out] else s
        if out = 3 then s.cmuDrive u .brake
        else if out = 4 then s.cmuRest u .waitRetry 3
        else s.cmuDrive u .precharge)

/-- CMU_BRAKE_END: brk_ms has passed; the third BRAKE in one start fails (R228). -/
def execCmuBrakeEnd (t u : Nat) (s : State) : Out :=
  runIf t s (fun s => s.up dImpl && (s.cmu u).st == .brake && s.cmuOver u (s.fld (cmuBase u + 0x18) 15 0 * ticksPerMs))
    (fun s =>
      if 3 ≤ (s.cmu u).brakes then (s.raise 115 [u, 4]).cmuRest u .fault 4 else s.cmuListen u)

/-- The unit enters RUN: its target ramp starts from 0, or from the speed it caught (R231, R232, R237). -/
def State.cmuRun (s : State) (u : Nat) (fromQ : Int) : State :=
  (s.setCmu u { s.cmu u with target := fromQ * 100000000 }).cmuDrive u .run

/-- A catch presets the q-axis voltage to ψ·ω_e, in 1/32,768 of V_b/√3 (R232). -/
def State.cmuPreset (s : State) (u : Nat) : State :=
  let v := s.cmu u
  let x := divOpen (s.emfAt u v.found * 32768 * 1732050808) (s.busVolt (cmuU u) * 10 ^ 16 * 1000000000)
  s.setCmu u { v with loop := { v.loop with preset := some x } }

/-- CMU_PRECHARGE_END: pre has passed (R230 to R232, Table 9.3). -/
def execCmuPrechargeEnd (t u : Nat) (s : State) : Out :=
  runIf t s (fun s => s.up dImpl && (s.cmu u).st == .precharge && s.cmuOver u (s.fld (cmuBase u + 0x14) 23 16 * 40000))
    (fun s =>
      let v := s.cmu u
      if v.catching then (s.cmuPreset u).cmuRun u v.found
      else if s.cmuMode u = 2 then s.cmuDrive u .align
      else s.cmuRun u 0)

/-- CMU_ALIGN_END: align_ms has passed (R231). -/
def execCmuAlignEnd (t u : Nat) (s : State) : Out :=
  runIf t s (fun s => s.up dImpl && (s.cmu u).st == .align && s.cmuOver u (s.fld (cmuBase u + 0x14) 15 0 * ticksPerMs))
    (fun s => s.cmuDrive u .ramp)

/-- Tick at which a ramp reaches hand_rpm (R231). -/
def State.rampReach (s : State) (u : Nat) : Nat :=
  (s.cmu u).since + (s.handRpm u * ticksPerS + s.accMax u - 1) / s.accMax u

/-- CMU_HAND_OVER: at hand_rpm the observer's speed w, 0.25 rpm, agrees with the ramp within 20 % (R231). -/
def execCmuHandOver (t u : Nat) (w : Int) (s : State) : Out :=
  runIf t s (fun s =>
      let ramp : Int := if (s.cmu u).fwd then 4 * s.handRpm u else -(4 * s.handRpm u : Nat)
      s.up dImpl && (s.cmu u).st == .ramp && s.rampReach u ≤ s.boundNow && 5 * (w - ramp).natAbs ≤ 4 * s.handRpm u)
    (fun s => (s.setCmu u { s.cmu u with obs := w }).cmuRun u w)

/-- CMU_NO_SYNC: the observer has not agreed within 200 ms (R231, R233). -/
def execCmuNoSync (t u : Nat) (s : State) : Out :=
  runIf t s (fun s => s.up dImpl && (s.cmu u).st == .ramp && s.rampReach u + 200 * ticksPerMs ≤ s.boundNow)
    (fun s => s.cmuStall u 5)

/-- By the latest boundary, unit u has read speed 0 under load for 500 ms, or its observer a back-EMF below half for 50 ms
(R233). -/
def State.cmuStuck (s : State) (u : Nat) : Bool :=
  match (s.cmu u).loop.low with
  | some t => t + (if s.cmuMode u = 2 then 50 else 500) * ticksPerMs ≤ s.boundNow
  | none => false

/-- CMU_STALL: a running unit stalls (R233). -/
def execCmuStall (t u : Nat) (s : State) : Out :=
  runIf t s (fun s => s.up dImpl && (s.cmu u).st == .run && (s.cmuHallFault u || s.cmuStuck u))
    (fun s => s.cmuStall u (if s.cmuHallFault u then 7 else 6))

/-- CMU_RETRY_END: retry_ms has passed (R229). -/
def execCmuRetryEnd (t u : Nat) (s : State) : Out :=
  runIf t s (fun s => s.up dImpl && (s.cmu u).st == .waitRetry && s.cmuOver u (s.fld (cmuBase u + 0x18) 31 16 * ticksPerMs))
    (fun s => s.cmuListen u)

/-- CMU_STOPPING_DONE: the speed is below stand_rpm (Table 9.3). -/
def execCmuStoppingDone (t u : Nat) (s : State) : Out :=
  runIf t s (fun s => s.up dImpl && (s.cmu u).st == .stopping && (s.cmuRpm u).natAbs < 4 * s.standRpm u)
    (fun s =>
      let v := s.cmu u
      s.cmuRest u (if s.cmuKind u = 2 && !v.toOff then .armed else .off) v.cause)

end Sys2Proof.Machine
end

