-- ==== Sys2Proof/Machine/GafOps.lean ====
section
/-! DEFINITION. The gaffer: power domains, resets and their causes (chapter 23), as shared operations. -/

namespace Sys2Proof.Machine

def State.setGaf (s : State) (v : Gaf) : State := { s with gaf := v }

/-- Domain d goes into a state. -/
def State.domPut (s : State) (d : Nat) (x : DomSt) : State := s.setGaf { s.gaf with dom := put s.gaf.dom d x }

/-- EV247 with the new state 0 off, 1 in reset, 2 running (R557). -/
def State.domEvent (s : State) (d st cause : Nat) : State := s.raise 247 [d, st, cause]

/-- A reset is recorded in GAF_CAUSE; its EV249 is kept until the EVQ is created, key 5, or until domain key
is running (R561). -/
def State.gafRecord (s : State) (cause mask wake key : Nat) : State :=
  let g := s.gaf
  s.setGaf { g with cause := cause, domains := mask, wake := wake, rstCnt := satInc 65535 g.rstCnt, causeTick := s.now
                    kept249 := g.kept249 ++ [(key, [cause, mask, wake])] }

/-- EV249 of the resets that wait for key (R561). -/
def State.gafTell (s : State) (key : Nat) : State :=
  let (now, later) := s.gaf.kept249.partition (fun x => x.1 == key)
  now.foldl (fun s x => s.raise 249 x.2) (s.setGaf { s.gaf with kept249 := later })

/-! ### Full resets (Tables 23.2 and 23.4) -/

/-- Everything but PD_AON's device time and inputs, GAF_CAUSE, OTP and NOR goes to its reset record; the
contactors open, the lock is cleared (R343, R558). -/
def State.wipeAll (s : State) : State :=
  let v := s.secu
  let a := s.aon
  let g := s.gaf
  { now := s.now, supply := s.supply, free := s.free, pending := s.pending, readout := s.readout
    rpl := s.rpl, rplLast := s.rplLast
    hif := { sent := s.hif.sent }
    evr := { log := s.evr.log }
    cans := s.cans.map (fun x => (x.1, { sent := x.2.sent }))
    mem := { mems := s.mem.mems.map (fun x => (x.1, { retired := x.2.retired })) }
    saf := { banks := s.saf.banks, cur := s.saf.cur, loaded := s.saf.loaded, dbg := s.saf.dbg }
    secu := { lc := v.lc, serial := v.serial, refurb := v.refurb, keys := v.keys, revoked := v.revoked, rb := v.rb
              bankB := v.bankB, boot := v.boot, imgs := v.imgs, dbg := v.dbg, attest := v.attest }
    aon := { pxAc := a.pxAc, pxDc := a.pxDc, latch := a.latch, acGone := a.acGone, acHere := a.acHere, woken := a.woken
             wakeCans := a.wakeCans }
    gaf := { cause := g.cause, domains := g.domains, wake := g.wake, rstCnt := g.rstCnt, causeTick := g.causeTick
             causeHi := g.causeHi, kept249 := g.kept249, vioHeld := g.vioHeld, storage := g.storage } }

/-- The AZ9160 starts: the boot ROM verifies the images, a loaded safety configuration becomes active, the
spares are checked; PD_APP stays off without firmware (R428, R538, R542, R543). -/
def State.startUp (s : State) (bad : List (Nat × Nat)) : State :=
  let s := (s.bootRom bad).safeActivate.memStart
  if s.secu.dead.contains 0 then s.domPut dApp .off else s

/-- A full system reset or a storage wake (Table 23.2). -/
def State.fullReset (s : State) (cause wake : Nat) (bad : List (Nat × Nat)) : State :=
  let s := s.wipeAll
  let s := (s.setGaf { s.gaf with storage := false }).gafRecord cause 0xFE wake 5
  (s.startUp bad).keeping s

/-- Power-on: device time 0 (R24, Table 23.2). -/
def State.powerOn (s : State) (bad : List (Nat × Nat)) : State :=
  let s := { s with now := 0, supply := {} }.wipeAll
  let s := { s with gaf := { vioHeld := s.gaf.vioHeld }, aon := { s.aon with acGone := 0, acHere := 0, woken := none, wakeCans := [] }
                    saf := { s.saf with dbg := false }, secu := { s.secu with dbg := false } }
  (s.startUp bad).keeping s

/-- Storage entry: every domain but PD_AON goes off, in descending order (R567); the wake logic keeps the controllers
with wake = 1 (R369, R524). -/
def State.storageEnter (s : State) : State :=
  let s := [7, 6, 5].foldl (fun s d => (s.domEvent d 0 4)) s
  let s := { s with aon := { s.aon with wakeCans := [0, 1, 2, 3].filter (fun k => s.rb (0x5400 + 0x100 * k) 25) } }
  let s := s.wipeAll
  s.setGaf { s.gaf with storage := true, dom := [] }

/-! ### Resets of single domains -/

/-- The set-up registers of HIF, MBX and EVR, reset with PD_HOST before lock (R489, R503). -/
def hostReg (k : Nat) : Bool := (0x5C00 ≤ k && k < 0x6400) || (0x7800 ≤ k && k < 0x8000)

/-- PD_HOST is reset (R489, R503, R528); what it raises from here on is lost (R596). -/
def State.hostReset (s : State) : State :=
  let s := s.domPut dHost .inReset
  let sent := s.hif.sent
  let s := { s with hif := { s.hif with rings := [] } }
  let s := (s.hif.takes.map (·.1)).foldl (fun s h => s.takeKill h 7) s
  let h := s.hif
  let s := { s with hif :=
    { link := h.link, pend := h.pend, sent := sent, dlyOn := h.dlyOn, dlyNext := h.dlyNext
      takes := (h.takes.filter (fun (x : Nat × Take) => x.2.busy)).map
        (fun (x : Nat × Take) => (x.1, { x.2 with lost := true, waiting := none })) } }
  let s := (s.mbxHostReset).cansHostReset
  let s := (s.takesWipe dHost).memWipe dHost
  s.setGaf { s.gaf with resets := s.gaf.resets.filter (fun x => x.1 != dHost), sendOff := none }

/-- PD_APP is reset (R259, R371, R490, R502). -/
def State.appReset (s : State) : State :=
  let s := (s.hif.takes.map (·.1)).foldl (fun s h => s.takeKill h 6) s
  let s := ((s.gbxRestart.pathDrop).sesEnd 9).mbxDomReset dApp
  let s := (s.takesWipe dApp).memWipe dApp
  s.setGaf { s.gaf with partUp := [], restarting := [], kick := [] }

/-- V0 to V47 are off with their gates closed (Table 3.13). -/
def State.valvesShut (s : State) : State :=
  (s.mod.valves.map (·.1)).foldl (fun s m => s.setValve m { s.valve m with gate := false, extraTo := 0 }) s

/-- PD_IMPL is reset (R246, R293, R310). -/
def State.implReset (s : State) : State :=
  let s := s.cmusCoast
  let s := { s with cmus := s.cmus.map (fun (x : Nat × Cmu) => (x.1, { bad := x.2.bad })) }
  let s := (s.sxeReset.vlvReset).valvesShut
  (s.takesWipe dImpl).memWipe dImpl

/-- PD_CONV is reset (R340, R371, R388). -/
def State.convReset (s : State) : State := s.railsReset.ppmReset

/-- A domain reset: the blocks' stopping actions and the reset itself (Table 23.2, R563). -/
def State.domReset (s : State) (d : Nat) : State :=
  let s := if d = dApp then s.appReset else if d = dImpl then s.implReset else if d = dConv then s.convReset
    else if d = dHost then s.hostReset else s
  s.domPut d .inReset

/-- A safety reset: PD_SHL and PD_SFP together (R422, R428, R447, R563). -/
def State.safetyReset (s : State) : State :=
  let s := s.connsClose
  let s := ((s.domPut dShl .inReset).domPut dSfp .inReset)
  ((s.takesWipe dSfp).memWipe dSfp).safeActivate.safeSync

/-- PD_HOST is reset by FLR, link loss or the end of a DOMAIN_RESET (R456, R489, R561); before lock its set-up
registers go to their reset values.  A full reset that waited for a completion the reset has lost goes on. -/
def State.hostResetNow (s : State) (cause : Nat) : State :=
  let full := s.gaf.resets.any (fun x => x.1 == 0) || (s.gaf.sendOff.map (·.1)) == some 0
  let s := ((s.domReset dHost).gafRecord cause 0x20 0 5).keeping s
  let s := if s.lock.locked then s else { s with regs := s.regs.filter (fun x => !hostReg x.1) }
  if full then s.fullReset 3 0 [] else s

/-- PD_APP, held off, is powered (R501, R561, R562). -/
def State.appPower (s : State) (wake : Nat) : State :=
  let s := (s.gafRecord 6 0x10 wake dApp).domPut dApp .inReset
  s.domEvent dApp 1 6

/-- Step 2 and, but for domains 0 and 5, step 3 of an accepted DOMAIN_RESET at its boundary (R563). -/
def State.domResetBoundary (s : State) (d sq tick : Nat) : State :=
  let s := s.setGaf { s.gaf with resets := s.gaf.resets ++ [(d, sq, tick)] }
  if d = 0 || d = dHost then s.decide sq tick .ok 0 s.now
  else if d = dShl || d = dSfp then s.safetyReset.gafRecord 5 6 0 dSfp
  else (s.domReset d).gafRecord 6 (2 ^ d) 0 d

/-- The completion of a DOMAIN_RESET of domain 0 or 5 has left the module: step 3 (R563). -/
def State.domResetGo (s : State) (d : Nat) : State :=
  let s := s.setGaf { s.gaf with resets := s.gaf.resets.filter (fun x => x.1 != d), sendOff := none }
  if d = 0 then s.fullReset 3 0 [] else s.hostResetNow 6

/-- Domain d may run: powered, and every lower domain that comes up runs (R557). -/
def State.domMayRun (s : State) (d : Nat) : Bool :=
  1 ≤ d && d ≤ 7 && s.domSt d == .inReset && (List.range d).all (fun e => s.domSt e != .inReset)

/-- Completion of the DOMAIN_RESETs whose domains run again (R563). -/
def State.resetsDone (s : State) : State :=
  let done := fun (d : Nat) => if d = dShl || d = dSfp then s.up dShl && s.up dSfp else d != 0 && d != dHost && s.up d
  let (now, later) := s.gaf.resets.partition (fun x => done x.1)
  now.foldl (fun s x => s.decide x.2.1 x.2.2 .ok 0 s.now) (s.setGaf { s.gaf with resets := later })

/-- EV29 with the state in which SFP has found the configuration (R427, R428). -/
def State.safeCfgTell (s : State) : State := s.raise 29 [s.safeState, s.saf.cfgCause]

/-- What starts in a domain that runs again (R293, R343, R369, R371, R447, R501, R524). -/
def State.domStart (s : State) (d : Nat) : State :=
  if d = dSfp then (if s.secu.dead.contains 0 then s else s.bslOpen.safeCfgTell)
  else if d = dApp then { s with mbx := s.mbx.map (fun x => (x.1, { x.2 with waking := false })) }
  else if d = dHost then
    match s.aon.woken with
    | some w =>
      let s := { s with aon := { s.aon with woken := none } }.raise 186 [w.code]
      match w with
      | .can k => s.raise 197 [k]
      | _ => s
    | none => s
  else if d = dImpl then (if s.sxe.armed then s.setSxe { s.sxe with restart := some s.now } else s)
  else if d = dConv then (if s.tbu.running then (s.railsStart s.now).ppmResume s.now else s)
  else s

/-- The selects of PD_IMPL hold what they held at CONFIG_LOCK (R246, R293, R310). -/
def State.selsBack (s : State) (d : Nat) : State :=
  if d = dImpl && s.lock.locked then s.lock.sels.foldl (fun s x => s.setReg x.1 x.2) s else s

/-- Domain d is running (R557, R561, R563). -/
def State.domUp (s : State) (d : Nat) : State :=
  let s := (s.domPut d .running).domEvent d 2 s.gaf.cause
  let s := s.domStart d
  (if d = dHost then s else s.gafTell d).resetsDone

/-- Domain d is powered down at lock because its en bit is 0 (R565). -/
def State.domDown (s : State) (d : Nat) : State :=
  let s := s.domEvent d 0 6
  let s := if s.up d then s.domReset d else s
  (s.domPut d .off).powerNotice d false

/-- A core-mode number. -/
def coreOf (n : Nat) : CoreMode := if n = 0 then .perf else if n = 1 then .nom else .eco
/-- A core mode as GAF_STAT codes it. -/
def CoreMode.code : CoreMode → Nat
  | .perf => 0
  | .nom => 1
  | .eco => 2

end Sys2Proof.Machine
end

