-- ==== Sys2Proof/Machine/ReadOps.lean ====
section
/-! DEFINITION. What a read of a BAR0 register returns (chapter 25 and the register table of each
chapter): the stored fields with the status fields beside them; and what a read of an RC field clears and a
write to a W1C field clears (Table 0.4, R574 to R576). -/

namespace Sys2Proof.Machine

/-- A register word from its fields: low bit, width and value. -/
def pk (l : List (Nat × Nat × Nat)) : Nat := (l.map (fun f => f.2.2 % 2 ^ f.2.1 * 2 ^ f.1)).sum

/-- The same field for signed values. -/
def sfd (lo n : Nat) (v : Int) : Nat × Nat × Nat := (lo, n, toBits n v)

/-- A one-bit field. -/
def flag (lo : Nat) (b : Bool) : Nat × Nat × Nat := (lo, 1, b2n b)

/-! ### Codes of the state fields -/

def Slaving.code : Slaving → Nat
  | .free => 0 | .acquire => 1 | .locked => 2 | .holdover => 3
def GrpSt.code : GrpSt → Nat
  | .disabled => 0 | .startup => 1 | .test => 2 | .run => 3 | .recovery => 4 | .latched => 5
def CtxSt.code : CtxSt → Nat
  | .idle => 0 | .active => 1 | .stopped => 2
def CmuSt.code : CmuSt → Nat
  | .off => 0 | .armed => 1 | .listen => 2 | .brake => 3 | .precharge => 4 | .align => 5 | .ramp => 6 | .run => 7
  | .stopping => 8 | .waitRetry => 9 | .fault => 10
def GbxSt.code : GbxSt → Nat
  | .idle => 0 | .unload => 1 | .disengage => 2 | .sync => 3 | .engage => 4 | .reload => 5 | .halt => 6
def VlvSt.code : VlvSt → Nat
  | .ok => 0 | .short => 1 | .failed => 2
def LinkSt.code : LinkSt → Nat
  | .down => 0 | .up => 1 | .hold => 2
def RingSt.code : RingSt → Nat
  | .absent => 0 | .active => 1 | .error => 2
def TakeSt.code : TakeSt → Nat
  | .free => 0 | .running => 1 | .suspending => 2 | .suspended => 3 | .cancelling => 4 | .ended => 5
def Slot.code : Slot → Nat
  | .empty => 0 | .pending => 1 | .unconsumed => 2
def MbxFinal.code : MbxFinal → Nat
  | .none => 0 | .acked => 1 | .timedOut => 2 | .aborted => 3

/-! ### Domains (R573, R576) -/

/-- The domain of the block that owns a BAR0 offset; PD_AON for the global block, GAF and TBU. -/
def offDom (off : Nat) : Nat :=
  if off < 0x1000 then dAon
  else if off < 0x3C00 then dCtrl
  else if off < 0x4400 then dImpl
  else if off < 0x4C00 then dConv
  else if off < 0x5000 then dCtrl
  else if off < 0x5400 then dSfp
  else if off < 0x5C00 then dCtrl
  else if off < 0x6400 then dHost
  else if off < 0x7400 then dCtrl
  else if off < 0x7800 then dImpl
  else dHost

/-- BAR0 shows the register: its block's domain runs, and with no firmware GLB and SEC alone (R543, R576). -/
def State.shows (s : State) (off : Nat) : Bool :=
  off < 0x8000 && s.up (offDom off)
  && (!s.secu.dead.contains 0 || off < 0x400 || (0x6800 ≤ off && off < 0x7000))

/-! ### Stored fields -/

/-- The stored fields of the register at an offset: the LPE windows, CMPj_VAL, the admin pair and the
register table. -/
def State.storedAt (s : State) (off : Nat) : Nat :=
  let k := s.key off
  if (0x10000 ≤ k && k < 0x11000) || (0x20000 ≤ k) then s.lw k
  else if 0x3784 ≤ off && off < 0x3800 && off % 8 == 4 then (s.cmp ((off - 0x3784) / 8)).val % 2 ^ 32
  else match off with
    | 0x7800 => s.hif.sqBase % 2 ^ 32
    | 0x7804 => s.hif.sqBase / 2 ^ 32
    | 0x7808 => s.hif.cqBase % 2 ^ 32
    | 0x780C => s.hif.cqBase / 2 ^ 32
    | 0x7810 => pk [flag 31 s.hif.admEn, (20, 4, s.hif.sqLg), (16, 4, s.hif.cqLg), (0, 6, s.hif.admVec)]
    | _ => s.reg k

/-! ### Status fields, block by block -/

/-- Global block and GAF (Tables 0.1, 0.2, 23.5, 25.3, 25.4; R577). -/
def State.roGlb (s : State) (off : Nat) : Nat :=
  match off with
  | 0x0 => glbPart
  | 0x4 => glbRev
  | 0x8 => 0x44C03044
  | 0xC => 0x2000A010
  | 0x10 => 0x62646C10
  | 0x14 => 0x20201001
  | 0x20 => pk [flag 30 s.lock.locked, flag 29 s.lock.done, (0, 4, s.lock.result)]
  | 0x24 => s.lock.fail % 2 ^ 19
  | 0x28 => s.lock.tick % 2 ^ 32
  | 0x2C => s.lock.tsHi
  | 0x404 =>
    let ds := List.range 8
    pk [(24, 8, (ds.map (fun d => b2n (s.domSt d == .running) * 2 ^ d)).sum),
        (16, 8, (ds.map (fun d => b2n (s.domSt d == .inReset) * 2 ^ d)).sum),
        (14, 2, s.gaf.coreNow.code), flag 13 s.gaf.changing.isSome, flag 12 s.gaf.bootDone]
  | 0x408 => pk [(28, 4, s.gaf.cause), (20, 8, s.gaf.domains), (16, 4, s.gaf.wake), (0, 16, s.gaf.rstCnt)]
  | 0x40C => s.gaf.causeTick % 2 ^ 32
  | 0x410 => s.gaf.causeHi
  | _ => 0

/-- TBU (Tables 2.1 and 2.8). -/
def State.roTbu (s : State) (off : Nat) : Nat :=
  match off with
  | 0x800 => s.now % 2 ^ 32
  | 0x804 => s.tbu.timeHi
  | 0x818 => pk [sfd 16 16 s.tbu.rateCorr, (0, 2, s.tbu.state.code)]
  | 0x81C => toBits 32 s.tbu.phErr
  | 0x820 => s.boundary % 2 ^ 32
  | _ => 0

/-- MOD legs: class and MOD_LEGn_STAT (Tables 3.2 and 3.7): a leg modulates where nothing prevails over its modulation,
and is forced where TRM's safe level prevails, an ended force's held level too (R73, R95). -/
def State.roMod (s : State) (off : Nat) : Nat :=
  let n := (off - 0x1000) / 0x40
  let x := s.leg n
  if 68 ≤ n then 0
  else match off % 0x40 with
    | 0 => pk [(29, 2, b2n (classF n))]
    | 0x28 => pk [flag 31 (s.legSrc n == .mod), flag 30 (s.legSrc n).forces, (28, 2, x.lastRegion),
                  (8, 8, x.clampCnt), (0, 8, x.shortCnt)]
    | _ => 0

/-- TRM group status (Table 4.13, R105). -/
def State.roTrm (s : State) (off : Nat) : Nat :=
  let g := (off - 0x2600) / 0x20
  let x := s.grp g
  if 16 ≤ g then 0
  else match off % 0x20 with
    | 0xC => pk [(29, 3, x.st.code), flag 28 x.forced, flag 27 (x.forced && x.level == .asc), flag 26 x.held,
                 (24, 2, (s.recHist g).length), (16, 8, x.cbcCnt)]
    | 0x10 => pk ((List.range 8).map (fun i => flag (31 - i) (x.kinds.contains i))
                 ++ [flag 23 x.recLimit, flag 22 x.escalated, (19, 3, x.maxSev), (0, 9, x.firstSrc)])
    | 0x14 => pk [(16, 16, x.tripCnt), (0, 16, x.dtCnt)]
    | 0x18 => x.firstTs % 2 ^ 32
    | 0x1C => x.tsHi
    | _ => 0

/-- GDV channel status, switching times and diagnosis results (Tables 5.4, 5.11, 5.12). -/
def State.roGdv (s : State) (off : Nat) : Nat :=
  if off < 0x3260 then
    let c := (off - 0x2A00) / 0x10
    let x := s.ch c
    if off % 0x10 = 0xC && c < 134 then
      pk [flag 31 x.armed, flag 30 (!x.uv.isEmpty), flag 29 x.dsat, flag 28 x.diag, flag 27 x.frozen, flag 26 x.atMax,
          (21, 5, s.srcNow c), (16, 5, s.snkNow c), flag 15 x.dsatSeen, flag 14 x.uvSeen, flag 13 x.shootSeen,
          flag 12 x.limSeen, (0, 8, x.shootCnt)]
    else 0
  else if 0x3280 ≤ off && off < 0x3280 + 4 * 62 then
    let x := s.ch ((off - 0x3280) / 4)
    pk [(16, 16, x.tOn), (0, 16, x.tOff)]
  else if 0x33A0 ≤ off && off < 0x33C4 then
    pk ((List.range 8).map (fun i => (4 * i, 4, getD s.gdv.res (8 * ((off - 0x33A0) / 4) + i) 0)))
  else 0

/-- PFI, resolver and compare status (Tables 6.5, 6.6, 6.9, 6.10). -/
def State.roFb (s : State) (off : Nat) : Nat :=
  if off < 0x3600 then
    let x := s.pfi ((off - 0x3400) / 0x20)
    match off % 0x20 with
    | 0x10 => x.pos % 2 ^ 32
    | 0x14 => pk [flag 31 (s.srcValid (4 + (off - 0x3400) / 0x20)), flag 30 x.still, flag 29 x.low, flag 28 x.dirCh, sfd 0 28 x.net]
    | 0x18 => toBits 32 x.rpm
    | 0x1C => pk [flag 31 x.fault, flag 30 x.hallInv, flag 29 x.idxErr, flag 28 x.capOvr, flag 27 x.capNew, (16, 8, x.errCnt)]
    | _ => 0
  else if off < 0x3700 then
    let x := s.pfi ((off - 0x3600) / 0x10)
    match off % 0x10 with
    | 0 => x.edgeL % 2 ^ 32
    | 4 => x.edgeHi
    | 8 => x.capPos % 2 ^ 32
    | _ => x.capTs % 2 ^ 32
  else if off < 0x3780 then
    let r := (off - 0x3700) / 0x20
    let x := s.rsv r
    match off % 0x20 with
    | 8 => x.posL % 2 ^ 32
    | 0xC => toBits 32 x.rpmL
    | 0x10 => pk [flag 31 (s.srcValid r), flag 30 x.fault, flag 29 x.los, flag 28 x.dos, flag 27 x.trk, flag 26 x.exc,
                  flag 25 x.posLost, (0, 16, x.amp)]
    | _ => 0
  else if off % 8 = 0 then pk [flag 25 (s.cmp ((off - 0x3780) / 8)).armed]
  else 0

/-- LPE and PGN (Tables 7.2, 7.3, 7.10, 8.10). -/
def State.roLpe (s : State) (off : Nat) : Nat :=
  let c := s.fld 0x3820 7 0
  let x := s.ctx c
  if 0x3A00 ≤ off then
    let p := s.pgn ((off - 0x3A00) / 0x20)
    match off % 0x20 with
    | 0x14 => p.pos % 2 ^ 32
    | 0x18 => toBits 32 p.vel
    | 0x1C => pk [flag 31 p.active, flag 30 p.atTgt, flag 29 p.overLim, flag 28 p.overshoot]
    | _ => 0
  else if 0x3810 ≤ off && off < 0x3820 then
    let l := (off - 0x3810) / 4
    pk [(16, 16, densWord (s.density s.gaf.coreNow (s.laneCtxs l))), (0, 16, getD s.lpe.busyPk l 0)]
  else match off with
    | 0x3804 => s.progFree
    | 0x3808 => s.dataFree
    | 0x382C => if c < 192 then pk [(16, 16, x.wcOps)] else 0
    | 0x3834 => if c < 192 then
        pk [(30, 2, x.st.code), flag 29 x.sat, flag 28 x.inBad, (20, 8, x.ovrRun), flag 19 x.alloc, (0, 16, x.ovrCnt)] else 0
    | 0x3838 => if c < 192 then x.slackMin % 2 ^ 32 else 0
    | 0x383C => if c < 192 then x.tIn % 2 ^ 16 else 0
    | 0x385C => pk [flag 30 s.lpe.imgBusy, (20, 4, s.lpe.imgResult), (0, 20, s.lpe.imgFail)]
    | _ => 0

/-- CMU and GBX (Tables 9.10 and 10.3). -/
def State.roCmu (s : State) (off : Nat) : Nat :=
  let u := (off - 0x3C00) / 0x40
  let x := s.cmu u
  if off = 0x3F88 then
    pk [(28, 4, s.gbx.st.code), (25, 3, if s.gbx.ref then s.gbx.gear else 6), (23, 2, s.gbx.park), (21, 2, s.gbx.pto),
        (16, 5, s.gbx.outcome)]
  else if 12 ≤ u then 0
  else match off % 0x40 with
    | 0x38 => pk [(28, 4, x.st.code), flag 27 x.vLim, flag 26 x.sLim, flag 25 x.iLim, flag 24 x.starved, flag 23 x.revSeen,
                  (20, 3, x.brakes), (16, 4, (x.stalls.filter (fun t => s.now < t + 60 * ticksPerS)).length),
                  (12, 4, x.cause), (8, 4, x.outcome), (0, 8, x.skipRun)]
    | 0x3C => toBits 32 (s.cmuRpm u)
    | _ => 0

/-- dist, frac and spd of the four odometers now (Table 11.2). -/
def State.odoSnap (s : State) : List (Nat × Nat × Int) :=
  (List.range 4).map (fun o => (toBits 32 ((s.odo o).d / 256), toBits 8 (s.odo o).d, (s.odo o).v))

/-- SXE, CUM and the remote nodes (Tables 11.1 to 11.6, 12.3 to 12.6). -/
def State.roSxe (s : State) (off : Nat) : Nat :=
  let k := s.fld 0x4090 7 0
  let x := s.sec k
  let j := s.fld 0x42A0 7 0
  let y := s.sec j
  if 0x4010 ≤ off && off < 0x4050 then
    let o := (off - 0x4010) / 0x10
    let c := s.sxe.snap.getD o (0, 0, 0)
    match off % 0x10 with
    | 0 => pk [flag 24 (s.odo o).fault, (16, 8, c.2.1)]
    | 8 => if o = 0 then toBits 32 ((s.odo 0).d / 256) else c.1
    | 0xC => toBits 32 c.2.2
    | _ => 0
  else if 0x4050 ≤ off && off < 0x4090 then
    if off % 0x10 = 8 then toBits 32 (getD s.sxe.core.vref ((off - 0x4050) / 0x10) 0) else 0
  else if 0x4180 ≤ off && off < 0x4280 then
    let r := s.rn ((off - 0x4180) / 0x10)
    if off % 0x10 = 0xC then pk [(24, 8, r.seq), (16, 8, r.lateCnt), (8, 8, r.mergeCnt)] else 0
  else match off with
    | 0x4004 => pk [flag 31 s.sxe.running, (0, 16, s.sxe.ovrCnt)]
    | 0x40A0 => if k < 160 then toBits 32 (x.d / 2 ^ 20) else 0
    | 0x40A4 => if k < 160 then toBits 32 x.v else 0
    | 0x40A8 => if k < 160 then
        pk [flag 31 x.gate, flag 30 x.on, flag 29 x.rev, flag 28 x.clamped, sfd 16 8 (x.d / 2 ^ 12), (0, 16, x.r)] else 0
    | 0x4294 => pk [(16, 16, s.sharedFree), (0, 16, (s.sxe.core.secs.map (fun c => c.2.used)).sum)]
    | 0x42AC => if j < 160 then
        pk [(18, 14, y.used), flag 17 y.armed, flag 16 y.lwLow, (8, 8, y.passCnt), (0, 8, y.lateCnt)] else 0
    | 0x42B0 => if j < 160 then (match y.cues with
        | [] => 0
        | c :: _ => c.pos / 256 % 2 ^ 32) else 0
    | 0x42B4 => if j < 160 then toBits 32 y.hzn else 0
    | 0x42B8 => if j < 160 then y.cons % 2 ^ 32 else 0
    | _ => 0

/-- RGC and VCL (Table 13.9). -/
def State.roRail (s : State) (off : Nat) : Nat :=
  let r := (off - 0x4400) / 0x100
  let x := s.rail r
  if 2 ≤ r then 0
  else match off % 0x100 with
    | 0x40 =>
      pk [(28, 4, x.st.code), (22, 6, ((s.activePhases r).map (2 ^ ·)).sum),
          (16, 6, (((s.fitted r).filter (fun p => (s.phase r p).retired)).map (2 ^ ·)).sum), (12, 4, x.cause), (8, 4, x.hicCnt),
          flag 7 (inBand x.vAvg (s.vCmd r) (s.vBand r)), flag 6 x.oob, flag 5 (x.phases.any (fun p => p.2.retired)),
          flag 4 (s.railFactor r < 32767), flag 3 x.trans.isSome, flag 2 (x.link == .hold)]
    | 0x44 => pk [(16, 16, x.vAvg), (0, 16, s.vCmd r)]
    | 0x48 => pk [sfd 16 16 x.iAvg, (0, 16, x.iPk)]
    | 0x4C => pk [(16, 16, x.vPk), (0, 16, x.vLo)]
    | 0x50 => pk [(30, 2, x.link.code), (16, 8, x.lastSeq), (8, 8, x.badCnt), (0, 8, x.rejCnt)]
    | o =>
      if 0x60 ≤ o && o < 0x60 + 4 * railPhases r then
        let p := s.phase r ((o - 0x60) / 4)
        pk [sfd 16 16 (meanI p.ih), (14, 2, p.retCause), (0, 12, p.fltRun)]
      else 0

/-- PPM, the charger, DCL and the precedence report (Tables 14.9 and 15.4). -/
def State.roPow (s : State) (off : Nat) : Nat :=
  let p := s.ppm
  let x := p.ses
  let fin := x.endT.getD s.now
  match off with
  | 0x4840 => pk [(28, 4, p.path.code), (22, 6, (s.aon.drive.map (2 ^ ·)).sum), (16, 6, p.fb), flag 15 s.aon.pxAc,
                  flag 14 s.aon.pxDc, flag 13 s.aon.latch, flag 12 p.inhibit, flag 11 p.qualified, (9, 2, p.acKind), flag 8 p.f60]
  | 0x4844 => pk [(16, 16, s.vBat), (0, 16, s.vLink)]
  | 0x4848 => pk [(16, 16, s.vPort), (0, 16, p.vAc)]
  | 0x484C => pk [sfd 16 16 s.iBat, sfd 0 16 s.iDc]
  | 0x4850 => pk [(28, 4, x.st.code), (24, 4, x.cause), (22, 2, p.followCnt), flag 21 x.thermal, flag 20 p.blocked,
                  (16, 4, x.kind), (8, 8, x.intr)]
  | 0x4860 => toBits 32 (x.energy.tdiv (100 * ticksPerS * 3600))
  | 0x4864 => pk [(16, 16, (fin - x.startT) / (60 * ticksPerS)), (0, 16, x.thermT / ticksPerS)]
  | 0x4868 => x.startT / ticksPerS % 2 ^ 32
  | 0x48A0 => pk [(30, 2, s.dcl.stage), flag 29 s.chopAvail, flag 28 s.dcl.chopFlt, (12, 15, s.dcl.factor)]
  | 0x48A4 => pk [(16, 16, (divOpen s.dcl.ofsA 400000).toNat), (0, 16, (divOpen s.dcl.ofsB 400000).toNat)]
  | 0x48A8 => pk [(29, 3, s.prec.forcing), (22, 7, s.prec.mask), (8, 8, s.prec.cause), (0, 8, s.prec.cnt)]
  | _ => 0

/-- THM (Tables 16.3 and 16.5). -/
def State.roThm (s : State) (off : Nat) : Nat :=
  let e := s.fld 0x4C04 6 0
  let x := s.est e
  if off = 0x4C30 then
    if e < 98 then
      pk [sfd 16 16 (tj10 x.tj), (4, 12, min x.pW 4095), flag 3 (s.estActive e), flag 2 x.fast, flag 1 x.sd,
          flag 0 (s.snsFlt (s.fld (estKey e + 8) 26 23))]
    else 0
  else if 0x4CC0 ≤ off && off < 0x4CC0 + 4 * 14 then
    let k := (off - 0x4CC0) / 4
    pk [flag 31 (s.snsFlt k), sfd 0 16 (s.snsTemp k)]
  else if 0x4D00 ≤ off && off < 0x4E00 then
    let j := (off - 0x4D00) / 4
    pk [(16, 16, s.thmFactor (2 * j + 1)), (0, 16, s.thmFactor (2 * j))]
  else 0

/-- Safety and the Baronold connections (Tables 17.7, 17.8, 18.5), as SFP sees them. -/
def State.roSaf (s : State) (off : Nat) : Nat :=
  let v := s.saf
  if 0x5100 ≤ off && off < 0x5300 then
    let c := (off - 0x5100) / 0x10
    let x := s.conn c
    match off % 0x10 with
    | 0 => pk [(29, 3, x.st.code), flag 28 (s.cnOut c), (24, 4, x.cause), (0, 16, x.data)]
    | 4 => pk [(24, 8, x.crcCnt), (16, 8, x.repCnt), (8, 8, x.staleCnt), (0, 8, x.fltCnt)]
    | 8 => pk [(16, 16, x.last), (0, 16, x.cseq)]
    | _ => 0
  else if 0x5010 ≤ off && off < 0x5030 then
    let g := (off - 0x5010) / 8
    if off % 8 = 0 then
      pk [(16, 16, (s.tap g).last), (0, 16, if (s.ss1 0 g).st = 1 then min 0xFFFF (s.cLim g (s.now - (s.ss1 0 g).start)) else 0xFFFF)]
    else
      pk [(16, 16, (s.srcSpeed (s.tgRsv g)).getD 0 / 4),
          (0, 16, if (s.ss1 1 g).st = 1 then min 0xFFFF (s.nLim g (s.now - (s.ss1 1 g).start) / (4 * s.tgRamp g)) else 0xFFFF)]
  else if 0x5040 ≤ off && off < 0x5080 then
    match v.cfg with
    | some b => leNat (((dig64 b.dig).drop (off - 0x5040)).take 4)
    | none => 0
  else match off with
    | 0x5000 =>
      pk [(28, 4, s.safeState), (22, 6, v.shl.dem ||| v.sfp.dem), (16, 6, v.shl.dem), (10, 6, v.sfp.dem), flag 9 v.shl.pin,
          flag 8 v.sfp.pin,
          (0, 8, if v.shl.fault then v.shl.cause else if v.sfp.fault then v.sfp.cause else v.cfgCause)]
    | 0x5004 =>
      pk [(16, 16, ((List.range 16).map (fun i => b2n (!s.lineDem 1 i 0 && !s.lineDem 1 i 1) * 2 ^ i)).sum),
          (0, 16, ((List.range 16).map (fun i => b2n ((s.safeIn 1 i).fault != 0) * 2 ^ i)).sum)]
    | 0x5008 =>
      pk [(24, 6, ((List.range 6).map (fun k => b2n ((v.shl.waits ++ v.sfp.waits).any (fun w => w.1 == k)) * 2 ^ k)).sum),
          (0, 8, ((List.range 4).map (fun g => (s.ss1 1 g).st * 4 ^ g)).sum)]
    | 0x5030 => pk [(16, 16, v.cycles), (0, 16, v.misCnt)]
    | _ => 0

/-- CAN controllers (Tables 21.3 to 21.5). -/
def State.roCan (s : State) (off : Nat) : Nat :=
  if 0x5A00 ≤ off then
    let k := s.fld 0x5A00 10 8
    let o := s.fld 0x5A00 6 0
    let x := s.canObj k o
    if 6 ≤ k then 0
    else match off with
      | 0x5A04 => pk [(30, 2, if s.rsvArmed k o then 1 else x.st), (27, 3, x.cause), (24, 3, s.objOwner k o), (0, 16, x.attempts)]
      | 0x5A08 => x.ts % 2 ^ 32
      | 0x5A0C => s.canTsHi
      | _ => 0
  else
    let k := (off - 0x5400) / 0x100
    let x := s.can k
    match off % 0x100 with
    | 0x20 => pk [(29, 3, x.st.code), flag 28 x.noAck, (20, 8, x.sa), (8, 8, min 255 x.tec), (0, 8, min 255 x.rcnt)]
    | 0x24 => pk [(24, 8, x.ackRun), (16, 8, x.boffCnt), (0, 16, x.errCnt)]
    | 0x28 => pk [(0, 8, x.rsvLo)]
    | o =>
      if 0x40 ≤ o && (o - 0x40) % 0x18 = 0x14 then
        let q := s.canQ k ((o - 0x40) / 0x18)
        pk [(24, 8, q.head), (16, 8, q.owned), (0, 16, q.drop)]
      else 0

/-- MBX and EVR (Tables 20.2, 20.4 to 20.6). -/
def State.roMbx (s : State) (off : Nat) : Nat :=
  if 0x6000 ≤ off then pk [flag 31 (off == 0x6000 + 800), (0, 16, getD s.evr.cnt ((off - 0x6000) / 4) 0)]
  else if 0x5E00 ≤ off && off < 0x5F00 then
    let x := s.mbxCh ((off - 0x5E00) / 4)
    pk [(30, 2, x.slot.code), (28, 2, x.final.code), flag 27 x.lateAck, flag 26 x.waking, (8, 8, x.toCnt), (0, 8, x.postCnt)]
  else if 0x5D80 ≤ off && off < 0x5E00 && off % 8 = 0 then
    let c := (off - 0x5C00) / 8
    pk [flag 31 true, (20, 4, s.mbxSnd c), (16, 4, s.mbxRcv c)]
  else 0

/-- MEM, SEC and AFE (Tables 22.3, 22.9, 22.10, 25.8). -/
def State.roMem (s : State) (off : Nat) : Nat :=
  let m := s.fld 0x6400 2 0
  let x := s.eccMem m
  let v := s.secu
  if 0x7000 ≤ off then
    match s.afe.ins.find? (fun i => i.1 == (off - 0x7000) / 4) with
    | some (i, a) => if i < 96 then pk [flag 31 true, flag 30 (a.code == -8192 || a.code == 8191), sfd 0 14 a.code] else 0
    | none => 0
  else if 0x6810 ≤ off && off < 0x6820 then v.serial / 2 ^ (8 * (off - 0x6810)) % 2 ^ 32
  else match off with
    | 0x6404 => pk [(24, 8, x.retired.length), (16, 8, (memRow m).2.1), (8, 8, x.corrCnt), (0, 8, x.uncCnt)]
    | 0x6408 => (match s.mem.last with
      | some (k, unc, cw, _) => pk [(29, 3, k), flag 28 unc, (5, 23, cw)]
      | none => 7 * 2 ^ 29)
    | 0x640C => (match s.mem.last with
      | some (_, _, _, t) => t % 2 ^ 32
      | none => 0)
    | 0x6800 =>
      pk [(29, 3, v.lc), (21, 8, ((List.range 8).map (fun i => b2n (s.keyValid i) * 2 ^ i)).sum), flag 20 (!s.rpl.isEmpty),
          (15, 5, s.rplMask), flag 14 v.dbg, (7, 7, (v.bankB.map (2 ^ ·)).sum)]
    | 0x6804 => pk ((List.range 4).map (fun i => (8 * i, 8, getD v.rb i 0)))
    | 0x6808 => pk ((List.range 3).map (fun i => (8 * i, 8, getD v.rb (4 + i) 0)))
    | 0x6834 => pk [flag 30 v.keyBusy.isSome, (28, 2, v.keyResult)]
    | _ => 0

/-- VLV status (Table 11.9). -/
def State.roVlv (s : State) (off : Nat) : Nat :=
  if off = 0x7700 then pk [(16, 16, s.vlvPeak), (0, 16, s.vlvSum)]
  else
    let m := (off - 0x7400) / 0x10
    let x := s.vlv m
    if m < 48 && off % 0x10 = 8 then pk [(30, 2, x.st.code), flag 29 x.opn, (0, 16, x.iMa)] else 0

/-- HIF rings and takes (Tables 19.9, 19.14, 19.15). -/
def State.roHif (s : State) (off : Nat) : Nat :=
  if 0x7C00 ≤ off && off < 0x7D00 then
    let k := s.take ((off - 0x7C00) / 0x10)
    match off % 0x10 with
    | 0 => pk [(28, 4, k.st.code), (24, 4, k.no), (16, 8, k.status.code), (12, 4, k.cause), (0, 12, k.step)]
    | 4 => k.prog % 2 ^ 32
    | 8 => k.cmdId % 2 ^ 32
    | _ => 0
  else if 0x7900 ≤ off && off < 0x7900 + 8 * 66 then
    let r := (off - 0x7900) / 8
    let x := s.ring r
    if off % 8 = 0 then
      pk [(30, 2, x.st.code), (24, 4, x.lg), flag 23 x.urgent, (8, 9, x.bound), (0, 8, x.vec)]
    else pk [(16, 16, x.head), (0, 16, x.tail)]
  else if off = 0x7810 then pk [flag 30 s.hif.admRdy, flag 29 s.hif.admErr, (14, 2, b2n s.hif.link)]
  else 0

/-- The status fields of the register at an offset. -/
def State.roAt (s : State) (off : Nat) : Nat :=
  if off < 0x800 then s.roGlb off
  else if off < 0x1000 then s.roTbu off
  else if off < 0x2200 then s.roMod off
  else if off < 0x2600 then 0
  else if off < 0x2A00 then s.roTrm off
  else if off < 0x3400 then s.roGdv off
  else if off < 0x3800 then s.roFb off
  else if off < 0x3C00 then s.roLpe off
  else if off < 0x4000 then s.roCmu off
  else if off < 0x4400 then s.roSxe off
  else if off < 0x4800 then s.roRail off
  else if off < 0x4C00 then s.roPow off
  else if off < 0x5000 then s.roThm off
  else if off < 0x5400 then s.roSaf off
  else if off < 0x5C00 then s.roCan off
  else if off < 0x6400 then s.roMbx off
  else if off < 0x7400 then s.roMem off
  else if off < 0x7800 then s.roVlv off
  else s.roHif off

/-- A set-up field whose read shows what is in force in place of what set-up wrote: a valve channel's duty once it has
begun, the computed phase of a member of an auto group after lock, and a unit's command after lock (Tables 3.11 and
9.9, R78). -/
def State.inForce (s : State) (off : Nat) : Option Nat :=
  if 0x2200 ≤ off && off < 0x2500 then
    let m := (off - 0x2200) / 0x10
    let v := s.valve m
    if off % 0x10 = 8 then (if v.begun then some v.duty else none)
    else if off % 0x10 = 0xC && s.lock.locked && s.vAuto (s.vGroup m) && (s.vMembers (s.vGroup m)).contains m then
      some (s.vPhase m (match v.newStart with
        | some (T, _) => T
        | none => v.period))
    else none
  else if 0x3C00 ≤ off && off < 0x3F00 && off % 0x40 = 0x30 && s.lock.locked then
    some (pk [sfd 16 16 (s.cmuCmd ((off - 0x3C00) / 0x40))])
  else if off = 0x3F40 then some (if s.gbxEn then s.reg 0x3F40 else s.reg 0x3F40 % 2 ^ 31)
  else none

/-- What a read of a BAR0 offset returns (R574 to R576). -/
def State.bar0 (s : State) (off : Nat) : Nat :=
  if off % 4 = 0 && s.shows off then (s.inForce off).getD (s.storedAt off) ||| s.roAt off else 0

/-! ### RC and W1C fields (Table 0.4) -/

/-- A read of an offset sets its RC fields to their reset values. -/
def State.rcClear (s : State) (off : Nat) : State :=
  if off < 0x2200 then
    let n := (off - 0x1000) / 0x40
    if 0x1000 ≤ off && n < 68 && off % 0x40 = 0x28 then s.setLeg n { s.leg n with clampCnt := 0, shortCnt := 0 } else s
  else if off < 0x2A00 then
    let g := (off - 0x2600) / 0x20
    if 0x2600 ≤ off && g < 16 && off % 0x20 = 0x14 then s.setGrp g { s.grp g with tripCnt := 0, dtCnt := 0 } else s
  else if off < 0x3400 then
    let c := (off - 0x2A00) / 0x10
    if c < 134 && off % 0x10 = 0xC then s.setCh c { s.ch c with shootCnt := 0 } else s
  else if off < 0x3800 then
    let i := (off - 0x3400) / 0x20
    if i < 16 && off % 0x20 = 0x1C then s.setPfi i { s.pfi i with errCnt := 0 } else s
  else if off < 0x3C00 then
    let c := s.fld 0x3820 7 0
    if 0x3810 ≤ off && off < 0x3820 then { s with lpe := { s.lpe with busyPk := put s.lpe.busyPk ((off - 0x3810) / 4) 0 } }
    else if off = 0x3834 && c < 192 then s.setCtx c { s.ctx c with ovrCnt := 0 }
    else if off = 0x3838 && c < 192 then s.setCtx c { s.ctx c with slackMin := 0xFFFFFFFF }
    else s
  else if off < 0x4400 then
    let j := s.fld 0x42A0 7 0
    if off = 0x4004 then s.setSxe { s.sxe with ovrCnt := 0 }
    else if 0x4180 ≤ off && off < 0x4280 && off % 0x10 = 0xC then
      let r := (off - 0x4180) / 0x10
      s.setRn r { s.rn r with lateCnt := 0, mergeCnt := 0 }
    else if off = 0x42AC && j < 160 then s.setSec j { s.sec j with passCnt := 0, lateCnt := 0 }
    else s
  else if off < 0x4800 then
    let r := (off - 0x4400) / 0x100
    if 2 ≤ r then s
    else match off % 0x100 with
      | 0x48 => s.setRail r { s.rail r with iPk := 0 }
      | 0x4C => s.setRail r { s.rail r with vPk := 0, vLo := 0xFFFF }
      | 0x50 => s.setRail r { s.rail r with badCnt := 0, rejCnt := 0 }
      | _ => s
  else if off = 0x48A8 then { s with prec := { s.prec with cnt := 0 } }
  else if off = 0x5030 then s.setSaf { s.saf with misCnt := 0 }
  else if 0x5100 ≤ off && off < 0x5300 && off % 0x10 = 4 then
    let c := (off - 0x5100) / 0x10
    s.setConn c { s.conn c with crcCnt := 0, repCnt := 0, staleCnt := 0, fltCnt := 0 }
  else if 0x5400 ≤ off && off < 0x5A00 then
    let k := (off - 0x5400) / 0x100
    let o := off % 0x100
    if o = 0x24 then s.setCan k { s.can k with boffCnt := 0, errCnt := 0 }
    else if 0x40 ≤ o && (o - 0x40) % 0x18 = 0x14 then
      s.setCanQ k ((o - 0x40) / 0x18) { s.canQ k ((o - 0x40) / 0x18) with drop := 0 }
    else s
  else if 0x5E00 ≤ off && off < 0x5F00 then
    let c := (off - 0x5E00) / 4
    s.setMbx c { s.mbxCh c with toCnt := 0, postCnt := 0 }
  else if 0x6000 ≤ off && off < 0x6400 then { s with evr := { s.evr with cnt := put s.evr.cnt ((off - 0x6000) / 4) 0 } }
  else if off = 0x6404 && s.fld 0x6400 2 0 < 7 then
    let m := s.fld 0x6400 2 0
    s.setEccMem m { s.eccMem m with corrCnt := 0, uncCnt := 0 }
  else if off = 0x7700 then { s with vlvPeak := 0 }
  else s

/-- A write of 1 to W1C bits of an offset clears them; w holds the ones in enabled bytes. -/
def State.w1cClear (s : State) (off w : Nat) : State :=
  if 0x2A00 ≤ off && off < 0x3260 && off % 0x10 = 0xC then
    let c := (off - 0x2A00) / 0x10
    let x := s.ch c
    s.setCh c { x with dsatSeen := x.dsatSeen && !bitAt w 15, uvSeen := x.uvSeen && !bitAt w 14
                       shootSeen := x.shootSeen && !bitAt w 13, limSeen := x.limSeen && !bitAt w 12 }
  else if 0x3400 ≤ off && off < 0x3600 && off % 0x20 = 0x1C then
    let i := (off - 0x3400) / 0x20
    let x := s.pfi i
    s.setPfi i { x with idxErr := x.idxErr && !bitAt w 29, capOvr := x.capOvr && !bitAt w 28 }
  else if 0x3700 ≤ off && off < 0x3780 && off % 0x20 = 0x10 then
    let r := (off - 0x3700) / 0x20
    s.setRsv r { s.rsv r with posLost := (s.rsv r).posLost && !bitAt w 25 }
  else if 0x3A00 ≤ off && off < 0x3C00 && off % 0x20 = 0x1C then
    let u := (off - 0x3A00) / 0x20
    s.setPgn u { s.pgn u with overshoot := (s.pgn u).overshoot && !bitAt w 28 }
  else if 0x3C00 ≤ off && off < 0x3F00 && off % 0x40 = 0x38 then
    let u := (off - 0x3C00) / 0x40
    s.setCmu u { s.cmu u with revSeen := (s.cmu u).revSeen && !bitAt w 23 }
  else s

end Sys2Proof.Machine
end

