-- ==== Sys2Proof/Machine/Hif.lean ====
section
/-! DEFINITION. The host interface (chapter 19): the admin pair, rings, doorbells, descriptor fetch,
completions, interrupts and dailies. -/

namespace Sys2Proof.Machine

def State.setHif (s : State) (v : Hif) : State := { s with hif := v }

/-! ### The admin pair (R457, Table 19.9) -/

/-- HIF_ADM_CTL written while en = 0: en = 1 is checked, and sets up SQ0 and CQ0 or sets err (R457, R564). -/
def State.admEnable (s : State) : State :=
  let h := s.hif
  if s.gaf.bootDone && 4 ≤ h.sqLg && h.sqLg ≤ 12 && 4 ≤ h.cqLg && h.cqLg ≤ 12 then
    let s := s.setHif { h with admEn := true, admRdy := true, admErr := false, canDrop := false }
    (s.setRing 0 { st := .active, lg := h.sqLg, urgent := true, base := h.sqBase }).setRing 32
      { st := .active, lg := h.cqLg, base := h.cqBase, vec := h.admVec, aggCnt := 1, aggUs := 0 }
  else s.setHif { h with admEn := false, admErr := true }

/-- en = 0 deletes every ring (R457, R479). -/
def State.admDisable (s : State) : State :=
  s.setHif { s.hif with
    admEn := false, admRdy := false
    rings := s.hif.rings.map (fun x => (x.1, if x.1 < 32 then { bound := x.2.bound } else {})) }

/-- A write to one of HIF_ADM_SQ_LO to HIF_ADM_CTL (R457, R574, R582). -/
def State.admWrite (s : State) (off val be : Nat) : State :=
  let h := s.hif
  let m := beMask be
  if !s.up dHost then s
  else if off = 0x7810 then
    let w := mergeBits m (s.storedAt 0x7810) val
    if h.admEn then (if bitAt w 31 then s else s.admDisable)
    else
      let s := s.setHif { h with sqLg := bits w 23 20, cqLg := bits w 19 16, admVec := bits w 5 0 }
      if bitAt w 31 then s.admEnable else s
  else if h.admEn then s
  else
    let lo := fun (b : Nat) => mergeBits (m &&& 0xFFFFF000) (b % 2 ^ 32) val + b / 2 ^ 32 * 2 ^ 32
    let hi := fun (b : Nat) => b % 2 ^ 32 + mergeBits m (b / 2 ^ 32) val * 2 ^ 32
    match off with
    | 0x7800 => s.setHif { h with sqBase := lo h.sqBase }
    | 0x7804 => s.setHif { h with sqBase := hi h.sqBase }
    | 0x7808 => s.setHif { h with cqBase := lo h.cqBase }
    | 0x780C => s.setHif { h with cqBase := hi h.cqBase }
    | _ => s

/-- ADMIN_PAIR_ENABLE: a write to HIF_ADM_CTL that sets en (R457). -/
def execAdminPairEnable (t val be : Nat) (s : State) : Out := run t s (fun s => s.admWrite 0x7810 val be)

/-- ADMIN_PAIR_DISABLE: a write to HIF_ADM_CTL that clears en (R457). -/
def execAdminPairDisable (t val be : Nat) (s : State) : Out := run t s (fun s => s.admWrite 0x7810 val be)

/-! ### NOP and the ring commands (R478, R479) -/

/-- NOP. -/
def execNop (d : Desc) (s : State) : Out := hostRun 0x0001 d s (fun s => s.ok d)

/-- log2 of a ring size from 16 to 4,096. -/
def ringLg (n : Nat) : Option Nat := ((List.range 9).map (· + 4)).find? (fun k => 2 ^ k == n)

/-- RING_CREATE (R478, R479); the EVQ receives the EV249 records kept for it (R561). -/
def execRingCreate (d : Desc) (s : State) : Out :=
  hostRun 0x0002 d s (fun s =>
    let n := d.target
    match ringLg d.count with
    | none => s.refuse d
    | some lg =>
      if d.sq != 0 || (s.ring n).st != .absent || n == 0 || n == 32 || d.addr % 4096 != 0
         || (n < 32 && (s.ring (32 + d.par 0)).st == .absent) then s.refuse d
      else
        let s := s.setRing n
          (if n < 32 then { st := .active, lg := lg, urgent := d.par 1 == 1, bound := d.par 0, base := d.addr }
           else { st := .active, lg := lg, base := d.addr, vec := d.par 0, aggCnt := d.par 1, aggUs := d.par 2 })
        let s := if n = evq then s.gafTell 5 else s
        let s := if n = dly then s.setHif { s.hif with dlyNext := 0 } else s
        s.ok d)

/-- RING_DELETE (R478, R479). -/
def execRingDelete (d : Desc) (s : State) : Out :=
  hostRun 0x0003 d s (fun s =>
    let n := d.target
    let bound := s.hif.rings.any (fun x => x.1 < 32 && x.2.st != .absent && 32 + x.2.bound == n)
    if d.sq != 0 || (s.ring n).st == .absent || n == 0 || n == 32 || bound then s.refuse d
    else (s.setRing n (if n < 32 then { bound := (s.ring n).bound } else {})).ok d)

/-! ### Doorbells (R459, R462, Table 19.2) -/

/-- Ring r goes into ERROR, and with a CQ every SQ bound to it (R462). -/
def State.ringError (s : State) (r index : Nat) : State :=
  let s := (s.setRing r { s.ring r with st := .error }).raise 232 [r, index]
  if 32 ≤ r && r < 64 then
    ((s.hif.rings.filter (fun x => x.1 < 32 && x.2.st == .active && 32 + x.2.bound == r)).map (·.1)).foldl
      (fun s q => (s.setRing q { s.ring q with st := .error }).raise 232 [q, index]) s
  else s

/-- A doorbell of ring r: the tail of an SQ, the head of every other ring. -/
def State.doorbell (s : State) (r val : Nat) : State :=
  let g := s.ring r
  if !s.up dHost || g.st != .active then s
  else if g.size ≤ val then s.ringError r val
  else s.setRing r (if r < 32 then { g with tail := val } else { g with head := val })

/-- SQ_TAIL_DOORBELL. -/
def execSqTailDoorbell (t j val : Nat) (s : State) : Out := runIf t s (fun _ => j < 32) (fun s => s.doorbell j val)
/-- CQ_HEAD_DOORBELL. -/
def execCqHeadDoorbell (t j val : Nat) (s : State) : Out := runIf t s (fun _ => j < 32) (fun s => s.doorbell (32 + j) val)
/-- EVQ_HEAD_DOORBELL. -/
def execEvqHeadDoorbell (t val : Nat) (s : State) : Out := run t s (fun s => s.doorbell evq val)
/-- DLY_HEAD_DOORBELL. -/
def execDlyHeadDoorbell (t val : Nat) (s : State) : Out := run t s (fun s => s.doorbell dly val)

/-! ### Descriptor fetch (R460, R463 to R469) -/

/-- Entries of a ring that the host has not freed. -/
def Ring.used (r : Ring) : Nat := (r.tail + r.size - r.head) % r.size

/-- SQ q holds an unfetched descriptor, and its CQ has an entry to reserve (R460). -/
def State.fetchRoom (s : State) (q : Nat) : Bool :=
  let g := s.ring q
  let c := s.ring (32 + g.bound)
  g.st == .active && g.head != g.tail && c.st == .active && c.used + c.reserved + 1 < c.size

/-- Every descriptor of SQ q fetched so far has completed (R469). -/
def State.sqDone (s : State) (q : Nat) : Bool := s.hif.flights.all (fun f => f.sq != q || f.dec.isSome)

/-- The SQ from the one after last that comes first in a round. -/
def roundFirst (last : Nat) (l : List Nat) : Option Nat :=
  match l.find? (fun q => last < q) with
  | some q => some q
  | none => l.head?

/-- HIF may fetch from SQ q now: URGENT before NORMAL, and round-robin in each level.  An SQ whose next
descriptor a FENCE might hold back need not be waited for (R468, R469). -/
def State.mayFetch (s : State) (q : Nat) (fence : Bool) : Bool :=
  let ready := (List.range 32).filter (fun x => s.fetchRoom x && (x == q || s.sqDone x))
  let level := ready.filter (fun x => (s.ring x).urgent == (s.ring q).urgent)
  q < 32 && s.fetchRoom q && (!fence || s.sqDone q) && s.hif.lastFetch != s.now + 1
  && ((s.ring q).urgent || !ready.any (fun x => (s.ring x).urgent))
  && roundFirst (if (s.ring q).urgent then s.hif.lastUrgent else s.hif.lastNormal) level == some q

/-- The descriptor at the head of SQ q is received: its completion entry is reserved, and HIF's own judgement
is made; its effect follows as the command of its opcode (R460, R463, notes/assumptions/4.md). -/
def State.fetched (s : State) (q op : Nat) (d : Desc) : State :=
  let g := s.ring q
  let g := { g with head := (g.head + 1) % g.size }
  let c := s.ring (32 + g.bound)
  let s := (s.setRing q g).setRing (32 + g.bound) { c with reserved := c.reserved + 1 }
  let h := s.hif
  let s := s.setHif { h with
    lastUrgent := if g.urgent then q else h.lastUrgent, lastNormal := if g.urgent then h.lastNormal else q
    lastFetch := s.now + 1
    flights := h.flights ++ [{ sq := q, cmdId := d.cmdId, op := op, irq := bitAt d.flags 1, fetch := d.t, sqHead := g.head,
                               fromRing := true, dec := none }] }
  match judge op d s with
  | some st => s.decide q d.t st 0 s.now
  | none => s

/-- DESCRIPTOR_FETCH: the next descriptor of SQ sq arrives with opcode op, or its read ends in an error (R466). -/
def execDescriptorFetch (t sq op : Nat) (d : Desc) (readErr : Bool) (s : State) : Out :=
  runIf t s (fun s => s.up dHost && s.mayFetch sq (bitAt d.flags 0)) (fun s =>
    if readErr then s.ringError sq (s.ring sq).head else s.fetched sq op d)

/-! ### Completions and interrupts (R471 to R473) -/

/-- The completion of a DOMAIN_RESET of domain 0 or 5 has been written: step 3 of R563 follows, at once or once
its MSI-X message has left. -/
def State.resetWritten (s : State) (f : Flight) (signalled : Bool) : State :=
  match s.gaf.resets.find? (fun x => (x.1 == 0 || x.1 == dHost) && x.2.1 == f.sq && x.2.2 == f.fetch) with
  | none => s
  | some x =>
    let v := (s.ring (32 + (s.ring f.sq).bound)).vec
    if signalled && !s.hif.unmasked.contains v then s.setGaf { s.gaf with sendOff := some (x.1, v) }
    else s.domResetGo x.1

/-- Write the completion of flight f, decided as d, to CQ c. -/
def State.cplWrite (s : State) (c : Nat) (f : Flight) (d : Decision) : State :=
  let g := s.ring c
  let s := s.send (.cpl (c - 32) g.tail g.phase f d)
  let s := s.setRing c { g.wrote s.now with reserved := if f.fromRing then g.reserved - 1 else g.reserved }
  let g := s.ring c
  let sig := f.irq || g.aggUs == 0 || g.aggCnt ≤ g.unsig
  (s.signalRing c f.irq).resetWritten f sig

/-- The oldest completion of SQ sq goes to its CQ when it is decided: in the order of the command ticks; one
whose CQ is gone is lost, and one without a reserved entry waits for a free one (R471, R479). -/
def State.complete1 (s : State) (sq : Nat) : State :=
  match s.hif.flights.find? (fun f => f.sq == sq) with
  | none => s
  | some f =>
    match f.dec with
    | none => s
    | some d =>
      let c := 32 + (s.ring sq).bound
      let g := s.ring c
      let s' := s.setHif { s.hif with flights := s.hif.flights.erase f }
      match g.st with
      | .absent => s'.resetWritten f false
      | .error => s
      | .active =>
        if f.fromRing || g.used + g.reserved + 1 < g.size then s'.cplWrite c f d else s

/-- COMPLETION_WRITE (R471). -/
def execCompletionWrite (t sq : Nat) (s : State) : Out := runCfgIf t s (fun s => s.up dHost) (fun s => s.complete1 sq)

/-- IRQ_COALESCE_TIMEOUT: agg_us has passed since the oldest unsignalled entry of ring r (R39, R473). -/
def execIrqCoalesceTimeout (t r : Nat) (s : State) : Out :=
  runIf t s (fun s => let g := s.ring r
                      s.up dHost && 32 ≤ r && g.st != .absent && 0 < g.unsig && 0 < g.aggUs
                        && g.oldest + g.aggUs * ticksPerUs ≤ s.now)
    (fun s => s.signal (s.ring r).vec)

/-- MSIX_VECTOR_UNMASK: a pending message is sent (R473), and a reset that waited for it goes on (R563). -/
def execMsixVectorUnmask (t v : Nat) (s : State) : Out :=
  runCfgIf t s (fun s => s.up dHost && v < 64) (fun s =>
    let h := s.hif
    let s := s.setHif { h with unmasked := insN h.unmasked v, pendingVec := h.pendingVec.filter (· != v) }
    let s := if h.pendingVec.contains v then s.signal v else s
    match s.gaf.sendOff with
    | some (d, w) => if w = v then s.domResetGo d else s
    | none => s)

/-! ### Dailies (R476, R477, Table 19.10) -/

/-- A register behind a select register. -/
def windowReg (off : Nat) : Bool :=
  (0x3824 ≤ off && off ≤ 0x383C) || (0x3844 ≤ off && off ≤ 0x384C) || off == 0x3F04 || (0x4094 ≤ off && off ≤ 0x40A8)
  || (0x42A4 ≤ off && off ≤ 0x42B8) || (0x4C08 ≤ off && off ≤ 0x4C30) || off == 0x4C44 || off == 0x4C48
  || (0x5A04 ≤ off && off ≤ 0x5A0C) || off == 0x6404

/-- The register word of item i. -/
def State.dlyItem (s : State) (i : Nat) : Nat := s.reg (0x7840 + 4 * i)

/-- Item i is illegal (R477, Table 19.13). -/
def State.dlyItemBad (s : State) (i : Nat) : Bool :=
  let w := s.dlyItem i
  let ofs := bits w 15 2 * 4
  match bits w 31 30 with
  | 0 => false
  | 1 => windowReg ofs || ofs == 0x20 || ofs == 0x385C || ofs == 0x6834
  | 2 => !(bits w 15 8 ≤ 191 && bits w 7 5 == 0)
  | _ => true

/-- The check of the dailies at CONFIG_LOCK (R477). -/
def State.hifLockCheck (s : State) : State × Bool :=
  let en := s.rb 0x7820 31
  let iv := s.fld 0x7820 15 0
  let bad := (List.range 48).filter s.dlyItemBad ++ (if en && !(1 ≤ iv && iv ≤ 60000) then [48] else [])
  let s := s.setHif { s.hif with dlyOn := en && bad.isEmpty }
  (bad.foldl (fun s i => s.raise 238 [i]) s, !bad.isEmpty)

/-- The dailies run: enabled, checked and with a DLY. -/
def State.dlyRuns (s : State) : Bool := s.up dHost && s.hif.dlyOn && (s.ring dly).st == .active

/-- At the first boundary with the dailies running they start, and their intervals count from it (R30, R476). -/
def State.dlyStart (s : State) (b : Nat) : State :=
  if s.dlyRuns && s.hif.dlyNext == 0 then s.setHif { s.hif with dlyNext := b + s.fld 0x7820 15 0 * ticksPerMs } else s

/-- The captured value of item i. -/
def State.dlyVal (s : State) (i : Nat) : Nat :=
  let w := s.dlyItem i
  match bits w 31 30 with
  | 1 => s.bar0 (bits w 15 2 * 4)
  | 2 => if s.up dCtrl then getD (s.ctx (bits w 15 8)).outs (bits w 4 2) 0 % 2 ^ 32 else 0
  | _ => 0

/-- DAILIES_RECORD: the record of the latest boundary, at the first boundary at or after an interval multiple; a
full DLY drops it with EV234 (R461, R476, R477). -/
def execDailiesRecord (t : Nat) (s : State) : Out :=
  runIf t s (fun s => s.dlyRuns && 0 < s.hif.dlyNext && s.hif.dlyNext ≤ s.tbu.lastB) (fun s =>
    let h := s.hif
    let g := s.ring dly
    let next := nextMultiple h.dlyNext (s.fld 0x7820 15 0 * ticksPerMs) s.tbu.lastB
    let seq := (g.seq + 1) % 2 ^ 32
    if g.full then
      let s := (s.setHif { h with dlyNext := next }).setRing dly { g with seq := seq, lost := g.lost + 1 }
      s.raise 234 [g.lost + 1]
    else
      let is := List.range 48
      let m := HostMsg.dailies g.tail g.phase (0 < g.lost) ((is.filter (fun i => bits (s.dlyItem i) 31 30 != 0)).length) g.seq
        s.tbu.lastB s.boundary s.gaf.coreNow.code s.safeState (s.saf.shl.dem ||| s.saf.sfp.dem)
        ((List.range 16).map (fun g => (s.grp g).st.code)) h.dlyEcc h.dlyEvents (is.map s.dlyVal)
      let s := s.setHif { h with dlyNext := next, dlyEcc := 0, dlyEvents := 0 }
      ((s.setRing dly { g.wrote s.now with seq := seq, lost := 0 }).send m).signalRing dly false)

end Sys2Proof.Machine
end

