-- ==== Sys2Proof/Machine/Loops.lean ====
section
/-! DEFINITION. The commands and events of the loop engine and the profile generators (chapters 07 and 08). -/

namespace Sys2Proof.Machine

/-! ### Host commands (R161, R163, R182 to R188) -/

/-- CTX_START: the check of R163, and the start at the context's next boundary (R182). -/
def execCtxStart (d : Desc) (s : State) : Out :=
  hostRun 0x0400 d s (fun s =>
    if (s.ctx d.target).st == .active then s.refuse d
    else
      let (s, ok) := s.ctxCheck s.selMode d.target
      if ok then s.await 0x0400 d (.ctxStart d.target) else s.refuse d)

/-- CTX_STOP (R182). -/
def execCtxStop (d : Desc) (s : State) : Out :=
  hostRun 0x0401 d s (fun s =>
    if (s.ctx d.target).st == .idle then s.refuse d else s.await 0x0401 d (.ctxStop d.target))

/-- Input slot of context c takes its set-points from the host (R183, R251, R417, Tables 14.7 and 15.4). -/
def State.slotHost (s : State) (c slot : Nat) : Bool :=
  let b := s.bind c false slot
  b.en && b.kind == 4 && !s.gbxOwns c slot && !s.ppmOwns c slot && !s.sfpOwns c slot

/-- The target of unit u comes from the host (R247, Table 7.10). -/
def State.pgnHost (s : State) (u : Nat) : Bool := !s.rb (pgnBase u) 29 && !s.gbxOwns (256 + u) 0

/-- SET_TARGET of a HOST set-point slot or of a profile generator (R183, R184, R186). -/
def execSetTarget (d : Desc) (s : State) : Out :=
  hostRun 0x0402 d s (fun s =>
    if d.target < 256 then
      if s.slotHost d.target d.count then s.await 0x0402 d (.setSlot d.target d.count (d.par 0)) else s.refuse d
    else if s.pgnHost (d.target - 256) then s.await 0x0402 d (.setPgn (d.target - 256) (sx 32 (d.par 0)))
    else s.refuse d)

/-- PGN_LIMITS (R188). -/
def execPgnLimits (d : Desc) (s : State) : Out :=
  hostRun 0x0403 d s (fun s =>
    if d.par 0 = 0 || d.par 1 = 0 || d.par 2 = 0 then s.refuse d
    else s.await 0x0403 d (.pgnLimits d.target (d.par 0) (d.par 1) (d.par 2)))

/-- The next boundary is an update boundary of unit u, or the unit is not started (R185, R188). -/
def State.pgnUpdates (s : State) (u : Nat) : Bool :=
  let p := s.pgn u
  !p.active || (p.begun && s.fld (pgnBase u) 28 16 ≤ p.cnt + 1)

/-- New limits of unit u (R188). -/
def State.pgnLimit (s : State) (u v a j : Nat) : State := s.setPgn u { s.pgn u with vMax := v, aMax := a, jMax := j }

/-! ### Runs (R172 to R181, R199) -/

/-- The next boundary ends the time of run r (R174). -/
def State.runDue (s : State) (r : Run) : Bool := r.due ≤ s.tbu.count && s.tbu.nextB ≤ s.now

/-- CTX_RUN_RELEASE: t_in after boundary k the run has all its inputs (R173). -/
def execCtxRunRelease (t c : Nat) (s : State) : Out :=
  runIf t s (fun s => match (s.ctx c).run with
                      | some r => s.up dCtrl && !r.released && r.tick + (s.ctx c).tIn ≤ s.now && !s.runDue r
                      | none => false) (fun s => s.runRelease c)

/-- CTX_RUN_COMPLETE: the run that its lane is at executes END before boundary k + 1 (R172, R174, R176). -/
def execCtxRunComplete (t c busy : Nat) (s : State) : Out :=
  runIf t s (fun s => match (s.ctx c).run with
                      | some r => s.up dCtrl && r.released && !r.abandoned && r.done.isNone && !s.runDue r && s.laneAt c
                      | none => false) (fun s => s.runComplete c busy)

/-- CTX_OVERRUN: the run reaches boundary k + 1 without having completed (R180, R181). -/
def execCtxOverrun (t c : Nat) (s : State) : Out :=
  runIf t s (fun s => match (s.ctx c).run with
                      | some r => s.up dCtrl && r.done.isNone && s.runDue r
                      | none => false) (fun s => s.runOverrun c s.tbu.nextB)

/-! ### BOOT images (R209 to R213, Table 8.10) -/

/-- A BOOT load ends with a result and an offset; a failed one raises EV107 (R212). -/
def State.imgEnd (s : State) (res ofs : Nat) : State :=
  ({ s with lpe := { s.lpe with imgBusy := false, imgResult := res, imgFail := ofs } }).raiseIf (res != 1) 107 [res, ofs]

/-- A write of go = 1 to LPE_IMG_CTL (R212, R582). -/
def State.imgGo (s : State) : State :=
  if !s.up dCtrl then s
  else if s.lock.locked then s.raise 251 [0x385C]
  else if s.lpe.imgBusy then s
  else if s.tbu.running then s.imgEnd 9 0
  else { s with lpe := { s.lpe with imgBusy := true, imgResult := 0, imgFail := 0 } }

/-- IMAGE_LOAD_START. -/
def execImageLoadStart (t : Nat) (s : State) : Out := run t s (fun s => s.imgGo)

/-- Judge and apply a BOOT image (R209 to R212). -/
def State.imgBoot (s : State) (l : List Nat) : State :=
  match parseImg l with
  | .error e => s.imgEnd e.1 e.2
  | .ok g =>
    if g.kind != 1 then s.imgEnd 11 6
    else match imgSigned (s.keyOk 1) l with
      | some e => s.imgEnd e.1 e.2
      | none =>
        match s.imgFits g with
        | some e => s.imgEnd e.1 e.2
        | none =>
          let s := s.imgApply g
          (s.setSecu { s.secu with loopDig := Config.shake256 64 (l.take (field l 0x10 4)) }).imgEnd 1 0

/-- IMAGE_LOAD_DONE: the image has been read, or its read has failed. -/
def execImageLoadDone (t : Nat) (bytes : List Nat) (dmaErr : Bool) (s : State) : Out :=
  runIf t s (fun s => s.up dCtrl && s.lpe.imgBusy) (fun s =>
    if dmaErr then s.imgEnd 10 0 else s.imgBoot (bytes.take (s.fld 0x3858 20 0)))

end Sys2Proof.Machine
end

