-- ==== Sys2Proof/Machine/Rails.lean ====
section
/-! DEFINITION. The commands and events of the implement power rails and the voltage command link
(chapter 13). -/

namespace Sys2Proof.Machine

/-- RAIL_START: OK from OFF or LATCHED when the rail is enabled and its group is in RUN or RECOVERY
(Table 13.10, R330). -/
def execRailStart (d : Desc) (s : State) : Out :=
  hostRun 0x0800 d s (fun s =>
    let r := d.target
    let x := s.rail r
    let g := (s.grp (railGrp r)).st
    if x.armed && (x.st == .off || x.st == .latched) && (g == .run || g == .recovery) then s.await 0x0800 d (.railStart r)
    else s.refuse d)

/-- RAIL_STOP: REFUSED in OFF (Table 13.10). -/
def execRailStop (d : Desc) (s : State) : Out :=
  hostRun 0x0801 d s (fun s =>
    if (s.rail d.target).st == .off then s.refuse d else s.await 0x0801 d (.railStop d.target))

/-- RAIL_SET (R320, Table 13.10). -/
def execRailSet (d : Desc) (s : State) : Out :=
  hostRun 0x0802 d s (fun s =>
    let r := d.target
    let v := d.par 0
    if !s.cmdHost r || !(v == 0 || (s.vMin r ≤ v && v ≤ s.vMax r)) then s.refuse d
    else
      let s := if v = 0 then s else s.railAccept r 0 v
      s.await 0x0802 d (.railSet r (v != 0) v (d.par 1)))

/-- RAIL_RETIRE (R328). -/
def execRailRetire (d : Desc) (s : State) : Out :=
  hostRun 0x0803 d s (fun s =>
    let ps := s.activePhases d.target
    if !ps.contains (d.par 0) || ps.length = 1 then s.refuse d else (s.phaseRetire d.target (d.par 0) 3).ok d)

/-- Run an effect on rail r while PD_CONV runs and a condition on the rail holds. -/
def railRun (t r : Nat) (s : State) (c : State → Rail → Bool) (k : State → State) : Out :=
  runIf t s (fun s => s.up dConv && r < 2 && (s.rail r).armed && c s (s.rail r)) k

/-- RAIL_SOFTSTART_END: the ramp has ended (R321, R322). -/
def execRailSoftstartEnd (t r : Nat) (s : State) : Out :=
  railRun t r s (fun s x => x.st == .softstart && x.rampEnd ≤ s.tbu.lastB) (fun s =>
    let x := s.rail r
    let b := s.tbu.lastB
    if 3 * x.vTgt ≤ 10 * x.vAvg then
      (s.setRail r { x with vCmd := x.vTgt * 400000, vTick := b }).railGo r b .run 0
    else s.railShort r b 1)

/-- RAIL_SHORT_DETECT: lim_cyc limit cycles have been counted, and a boundary has come since (R317, R322). -/
def execRailShortDetect (t r : Nat) (s : State) : Out :=
  railRun t r s (fun s x => (x.st == .softstart || x.st == .run) && s.fld (rgcBase r) 13 6 ≤ x.limRun && x.limAt ≤ s.tbu.lastB) (fun s =>
    s.railShort r s.tbu.lastB 0)

/-- RAIL_HICCUP_END: hic_ms has elapsed (Table 13.2). -/
def execRailHiccupEnd (t r : Nat) (s : State) : Out :=
  railRun t r s (fun s x => x.st == .hiccup && x.since + s.fld (rgcBase r + 0xC) 15 0 * ticksPerMs ≤ s.tbu.lastB) (fun s =>
    s.railSoftstart r s.tbu.lastB)

/-- RAIL_HICCUP_RESET: 1 s in RUN or BURST without a short (R323). -/
def execRailHiccupReset (t r : Nat) (s : State) : Out :=
  railRun t r s (fun s x => (x.st == .run || x.st == .burst) && x.calm + ticksPerS ≤ s.now) (fun s =>
    s.setRail r { s.rail r with hicCnt := 0 })

/-- RAIL_BURST_ENTER: b_cyc periods of low reference, and a boundary since (R317, Table 13.4). -/
def execRailBurstEnter (t r : Nat) (s : State) : Out :=
  railRun t r s (fun s x => x.st == .run && s.fld (rgcBase r + 0x20) 23 12 ≤ x.bRun && x.bAt ≤ s.tbu.lastB) (fun s =>
    (s.railGo r s.tbu.lastB .burst 0).raise 172 [r, 0])

/-- RAIL_BURST_PACKET_TIMEOUT: a packet has outlasted b_max at a boundary (R317, Table 13.4). -/
def execRailBurstPacketTimeout (t r : Nat) (s : State) : Out :=
  railRun t r s (fun s x => x.st == .burst && x.awake && x.packet + s.fld (rgcBase r + 0x24) 15 0 * ticksPerUs < s.tbu.lastB) (fun s =>
    (s.railGo r s.tbu.lastB .run 0).raise 172 [r, 1])

/-- PHASE_RETIRED: flt_run has reached ret_cyc on an active phase that is not the last one (R325,
R327). -/
def execPhaseRetired (t r p : Nat) (s : State) : Out :=
  railRun t r s (fun s _ => (s.activePhases r).contains p && 1 < (s.activePhases r).length && (s.phase r p).fltKind != 0
                            && s.fld (rgcBase r + 0x1C) 31 20 ≤ (s.phase r p).fltRun) (fun s =>
    s.phaseRetire r p (s.phase r p).fltKind)

/-- RAIL_OUT_OF_BAND: v_avg has stayed outside the band for settle_ms (R329). -/
def execRailOutOfBand (t r : Nat) (s : State) : Out :=
  railRun t r s (fun s x => !x.oob && (match x.outSince with
                                       | some b => b + s.settle10 r ≤ s.tbu.lastB
                                       | none => false)) (fun s =>
    (s.setRail r { s.rail r with oob := true }).raise 165 [r, (s.rail r).vAvg])

/-- RAIL_TRANSITION_DONE: v_avg has stayed in the band of v_tgt for settle_ms, in time for the deadline
(R337, R39). -/
def execRailTransitionDone (t r : Nat) (s : State) : Out :=
  railRun t r s (fun s x => x.trans.isSome && (match x.okSince with
                                               | some b => b + s.settle10 r ≤ s.tbu.lastB
                                               | none => false)) (fun s =>
    match (s.rail r).trans with
    | some (_, dl) => s.transClose r (if dl ≤ s.tbu.lastB then 1 else 0)
    | none => s)

/-- RAIL_TRANSITION_TIMEOUT: tr_ms has passed (R337). -/
def execRailTransitionTimeout (t r : Nat) (s : State) : Out :=
  railRun t r s (fun s x => match x.trans with
                            | some (_, dl) => dl ≤ s.now
                            | none => false) (fun s => s.transClose r 1)

/-! ### The link -/

/-- Why a received frame is bad: 1 framing, 2 length, 3 CRC, 4 type (R334). -/
def frameBadKind (l : List Nat) (framing : Bool) : Nat :=
  if framing then 1 else if l.length != 16 then 2 else if crc16 (l.take 14) != field l 14 2 then 3
  else if l.getD 0 0 != 0x11 then 4 else 0

/-- A bad frame (R334). -/
def State.vclBad (s : State) (r kind : Nat) : State :=
  let x := s.rail r
  let ev := x.ev170 == 0 || x.ev170 - 1 + ticksPerS ≤ s.now
  (s.setRail r { x with badCnt := satInc 255 x.badCnt, ev170 := if ev then s.now + 1 else x.ev170 }).raiseIf ev 170 [r, kind]

/-- Result of a new CMD: 0 ACCEPTED, 1 RANGE, 2 STATE (R319, R335); a mode outside Table 13.5 is RANGE (DESIGN CHOICE,
notes/assumptions/26.md). -/
def State.vclJudge (s : State) (r mode v : Nat) : Nat :=
  let x := s.rail r
  if s.cmdHost r || x.st == .off || x.st == .latched || x.doom != 0 then 2
  else if 1 < mode || (mode = 1 && !(s.vMin r ≤ v && v ≤ s.vMax r)) then 1
  else 0

/-- The ACK of a new CMD (R336, Table 13.5). -/
def State.vclAck (s : State) (r seq res : Nat) : State :=
  s.vclSend r ([0x21, seq, res, 0] ++ leBytes 2 (s.rail r).vTgt ++ List.replicate 8 0)

/-- A new CMD is judged and acknowledged (R335 to R337). -/
def State.vclNew (s : State) (r seq mode v slew : Nat) : State :=
  let res := s.vclJudge r mode v
  let s := s.vclAck r seq res
  if res != 0 then
    (s.setRail r { s.rail r with rejCnt := satInc 255 (s.rail r).rejCnt }).raise 171 [r, seq, res]
  else
    let s := if mode = 1 then s.railAccept r seq v else s
    s.setRail r { s.rail r with lastSeq := seq, cmds := (s.rail r).cmds ++ [(s.now, mode == 1, v, slew)] }

/-- A good CMD restarts the watchdog and returns the link to UP (R335, R338). -/
def State.vclGood (s : State) (r : Nat) (l : List Nat) : State :=
  let x := s.rail r
  let wasUp := x.link == .up
  let seq := l.getD 1 0
  let fresh := !wasUp || seq != x.lastSeq
  let s := if s.cmdHost r then s
    else (s.setRail r { x with link := .up, dl := s.now + 40000 * s.fld (rgcBase r + 0x28) 31 16 }).raiseIf (!wasUp) 169 [r]
  if fresh then s.vclNew r seq (l.getD 2 0) (field l 4 2) (field l 6 2) else s

/-- VCL_CMD_FRAME: a frame of bytes ends at this tick (R333 to R338). -/
def execVclCmdFrame (t r : Nat) (bytes : List Nat) (framing : Bool) (s : State) : Out :=
  railRun t r s (fun _ _ => true) (fun s =>
    let s := s.linkWatch r
    let k := frameBadKind bytes framing
    if k != 0 then s.vclBad r k else s.vclGood r bytes)

/-- VCL_STATUS_SEND: a STATUS frame at the first boundary at or after a multiple of stat_us (R336). -/
def execVclStatusSend (t r : Nat) (s : State) : Out :=
  railRun t r s (fun s x => x.statNext ≤ s.tbu.lastB) (fun s =>
    let s := s.vclStatus r
    let x := s.rail r
    let d := s.fld (rgcBase r + 0x2C) 31 16 * 4000
    s.setRail r { x with statNext := x.statNext + ((s.tbu.lastB - x.statNext) / d + 1) * d })

/-- VCL_LINK_LOST: the watchdog deadline passes (R338). -/
def execVclLinkLost (t r : Nat) (s : State) : Out :=
  railRun t r s (fun s x => x.link == .up && x.dl ≤ s.now) (fun s => s.linkWatch r)

/-- VCL_HOLD_EXPIRED: hold_ms after the deadline (R338). -/
def execVclHoldExpired (t r : Nat) (s : State) : Out :=
  railRun t r s (fun _ x => x.link == .hold) (fun s => s.linkWatch r)

end Sys2Proof.Machine
end

