-- ==== Sys2Proof/Machine/Thermal.lean ====
section
/-! DEFINITION. The events of the thermal estimator (chapter 16). -/

namespace Sys2Proof.Machine

/-- Ranks that a derating of channel d makes yield: traction contexts, rails and OBC that read it (Tables 15.1 and
15.2). -/
def State.derateMask (s : State) (d : Nat) : Nat :=
  let trac := (s.lpe.ctxs.map (·.1)).any (fun c =>
    (s.binds c false).any (fun x => x.2.kind == 9 && x.2.index == d)
    && (s.binds c true).any (fun x => x.2.kind == 1 && x.2.index < 12))
  let rail := [0, 1].any (fun r => (s.rail r).armed && s.fld (rgcBase r) 21 14 == d)
  let obc := s.ppm.obcArmed && s.fld 0x4820 21 14 == d
  b2n trac * rankBit 3 + b2n rail * rankBit 4 + b2n obc * rankBit 6

/-- THM_DERATE of channel d begins or ends (R397, Table 15.2). -/
def State.derateIs (s : State) (d : Nat) : State :=
  let m := s.derateMask d
  if m = 0 then s else s.precIs (s.thmFactor d < 32767) 2 m 6 d

/-- THM_UPDATE: estimate e updates its network and compares with its limits; the die temperatures are read with it
(R393 to R401). -/
def execThmUpdate (t e : Nat) (m : ThmMeas) (s : State) : Out :=
  runR t s (fun s =>
    if !s.up dCtrl then s
    else
      let s := s.thmDies m
      if s.estDue e then (s.thmUpdate e).derateIs (s.estDch e) else s)

/-- THM_SENSOR_FAULT: 10 readings in a row of sensor k are out of range (R395). -/
def execThmSensorFault (t k : Nat) (s : State) : Out :=
  runIf t s (fun s => s.up dCtrl && k < 14 && !s.snsFlt k && 10 ≤ (s.snsSt k).bad) (fun s =>
    ({ s with thm := { s.thm with flt := insN s.thm.flt k } }).raise 20 [k])

/-- THM_SENSOR_RECOVER: the readings of a faulted sensor have been within range for 100 ms (R395). -/
def execThmSensorRecover (t k : Nat) (s : State) : Out :=
  runIf t s (fun s => s.up dCtrl && s.snsFlt k && (match (s.snsSt k).okSince with
                                              | some b => b + 100 * ticksPerMs ≤ s.now
                                              | none => false)) (fun s =>
    { s with thm := { s.thm with flt := s.thm.flt.filter (· != k) } })

end Sys2Proof.Machine
end

