-- ==== Sys2Proof/Machine/Boundary.lean ====
section
/-! DEFINITION. The carrier start of a leg and the clapper boundary: what every block does at a boundary, in the
order of R41, and the host commands that have waited for it (R27, R57, R467, R470). -/

namespace Sys2Proof.Machine

/-! ### LEG_CARRIER_START -/

/-- ADAPT_STEP of leg n; a channel that has stayed at its strongest step advises replacement (R122, R124, R551). -/
def State.adaptStart (s : State) (n : Nat) (m : LegMeas) : State :=
  let s' := s.adaptLeg n m
  ((legChs n).filter (fun c => (s'.ch c).atMax && !(s.ch c).atMax)).foldl (fun s c => s.advise 3 c) s'

/-- What the ended period of leg n leads to in the blocks that watch it, before the new period takes its values
(R222, R314, R390). -/
def State.carrierEnd (s : State) (n : Nat) (m : LegMeas) : State :=
  ((s.thmPeriod n m).rgcPeriod n m).cmuPeriod n m

/-- LEG_CARRIER_START: a carrier start of leg n; m is what its ended period has brought (R57, R66, R73). -/
def execLegCarrierStart (t n : Nat) (m : LegMeas) (s : State) : Out :=
  runRIf t s (fun s => s.up dCtrl && n < 68 && (s.leg n).carrier && (s.leg n).next / 32 ≤ s.now && !s.carrierWaits n) (fun s =>
    let s := ((((s.carrierEnd n m).adaptStart n m).carrierBegin n).cbcCarrier n).legFresh n
    if n = 12 || n = 13 then s.chopWatch else s)

/-! ### Starting with the clapper (R28, R581) -/

/-- Every block, channel, context, unit and group that starts with the clapper starts; t is the last tick before
its first boundary or the start itself (R28, R72, R148, R264, R370, R383, R402, R508). -/
def State.blocksStart (s : State) (t : Nat) : State :=
  let s := (s.legsStart.valvesStart.trmStart.fbStart t).lpeStart.gbxStart
  let s := if s.sxe.armed then s.sxeStart s.now else s
  ((s.railsStart s.now).ppmStart s.now).thmStart.cansStart

/-- The blocks that have waited for the first boundary after C start (R581). -/
def State.blocksDue (s : State) (b : Nat) : State :=
  if s.tbu.due then (s.setTbu { s.tbu with due := false }).blocksStart (b - 1) else s

/-! ### Host commands that wait for a boundary (R467, R470) -/

/-- Domain of the block that a waiting effect is for; PD_AON where no reset of its own can take the block. -/
def BoundaryAct.dom : BoundaryAct → Nat
  | .secBase .. => dImpl
  | .secGate .. => dImpl
  | .cueAppend .. => dImpl
  | .cueFlush .. => dImpl
  | .cmuSet .. => dImpl
  | .railStart .. => dConv
  | .railStop .. => dConv
  | .railSet .. => dConv
  | .dclLimit .. => dConv
  | .ctxStart .. => dAon
  | .ctxStop .. => dAon
  | .setSlot .. => dAon
  | .setPgn .. => dAon
  | .pgnLimits .. => dAon
  | .valveGate .. => dAon
  | .valvePeriod .. => dAon
  | .domReset .. => dAon

/-- Boundary B is the one the effect waits for: the context's own, the unit's next update, or any. -/
def State.actDue (s : State) (B : Nat) : BoundaryAct → Bool
  | .ctxStart c => s.ctxAt c B
  | .ctxStop c => s.ctxAt c B
  | .setSlot c _ _ => s.ctxN c == 0 || s.ctxAt c B
  | .setPgn u _ => s.pgnUpdates u
  | .pgnLimits u .. => s.pgnUpdates u
  | _ => true

/-- Apply k to count sections from first on, while SXE runs. -/
def State.secEach (s : State) (first count : Nat) (k : State → Nat → State) : State :=
  if s.sxe.running then (List.range count).foldl (fun s i => k s (first + i)) s else s

/-- The effect of a waiting command at boundary B, tick b. -/
def State.actDo (s : State) (B b : Nat) (p : PendAct) : State :=
  match p.act with
  | .ctxStart c => s.ctxStart c
  | .ctxStop c => s.ctxStop c
  | .setSlot c slot v => s.hostPut c slot v
  | .setPgn u v => s.pgnTarget u (toBits 32 v)
  | .pgnLimits u v a j => s.pgnLimit u v a j
  | .valveGate m opn => s.valveGate b m opn
  | .valvePeriod m T => s.valvePeriod b m T
  | .secBase f n v => s.secEach f n (fun s k => s.setSec k { s.sec k with base := some v })
  | .secGate f n opn => s.secEach f n (fun s k => s.setSec k { s.sec k with gate := opn })
  | .cueAppend k ws => if s.sxe.running then s.cueJoin B k ws else s
  | .cueFlush f n cl => s.secEach f n (fun s k => s.cueFlush k cl)
  | .cmuSet u v => s.setCmu u { s.cmu u with cmd := some v }
  | .railStart r => s.railStart r b
  | .railStop r => s.railStop r b
  | .railSet r on v sl => s.railCommand r b on v sl
  | .dclLimit i sp => { s with dcl := { s.dcl with iReg := some (i, sp) } }
  | .domReset d => s.domResetBoundary d p.sq p.tick

/-- The command's own completion at its boundary, unless it is completed already or only later (R467, R563). -/
def State.actDone (s : State) (b : Nat) (p : PendAct) (st : Status) : State :=
  match p.act with
  | .domReset _ => s
  | _ => if p.decided then s else s.decide p.sq p.tick st 0 b

/-- One waiting command at boundary B, tick b; a block whose domain is down gives DOMAIN_OFF. -/
def State.actApply (s : State) (B b : Nat) (p : PendAct) : State :=
  if s.up p.act.dom then (s.actDo B b p).actDone b p .ok else s.actDone b p .domainOff

/-- The host commands with ticks below boundary tick b whose boundary this is, in the order of their ticks (R467,
R470). -/
def State.hostActs (s : State) (B b : Nat) : State :=
  let due := fun (p : PendAct) => p.tick < b && s.actDue B p.act
  let now := s.hif.pend.filter due
  now.foldl (fun s p => s.actApply B b p) { s with hif := { s.hif with pend := s.hif.pend.filter (fun p => !due p) } }

/-! ### Program-set swaps (R192, R193) -/

/-- A swap at one of its boundaries: deferred when an old context has overrun there, at the third time without a
swap; else the swap, and TK2 has done its last unit. -/
def State.swapAt (s : State) (B b : Nat) (x : Swap × Bool) : State :=
  let w := x.1
  let g := w.img
  let rest := s.lpe.swaps.filter (fun v => v.take != w.take)
  let k := s.take w.take
  if g.per = 0 || B % g.per != g.phase then s
  else if x.2 then
    let n := w.defers + 1
    let s := { s with lpe := { s.lpe with swaps := if n < 3 then rest ++ [{ w with defers := n }] else rest } }
    let s := (s.setTake w.take { k with aux := [n] }).raise 101 [g.set]
    if n < 3 then s else s.takeFail w.take
  else
    let s := { s with lpe := { s.lpe with swaps := rest } }
    let s := (s.swapDo g b).setTake w.take { k with committed := true, aux := [w.defers, b] }
    s.takePop w.take 0 []

/-! ### The boundary -/

/-- The engines' outputs take effect at boundary B, tick b, in the order LPE, program-set swap, SXE (R41, R174, R192,
R277, R293). -/
def State.outputsAt (s : State) (B b : Nat) : State :=
  let ws := s.lpe.swaps.map (fun w => (w, s.swapBlocked w.img B b))
  let s := s.lpeEffects B b
  let s := ws.foldl (fun s x => s.swapAt B b x) s
  if s.up dImpl then (s.sxeEffects b).sxeRestart b else s

/-- Blocks that act at every boundary after the host's commands: units, rails, OBC, profile generators and sync groups
(R59, R63, R185, R224, R317). -/
def State.blocksAt (s : State) (b : Nat) : State :=
  let s := if s.up dImpl then s.cmusBoundary b s.tbu.period else s
  let s := if s.up dConv then ([0, 1].foldl (fun s r => s.railBoundary b r) s).obcAt else s
  let s := (s.lpe.pgns.map (·.1)).foldl (fun s u => s.pgnBoundary u) s
  (List.range 8).foldl (fun s j => s.sgBoundary b j) s

/-- Boundary B at tick b, once the configuration lock is complete (Table 2.3, R41). -/
def State.boundaryAt (s : State) (B b : Nat) : State :=
  let s := s.blocksDue b
  let s := if s.mod.vOrigin.isNone then s.valvesOrigin b else s
  let s := (s.fbBoundary b).trmBoundary
  let s := s.outputsAt B b
  let s := if s.up dConv then [0, 1].foldl (fun s r => s.railLatch b r) s else s
  let s := (s.hostActs B b).blocksAt b
  let s := if s.sxe.running && s.up dImpl then s.sxeUpdate b B else s
  let s := ((s.lpeLatch B b).hostLate).dclBoundary b
  s.dlyStart b

/-- CLAPPER_BOUNDARY (R27, R30). -/
def execClapperBoundary (t : Nat) (s : State) : Out :=
  runRIf t s (fun s => s.tbu.running && s.tbu.nextB ≤ s.now) (fun s =>
    let b := s.tbu.nextB
    let s := if s.lock.done then s.boundaryAt s.tbu.count b else s.hostActs s.tbu.count b
    s.clapTick)

end Sys2Proof.Machine
end

