-- ==== Sys2Proof/Machine/CanBus.lean ====
section
/-! DEFINITION. The commands and events of the CAN controllers (chapter 21). -/

namespace Sys2Proof.Machine

/-- CAN_TX_ARM: arms a host send object with a frame record (R514). -/
def execCanTxArm (d : Desc) (s : State) : Out :=
  hostRun 0x0C00 d s (fun s =>
    let k := d.target / 256
    let o := d.target % 256
    let f := frameOf d.data
    let c := s.can k
    let sa := bitAt f.flags 3
    if s.objOwner k o != 0 then s.refuse d
    else if (s.canObj k o).st = 1 then s.complete d .busy 0
    else if c.st == .stopped || c.st == .failed || d.len != 24 + field d.data 6 2 || !s.frameOk k d.data
      || d.t + 2 ^ 32 < f.time || (sa && (!s.isobus k || 253 < c.sa)) then s.refuse d
    else
      let f := if sa then { f with id := f.id / 256 * 256 + c.sa } else f
      let s := s.setCan k { c with order := c.order + 1 }
      (s.setCanObj k o { s.canObj k o with st := 1, cause := 0, attempts := 0, frame := f, order := c.order + 1, armT := s.now
                                           eligible := f.time ≤ s.now, abort := [] }).ok d)

/-- CAN_TX_ABORT: aborts an armed host object; whether its frame is on the bus is a free value
(R516, notes/assumptions/73.md). -/
def execCanTxAbort (d : Desc) (s : State) : Out :=
  hostRun 0x0C01 d s (fun s =>
    let k := d.target / 256
    let o := d.target % 256
    let x := s.canObj k o
    if s.objOwner k o != 0 || x.st != 1 then s.refuse d
    else
      let (v, s) := s.freeNat
      if (x.eligible || Nat.ble x.frame.time s.now) && (s.can k).onBus && (v % 2 = 1 || !x.abort.isEmpty) then
        s.setCanObj k o { x with abort := x.abort ++ [(d.sq, d.t)] }
      else (s.objAbort k o 1 false).ok d)

/-- CAN_RX_RELEASE: returns the oldest software-owned entries of a queue to hardware (R520). -/
def execCanRxRelease (d : Desc) (s : State) : Out :=
  hostRun 0x0C02 d s (fun s =>
    let k := d.target / 256
    let o := d.target % 256
    match s.queueOf k o with
    | none => s.refuse d
    | some q =>
      let x := s.canQ k q
      let n := s.qN k q
      if s.objOwner k o = 1 && 0 < x.owned && s.qFirst k q + (x.head + n - x.owned) % n = o && d.count ≤ x.owned then
        (s.setCanQ k q { x with owned := x.owned - d.count }).ok d
      else s.refuse d)

/-- CAN_REINIT: re-initialises one controller (R526). -/
def execCanReinit (d : Desc) (s : State) : Out :=
  hostRun 0x0C03 d s (fun s =>
    let k := d.target
    if (s.can k).st == .stopped then s.refuse d
    else
      let s := (s.armedObjs k ++ ((s.can k).users.map (·.1)).filter (s.rsvArmed k)).foldl (fun s o => s.objAbort k o 4 true) s
      let s := ((s.can k).users.filter (fun u => u.2.1 == 3)).foldl (fun s u =>
        s.setConn (u.2.2 / 2) { s.conn (u.2.2 / 2) with tx := [], txAt := [] }) s
      let s := (s.rns.filter (fun j => s.rnCan j == k)).foldl (fun s j => s.setRn j { s.rn j with queue := [] }) s
      let y := (getD s.sxe.syncs k {} : SyncCan)
      let s := s.setSxe { s.sxe with syncs := put s.sxe.syncs k { y with frame := none } }
      let s := s.setCan k { s.can k with tec := 0, rcnt := 0, ackRun := 0, check := true, iso := [] }
      (s.canGo k .integrating).ok d)

/-- CAN_FRAME_RECEIVED: controller k has received a frame of an enabled format without an error; f.time is its start-of-frame
tick (R518 to R522, R444). -/
def execCanFrameReceived (t k : Nat) (f : CanFrame) (s : State) : Out :=
  runIf t s (fun s => s.up dCtrl && k < 6 && (s.can k).onBus && s.canWired k && s.rxOk k f) (fun s => (s.canRecvOk k).canReceive k f)

/-- CAN_FRAME_SENT: the frame of an object, which started on the bus at tick sof, has been acknowledged
(R511, R515, R516). -/
def execCanFrameSent (t k obj sof : Nat) (s : State) : Out :=
  runIf t s (fun s => s.up dCtrl && k < 6 && (s.can k).onBus && s.fld (canBase k) 30 29 != 1
                      && s.canWired k && sof ≤ s.now && s.offered k obj sof)
    (fun s =>
      let s := s.canSentOk k
      if s.objOwner k obj != 0 then
        (s.rsvSent k obj sof).setCanObj k obj { (s.rsvSent k obj sof).canObj k obj with st := 2, cause := 0, attempts := 0, ts := sof }
      else
        let x := s.canObj k obj
        (s.setCanObj k obj { x with st := 2, ts := sof, abort := [] }).abortsEnd x.abort .refused)

/-- CAN_TX_FAILED: an attempt of an object has failed; ackErr by a missing acknowledge, dom when a dominant bit
was seen in its passive error flag (R508, R510 to R512, R516). -/
def execCanTxFailed (t k obj : Nat) (ackErr dom : Bool) (s : State) : Out :=
  runIf t s (fun s => s.up dCtrl && k < 6 && (s.can k).onBus && s.fld (canBase k) 30 29 != 1
                      && (s.offer k obj).any (fun x => Nat.ble x.since s.now))
    (fun s =>
      let c := s.can k
      let hold := c.st == .passive && ackErr && !dom
      let run := if ackErr then satInc 255 c.ackRun else c.ackRun
      let s := s.setCan k { c with tec := if hold then c.tec else c.tec + 8, ackRun := run, errCnt := satInc 65535 c.errCnt
                                   noAck := c.noAck || run == 16 }
      let s := (s.canErrors k).raiseIf (run == 16 && c.ackRun != 16) 193 [k]
      let x := s.canObj k obj
      -- the first attempt of a reserved object's frame starts a new arming; host objects are ARMED here
      let n := if 2 ≤ x.st then 1 else satInc 65535 x.attempts
      let s := s.setCanObj k obj { x with st := if 2 ≤ x.st then 0 else x.st, attempts := n }
      if !x.abort.isEmpty then s.objAbort k obj 1 false
      else if 0 < s.retryMax k && s.retryMax k ≤ n then (s.rsvDrop k obj).objAbort k obj 2 true
      else s)

/-- CAN_TX_ELIGIBLE: the not_before time of an armed object has come (R515). -/
def execCanTxEligible (t k obj : Nat) (s : State) : Out :=
  runIf t s (fun s => s.up dCtrl && k < 6 && (s.canObj k obj).st == 1 && (s.canObj k obj).frame.time ≤ s.now)
    (fun s => s.setCanObj k obj { s.canObj k obj with eligible := true })

/-- CAN_BUS_OFF_RECOVERY: 128 sequences of 11 recessive bits have passed in BUS_OFF (R509, R525). -/
def execCanBusOffRecovery (t k : Nat) (s : State) : Out :=
  runIf t s (fun s => s.up dCtrl && k < 6 && (s.can k).st == .busOff && s.boffAuto k && !(s.can k).check)
    (fun s => (s.setCan k { s.can k with tec := 0, rcnt := 0 }).canGo k .active)

/-- CAN_INTEGRATED: a starting controller has integrated to its bus; its runtime claims an address (R508,
R522). -/
def execCanIntegrated (t k : Nat) (s : State) : Out :=
  runIf t s (fun s => s.up dCtrl && k < 6 && (s.can k).st == .integrating && !(s.can k).check)
    (fun s => (s.canGo k .active).isoStart k)

/-- CAN_SELF_CHECK_DONE: the loopback self-check has ended (R525). -/
def execCanSelfCheckDone (t k : Nat) (ok : Bool) (s : State) : Out :=
  runIf t s (fun s => s.up dCtrl && k < 6 && (s.can k).check) (fun s =>
    let s := s.setCan k { s.can k with check := false }
    if ok then s else ((s.canGo k .failed).raise 196 [k]).advise 4 k)

/-- CAN_RX_ERROR: an error while receiving raises REC by inc, 1 or 8 (R508). -/
def execCanRxError (t k inc : Nat) (s : State) : Out :=
  runIf t s (fun s => s.up dCtrl && k < 6 && (s.can k).onBus && (inc == 1 || inc == 8)) (fun s =>
    let c := s.can k
    (s.setCan k { c with rcnt := min 255 (c.rcnt + inc), errCnt := satInc 65535 c.errCnt }).canErrors k)

/-- OBJ_TS_LO_READ: reading CAN_OBJ_TS_LO captures the high half (Table 21.5). -/
def execObjTsLoRead (t : Nat) (s : State) : Out :=
  runIf t s (fun s => s.up dCtrl) (fun s =>
    let k := s.fld 0x5A00 10 8
    let ts := if k < 6 then (s.canObj k (s.fld 0x5A00 6 0)).ts else 0
    { s with canTsHi := ts / 2 ^ 32 % 2 ^ 32, readout := ts % 2 ^ 32 })

end Sys2Proof.Machine
end

