-- ==== Sys2Proof/Machine/Feedback.lean ====
section
/-! DEFINITION. The commands of position and speed feedback (chapter 06). -/

namespace Sys2Proof.Machine

/-- FB_ENABLE (R151): targets 0–15 PFI, 16–19 RSV, 32–47 CMP. -/
def execFbEnable (d : Desc) (s : State) : Out :=
  hostRun 0x0300 d s (fun s =>
    let x := d.target
    if !s.tbu.running then s.refuse d
    else if x < 16 then
      if (s.pfi x).en then s.refuse d
      else if !s.pfiOk x then (s.pfiEv x 76 [x + 4]).refuse d
      else (s.pfiEnable s.now x).ok d
    else if x < 20 then
      let r := x - 16
      if (s.rsv r).en then s.refuse d
      else if !s.rsvOk r then (s.rsvEv r 76 [r]).refuse d
      else (s.rsvEnable r).ok d
    else
      let j := x - 32
      if (s.cmp j).en then s.refuse d
      else if !s.cmpOk j then (s.cmpEv j 76 [x]).refuse d
      else (s.setCmp j { s.cmp j with en := true }).ok d)

/-- FB_DISABLE (R151). -/
def execFbDisable (d : Desc) (s : State) : Out :=
  hostRun 0x0301 d s (fun s =>
    let x := d.target
    if x < 16 then
      if (s.pfi x).en then (s.pfiDisable x).ok d else s.refuse d
    else if x < 20 then
      if (s.rsv (x - 16)).en then (s.setRsv (x - 16) { s.rsv (x - 16) with en := false, conv := false }).ok d
      else s.refuse d
    else if (s.cmp (x - 32)).en then (s.setCmp (x - 32) { s.cmp (x - 32) with en := false }).ok d
    else s.refuse d)

/-- CMP_SET (R155): refused where the loop engine writes VAL (Table 6.10). -/
def execCmpSet (d : Desc) (s : State) : Out :=
  hostRun 0x0302 d s (fun s =>
    if s.rb (cmpBase d.target) 20 then s.refuse d else (s.cmpArm d.target (d.par 0)).ok d)

/-- A BAR0 write of CMPj_VAL arms the output before lock; after lock it has no effect and raises EV251 (R155,
R582). -/
def State.cmpValWrite (s : State) (j val be : Nat) : State :=
  if s.lock.locked then s.raise 251 [cmpBase j + 4]
  else if s.rb (cmpBase j) 20 then s
  else
    let v := mergeBits (beMask be) (s.cmp j).val val
    (s.setReg (cmpBase j + 4) v).cmpArm j v

/-- CMP_VAL_WRITE. -/
def execCmpValWrite (t j val be : Nat) (s : State) : Out :=
  runCfgIf t s (fun s => s.up dCtrl && j < 16) (fun s => s.cmpValWrite j val be)

/-- EDGE_LO_READ: captures EDGE_HI (R139, Table 6.6). -/
def execEdgeLoRead (t i : Nat) (s : State) : Out :=
  runIf t s (fun s => s.up dCtrl && i < 16) (fun s =>
    { s.setPfi i { s.pfi i with edgeHi := (s.pfi i).edgeL % 2 ^ 64 / 2 ^ 32 } with readout := (s.pfi i).edgeL % 2 ^ 32 })

/-- CAP_POS_READ: clears cap_new (R146, Table 6.5). -/
def execCapPosRead (t i : Nat) (s : State) : Out :=
  runIf t s (fun s => s.up dCtrl && i < 16) (fun s =>
    { s.setPfi i { s.pfi i with capNew := false } with readout := (s.pfi i).capPos })

/-- PFI_INPUT_EDGE: new levels of channel i's lines, which the filter may accept at tick t and a fine part (R137 to R147).
DEDUCED (notes/assumptions/55.md): all edges that a channel accepts in one tick come in one command. -/
def execPfiInputEdge (t fine i : Nat) (a b z : Bool) (s : State) : Out :=
  runIf t s (fun s => s.up dCtrl && i < 16) (fun s => (s.pfiCatch i).pfiInput i (t * 32 + fine % 32) a b z)

/-- CMP_PULSE_END: a PULSE output ends after its width (R156). -/
def execCmpPulseEnd (t j : Nat) (s : State) : Out :=
  runIf t s (fun s => match (s.cmp j).pulseEnd with
                      | some e => s.up dCtrl && e ≤ s.now
                      | none => false)
    (fun s => s.setCmp j { s.cmp j with pin := false, pulseEnd := none })

/-- HALL_INVALID: an invalid hall state has lasted hall_inv (R142). -/
def execHallInvalid (t i : Nat) (s : State) : Out :=
  runIf t s (fun s => s.up dCtrl && (s.pfi i).running && s.hallLong i) (fun s => (s.pfiCatch i).hallFail i)

/-- The transfer of channel i, started at boundary tick b, can end now in the way fail gives: 0 all its bits have been
clocked, 1 the line of an SSI channel was not high, 2 the start bit of a BISS channel is 20 µs late (R143, R145). -/
def State.xferEnds (s : State) (i b fail : Nat) : Bool :=
  match fail with
  | 0 => b + 2 * s.fld (pfiBase i + 0xC) 31 21 * s.fld (pfiBase i + 0xC) 20 15 ≤ s.now
  | 1 => s.pfiMode i == 4
  | 2 => s.pfiMode i == 5 && b + 20 * ticksPerUs ≤ s.now
  | _ => false

/-- A complete frame of nbits data bits w with the received CRC bits (R143 to R145). -/
def State.frameIn (s : State) (i b w crc : Nat) : State :=
  let nb := s.fld (pfiBase i + 0xC) 20 15
  let biss := s.pfiMode i == 5
  if biss && crc % 64 != crc6 w nb ^^^ 63 then s.frameBad i 0
  else
    let s := if biss && !bitAt w 1 then s.frameBad i 1 else s.frameGood i b (s.framePos i w)
    if biss && !bitAt w 0 then s.pfiEv i 77 [i] else s

/-- SERIAL_FRAME_DONE: the transfer in progress ends with a frame, or bad for a reason of its own: fail 1 the line was not
high (SSI), 2 the start bit was late (BISS).  A frame that is not complete at the next boundary is bad by that boundary
(R143 to R145). -/
def execSerialFrameDone (t i w crc fail : Nat) (s : State) : Out :=
  runIf t s (fun s => s.up dCtrl && (s.pfi i).running && s.pfiSerial i) (fun s =>
    let s := s.pfiCatch i
    match (s.pfi i).xfer with
    | none => s
    | some b =>
      if !s.xferEnds i b fail then s
      else
        let s := s.setPfi i { s.pfi i with xfer := none }
        if fail != 0 then s.frameBad i (fail + 1) else s.frameIn i b w crc)

/-- The excitation of resolver r is out of range: its current outside 5 to 150 mA, or its amplitude below 80 % of the one
that exc_amp sets (Tables 6.7 and 6.8). -/
def State.excOut (s : State) (r : Nat) (x : ExcMeas) : Bool :=
  x.i < 50 || 1500 < x.i || 100 * x.v < 80 * (1000 + 100 * s.fld (rsvBase r) 21 16)

/-- RESOLVER_CHECK: amplitude in 1/256 of nominal, tracking error in angle LSB, and the excitation, once per excitation
period.  A condition that holds when the channel converges sets its fault then (R153, R154, Table 6.7). -/
def execResolverCheck (t r amp err : Nat) (exc : ExcMeas) (s : State) : Out :=
  runIf t s (fun s => s.up dCtrl && r < 4 && (s.rsv r).en) (fun s =>
    let v := s.rsv r
    let thr := s.fld (rsvBase r + 4) 15 0
    let cl := amp < s.fld (rsvBase r + 4) 31 24
    let cd := 2 * s.fld (rsvBase r + 4) 23 16 < amp
    let ct := thr < err
    let nl := if cl then v.nLos + 1 else 0
    let nd := if cd then v.nDos + 1 else 0
    let nt := if ct then v.nTrk + 1 else 0
    let ce := s.excOut r exc
    let ne := if ce then v.nExc + 1 else 0
    let los := 2 ≤ nl
    let dos := 2 ≤ nd
    let trk := 10 ≤ nt
    let exc := decide (2 ≤ ne)
    let clean := if cl || cd || ct || ce then 0 else v.clean + 1
    let w := { v with amp := amp, nLos := nl, nDos := nd, nTrk := nt, nExc := ne, los := los, dos := dos
                      trk := trk, exc := exc, clean := clean }
    let n := if v.conv then v.nConv else if err < thr then v.nConv + 1 else 0
    let conv := v.conv || 10 ≤ n
    if !conv then s.setRsv r { w with nConv := n }
    else
      let any := los || dos || trk || exc
      let s := s.setRsv r { w with nConv := n, conv := true, fault := v.fault || any }
      let s := if los && !(v.los && v.conv) then s.rsvEv r 71 [r, amp] else s
      let s := if dos && !(v.dos && v.conv) then s.rsvEv r 72 [r, amp] else s
      let s := if trk && !(v.trk && v.conv) then s.rsvEv r 73 [r, amp] else s
      let s := if exc && !(v.exc && v.conv) then s.rsvEv r 74 [r, amp] else s
      let s := if any && !v.fault then s.rsvEv r 69 [r] else s
      if v.fault && !any && 10 ≤ clean && err < thr then
        (s.setRsv r { s.rsv r with fault := false, posLost := true }).rsvEv r 70 [r]
      else s)

/-- RESOLVER_TRACK_UPDATE: electrical position (65,536 per turn) and electrical speed in 0.25 rpm of the
tracking loop; held while the channel is in fault (R152, R153, R156). -/
def execResolverTrackUpdate (t r raw : Nat) (speed : Int) (s : State) : Out :=
  runIf t s (fun s => s.up dCtrl && r < 4 && (s.rsv r).en && !(s.rsv r).fault) (fun s =>
    let s := s.rsvCatch r
    let v := s.rsv r
    let new := (raw + s.fld (rsvBase r) 15 0) % 2 ^ 32
    (s.setRsv r { v with pos := new, rpm := divOpen speed (s.fld (rsvBase r) 30 28) }).cmpPass (16 + r) v.pos new)

end Sys2Proof.Machine
end

