-- ==== Sys2Proof/Machine/Gaf.lean ====
section
/-! DEFINITION. The commands and events of the gaffer, the supply, storage mode and the link (chapters 19, 23 and
26). -/

namespace Sys2Proof.Machine

/-- Every leg group is DISABLED (Table 23.3). -/
def State.allDisabled (s : State) : Bool := (List.range 16).all (fun g => (s.grp g).st == .disabled)

/-- DOMAIN_RESET is refused for target x (Table 23.3, R562). -/
def State.domRefused (s : State) (x : Nat) : Bool :=
  x == 3 || (x == 0 && !(s.allDisabled && s.ppm.path == .opn)) || ((x == 1 || x == 2) && !s.allDisabled)
  || (s.domSt x == .off && (x != dApp || s.secu.dead.contains 0))

/-- DOMAIN_RESET (R562, R563). -/
def execDomainReset (d : Desc) (s : State) : Out :=
  hostRun 0x0E00 d s (fun s =>
    let x := d.target
    if s.domRefused x then s.refuse d
    else if (x == dImpl && s.implHeld) || (x == dConv && s.convHeld) then s.complete d .busy 0
    else if s.domSt x == .off then
      let s := s.setGaf { s.gaf with resets := s.gaf.resets ++ [(x, d.sq, d.t)] }
      (s.powerNotice x true).appPower 0
    else
      let ds := if x = dShl || x = dSfp then [dShl, dSfp] else [x]
      let s := ds.foldl (fun s e => (s.powerNotice e true).domEvent e 1 (if x = 0 then 3 else if x ≤ 2 then 5 else 6)) s
      if s.tbu.running then s.await 0x0E00 d (.domReset x) else s.domResetBoundary x d.sq d.t)

/-- CORE_MODE: a faster mode always, a slower one under R179 and R274; BUSY while a change is in progress
(R566). -/
def execCoreMode (d : Desc) (s : State) : Out :=
  hostRun 0x0E01 d s (fun s =>
    let m := coreOf (d.par 0)
    if s.gaf.changing.isSome then s.complete d .busy 0
    else
      let (s, fits) := if m.code ≤ s.gaf.coreNow.code then (s, true) else s.lanesAdmit m
      if fits && (m.code ≤ s.gaf.coreNow.code || s.sxeFits m) then
        s.setGaf { s.gaf with changing := some (m, d.sq, d.t) }
      else s.refuse d)

/-- CORE_MODE_CHANGE_DONE: the change completes, with EV248 and its completion (R566). -/
def execCoreModeChangeDone (t : Nat) (s : State) : Out :=
  run t s (fun s =>
    match s.gaf.changing with
    | none => s
    | some (m, sq, tick) =>
      let old := s.gaf.coreNow
      ((s.setGaf { s.gaf with coreNow := m, changing := none }).raise 248 [old.code, m.code]).decide sq tick .ok 0 s.now)

/-- DOMAIN_RUNNING (R557); of the set-up registers only the selects of PD_IMPL change. -/
def execDomainRunning (t d : Nat) (s : State) : Out :=
  runCfgIf t s (fun s => s.domMayRun d) (fun s => ((s.domUp d).keeping s).selsBack d)

/-- PARTITION_START: the runtime starts partition p, 0 P_TRAC to 5 P_COMM; a restart of TK1 is done (R488, R557). -/
def execPartitionStart (t p : Nat) (s : State) : Out :=
  runIf t s (fun s => s.up dApp && p < 6 && !s.secu.dead.contains (p + 1) && !s.gaf.partUp.contains p) (fun s =>
    let g := s.gaf
    let s := s.setGaf { g with
      partUp := insN g.partUp p, restarting := g.restarting.filter (· != p)
      kick := if g.kick.isEmpty then [(0, s.now), (1, s.now), (2, s.now), (3, s.now)] else g.kick }
    let hs := (s.hif.takes.filter (fun (x : Nat × Take) => x.2.busy && x.2.no == 1 && x.2.committed && x.2.p 0 == p)).map (·.1)
    let s := hs.foldl (fun s h => if (s.take h).todo.isEmpty then s else s.takePop h 0 []) s
    if p = 5 then (List.range 6).foldl (fun s k => s.isoStart k) s else s)

/-- BOOT_DONE: start-up is complete; the boot ROM's results are reported (R541, R542, R564). -/
def execBootDone (t : Nat) (s : State) : Out :=
  runIf t s (fun s => !s.gaf.bootDone && !s.secu.dead.contains 0
      && (List.range 8).all (fun d => s.domSt d == .running || (d == dApp && s.domSt d == .off))) (fun s =>
    let kept := s.secu.kept
    let s := (s.setGaf { s.gaf with bootDone := true }).setSecu { s.secu with kept := [] }
    kept.foldl (fun s x => s.raise x.1 x.2) s)

/-- POWER_ON: the supply has risen through 9.0 V; bad lists the banks the boot ROM finds bad, as slot × 2 + bank
and cause (Table 23.2, R542). -/
def execPowerOn (_t : Nat) (bad : List (Nat × Nat)) (s : State) : Out := .next (s.powerOn bad)

/-- SUPPLY_LOW: below 10.0 V for 1 ms; v is the voltage (R560). -/
def execSupplyLow (t v : Nat) (s : State) : Out :=
  runIf t s (fun s => s.supply.lowArmed) (fun s =>
    { s with supply := { s.supply with lowArmed := false } }.raise 254 [v])

/-- SUPPLY_RECOVERED: at 10.5 V or above for 1 s (R560). -/
def execSupplyRecovered (t : Nat) (s : State) : Out :=
  run t s (fun s => { s with supply := { s.supply with lowArmed := true } })

/-- SUPPLY_BELOW_9V: the contactor outputs open; nothing is promised until the next power-on (R14, R343, R560). -/
def execSupplyBelow9v (t : Nat) (s : State) : Out :=
  run t s (fun s => { s.contactorsOpen with supply := { s.supply with ok := false } })

/-- APP_WATCHDOG: application core misses its interval and PD_APP is reset (R559). -/
def execAppWatchdog (t core : Nat) (s : State) : Out :=
  runIf t s (fun s => s.up dApp && s.gaf.kick.any (fun x => x.1 == core && x.2 + s.fld 0x0400 15 0 * ticksPerMs ≤ s.now)) (fun s =>
    ((s.domEvent dApp 1 9).domReset dApp).gafRecord 9 0x10 0 dApp)

/-- APP_WATCHDOG_KICK: application core signals the gaffer (R559). -/
def execAppWatchdogKick (t core : Nat) (s : State) : Out :=
  runIf t s (fun s => s.up dApp && core < 4) (fun s => s.setGaf { s.gaf with kick := put s.gaf.kick core s.now })

/-- SVC_FULL_RESET: 2 s after a long press (R367, Table 14.6). -/
def execSvcFullReset (t : Nat) (bad : List (Nat × Nat)) (s : State) : Out :=
  runCfgIf t s (fun s => match s.aon.resetAt with
                         | some x => x ≤ s.now
                         | none => false) (fun s => s.fullReset 1 0 bad)

/-- STORAGE_ENTER: 1 s after EV185 the gaffer removes every domain but PD_AON (R368, R567). -/
def execStorageEnter (t : Nat) (s : State) : Out :=
  runCfgIf t s (fun s => match s.aon.storeAt with
                         | some x => x ≤ s.now
                         | none => false) (fun s => s.storageEnter)

/-- A wake can come from its cause: a CAN wake only from a controller enabled for wake (R369, R524). -/
def State.wakes (s : State) : WakeCause → Bool
  | .can k => s.aon.wakeCans.contains k
  | _ => true

/-- STORAGE_WAKE by the button, CAN or the arrival of CHG_PX_AC (R369, R524, R567). -/
def execStorageWake (t : Nat) (cause : WakeCause) (bad : List (Nat × Nat)) (s : State) : Out :=
  runCfgIf t s (fun s => s.gaf.storage && s.wakes cause) (fun s =>
    { s with aon := { s.aon with woken := some cause } }.fullReset 4 cause.code bad)

/-- CAUSE_TS_LO_READ: a read of GAF_CAUSE_TS_LO captures the high half (Table 23.5). -/
def execCauseTsLoRead (t : Nat) (s : State) : Out :=
  run t s (fun s =>
    { s.setGaf { s.gaf with causeHi := s.gaf.causeTick / 2 ^ 32 % 2 ^ 32 } with readout := s.gaf.causeTick % 2 ^ 32 })

/-! ### The link (R455, R456) -/

/-- What the endpoint offers the host's PCIe hierarchy: the identity, the windows and the link forms (R455,
Table 19.1).  Sizes are in bytes; a rate is the number of its PCIe generation, 4 for 16 GT/s. -/
structure Endpoint where
  functions : Nat
  deviceId : Nat
  classCode : Nat
  bar0 : Nat
  bar2 : Nat
  msix : Nat
  msixTable : Nat
  msixPending : Nat
  widths : List Nat
  maxRate : Nat
  payloads : List Nat
  readRequests : List Nat
  aspmL1 : Bool
  aspmL0s : Bool
  aer : Bool
  flr : Bool
  deriving DecidableEq, Repr

/-- The endpoint of the AZ9160 (R455, Table 19.1).  The numbering of the rates is PRESUMED
(notes/assumptions/57.md). -/
def endpoint : Endpoint where
  functions := 1
  deviceId := 0x9160
  classCode := 0x118000
  bar0 := 65536
  bar2 := 16384
  msix := 64
  msixTable := 0x3000
  msixPending := 0x3800
  widths := [1, 2, 4]
  maxRate := 4
  payloads := [128, 256, 512]
  readRequests := [128, 256, 512, 1024, 2048, 4096]
  aspmL1 := true
  aspmL0s := false
  aer := true
  flr := true

/-- A width and a rate in which the link can come up (R455). -/
def Endpoint.links (e : Endpoint) (width rate : Nat) : Bool :=
  e.widths.contains width && Nat.ble 1 rate && Nat.ble rate e.maxRate

/-- FUNCTION_LEVEL_RESET (R456). -/
def execFunctionLevelReset (t : Nat) (s : State) : Out :=
  runCfgIf t s (fun s => s.up dHost && s.hif.link && endpoint.flr) (fun s => (s.domEvent dHost 1 7).hostResetNow 7)

/-- The link goes down: PD_HOST is reset (R456, R489). -/
def State.linkLost (s : State) : State :=
  let s := (s.raise 237 [0, 0, 0]).domEvent dHost 1 8
  { s with hif := { s.hif with link := false } }.hostResetNow 8

/-- LINK_DOWN (R456). -/
def execLinkDown (t : Nat) (s : State) : Out := runCfgIf t s (fun s => s.up dHost && s.hif.link) (fun s => s.linkLost)

/-- LINK_UP at a width and a rate, while PERST_N on bank A is not held low (R455, R564, R589). -/
def execLinkUp (t width rate : Nat) (s : State) : Out :=
  runIf t s (fun s => s.up dHost && !s.hif.link && !s.gaf.vioHeld.contains 0 && endpoint.links width rate) (fun s =>
    { s with hif := { s.hif with link := true } }.raise 237 [1, width, rate])

/-- VIO_BANK_HELD: bank x, 0 A to 3 D; PERST_N of bank A reads low, so the link is held down (R589). -/
def execVioBankHeld (t x : Nat) (s : State) : Out :=
  runCfgIf t s (fun _ => x < 4) (fun s =>
    let s := s.setGaf { s.gaf with vioHeld := insN s.gaf.vioHeld x }
    if x = 0 && s.up dHost && s.hif.link then s.linkLost else s)

/-- VIO_BANK_RELEASED (R589). -/
def execVioBankReleased (t x : Nat) (s : State) : Out :=
  run t s (fun s => s.setGaf { s.gaf with vioHeld := s.gaf.vioHeld.filter (· != x) })

end Sys2Proof.Machine
end

