-- ==== Sys2Proof/Machine/Mbx.lean ====
section
/-! DEFINITION. The mailbox commands and events (chapter 20). -/

namespace Sys2Proof.Machine

/-- The domain of the receiver of channel c runs, or is in reset: it takes a post (R495). -/
def State.mbxTakes (s : State) (c : Nat) : Bool :=
  match masterDom (s.mbxRcv c) with
  | some dom => s.domSt dom != .off
  | none => true

/-- A post wakes the receiver's domain (R501). -/
def State.mbxWakes (s : State) (c : Nat) : State :=
  match masterDom (s.mbxRcv c) with
  | some dom =>
    if s.domSt dom == .off && s.mbxWake c && !s.secu.dead.contains 0 then
      let s := s.raise 205 [c, dom]
      let s := s.setMbx c { s.mbxCh c with waking := true }
      (s.powerNotice dom true).appPower 4
    else s
  | none => s

/-- MBX_POST: accepted, its completion waits for the message's final status (R495 to R501). -/
def execMbxPost (d : Desc) (s : State) : Out :=
  hostRun 0x0B00 d s (fun s =>
    let c := d.target
    if !s.mbxEn c || s.mbxSnd c != 0 || (!s.mbxTakes c && !s.mbxWake c) then s.refuse d
    else
      let s := s.mbxTimeOut c
      if (s.mbxCh c).slot == .pending then s.complete d .busy 0
      else
        let us := if d.par 3 = 0 then s.mbxTo c else d.par 3
        (s.mbxPut c (d.par 0 + 2 ^ 32 * d.par 1) (d.par 2) us (some (d.sq, d.t))).mbxWakes c)

/-- MBX_ACK: the host consumes a message for ID0; result 1 when it was late (R497, R500). -/
def execMbxAck (d : Desc) (s : State) : Out :=
  hostRun 0x0B01 d s (fun s =>
    let c := d.target
    if !s.mbxEn c || s.mbxRcv c != 0 || (s.mbxCh c).slot == .empty then s.refuse d
    else
      let (s, late) := s.mbxConsume c
      (s.complete d .ok (b2n late)).canNotices c)

/-- MBX_DEADLINE: the deadline of a PENDING message passes (R498 to R500). -/
def execMbxDeadline (t c : Nat) (s : State) : Out :=
  runIf t s (fun s => s.up dHost) (fun s => s.mbxTimeOut c)

/-- MBX_RECEIVER_ACK: an internal receiver consumes its message (R494, R500, Table 20.3). -/
def execMbxReceiverAck (t c : Nat) (s : State) : Out :=
  runIf t s (fun s => s.up dHost && s.mbxEn c && (match masterDom (s.mbxRcv c) with
                                                  | some dom => s.up dom
                                                  | none => false)) (fun s => (s.mbxConsume c).1)

/-- MBX_INTERNAL_POST: an internal master posts a message (R494, R497, R498). -/
def execMbxInternalPost (t c ptr tag : Nat) (s : State) : Out :=
  runIf t s (fun s => match masterDom (s.mbxSnd c) with
                      | some dom => s.up dom
                      | none => false) (fun s => s.mbxNotice c (ptr % 2 ^ 64) (tag % 2 ^ 32))

end Sys2Proof.Machine
end

