-- ==== Sys2Proof/Machine/Safe.lean ====
section
/-! DEFINITION. The commands and events of the safety channels and the Baronold layer (chapters 17 and 18). -/

namespace Sys2Proof.Machine

/-- EV29 with the channels' state and a cause (R427, R428). -/
def State.safeCfgEvent (s : State) (cause : Nat) : State := s.raise 29 [s.safeState, cause]

/-- SAFE_CFG_LOAD: a configuration that passes both channels' checks is written to the inactive bank and becomes
active at the next reset that includes PD_SHL and PD_SFP (R427, R428). -/
def execSafeCfgLoad (d : Desc) (s : State) : Out :=
  hostRun 0x0A00 d s (fun s =>
    if !(List.range 16).all (fun g => (s.grp g).st == .disabled) then s.refuse d
    else match s.safeImage d.data with
      | none => (s.refuse d).safeCfgEvent 255
      | some b =>
        match s.safeBad b.safe b.bsl with
        | some n => (s.refuse d).safeCfgEvent (n + 2)
        | none => (s.setSaf { s.saf with banks := put s.saf.banks (1 - s.saf.cur) b, loaded := true }).ok d)

/-- SAFE_CFG_CONFIRM: p0 and p1 are the first 8 bytes of the digest in force (R428, R429). -/
def execSafeCfgConfirm (d : Desc) (s : State) : Out :=
  hostRunR 0x0A01 d s (fun s =>
    match s.saf.cfg with
    | none => s.refuse d
    | some b =>
      if leNat ((dig64 b.dig).take 8) = d.par 0 + 2 ^ 32 * d.par 1 then
        let b := { b with confirmed := true }
        let s := s.setSaf { s.saf with cfg := some b, banks := put s.saf.banks s.saf.cur b }
        (((s.ok d).bslOpen.safeCfgEvent 0).chanUpdate 0).chanUpdate 1 |>.safeSync
      else s.refuse d)

/-- SAFE_INPUT_LINE_CHANGE: line A or B of input i changes its filtered state in channel ch (R410, R411, R413). -/
def execSafeInputLineChange (t ch i : Nat) (lineB level : Bool) (s : State) : Out :=
  runRIf t s (fun s => ch < 2 && i < 16 && s.chanUp ch) (fun s =>
    ((s.siLine ch i lineB level).chanUpdate ch).safeSync)

/-- SAFE_INPUT_DISCREPANCY: the lines have disagreed for disc (R411). -/
def execSafeInputDiscrepancy (t ch i : Nat) (s : State) : Out :=
  runRIf t s (fun s => ch < 2 && i < 16 && s.chanUp ch && s.siOverdue ch i) (fun s =>
    ((s.siDisagree ch i).chanUpdate ch).safeSync)

/-- TEST_PULSE: output TPk drops for tp_w; the lines, as i × 2 + b, that each channel sees low meanwhile (R412). -/
def execTestPulse (t k : Nat) (shlLow sfpLow : List Nat) (s : State) : Out :=
  runRIf t s (fun s => k < 4 && s.saf.cfg.isSome) (fun s =>
    let s := if s.up dShl then (s.tpJudge 0 k shlLow).chanUpdate 0 else s
    let s := if s.chanUp 1 then (s.tpJudge 1 k sfpLow).chanUpdate 1 else s
    s.safeSync)

/-- Both pins are high, having returned within 1,000 ms of each other (R39, R414). -/
def State.reqBack (s : State) : Bool :=
  let a := s.saf.reqHi.getD 0 0
  let b := s.saf.reqHi.getD 1 0
  !s.saf.shl.pin && !s.saf.sfp.pin && max a b < min a b + 1000 * ticksPerMs

/-- STO_REQ_CHANGE: pin 0 STO_REQ_A at SHL, pin 1 STO_REQ_B at SFP (R414). -/
def execStoReqChange (t pin : Nat) (low : Bool) (s : State) : Out :=
  runRIf t s (fun s => pin < 2 && s.chanUp pin) (fun s =>
    let s := s.setSafeCh pin { s.safeCh pin with pin := low }
    let v := s.saf
    let hi := v.reqHi
    let differ := v.shl.pin != v.sfp.pin
    let s := s.setSaf { v with
      reqHi := if low then hi else if pin = 0 then [s.now, hi.getD 1 0] else [hi.getD 0 0, s.now]
      reqDis := if differ then (if v.reqDis.isSome then v.reqDis else some s.now) else none }
    let s := s.setSaf { s.saf with reqLatch := s.saf.reqLatch && !s.reqBack }
    ((s.chanUpdate 0).chanUpdate 1).safeSync)

/-- STO_REQ_DISC: one pin has been low while the other is high for 1,000 ms (R414); sto_req_mask 0 disables the
pins. -/
def execStoReqDisc (t pin : Nat) (s : State) : Out :=
  runRIf t s (fun s => pin < 2 && s.reqMask != 0 && (s.safeCh pin).pin && !s.saf.reqLatch &&
      (match s.saf.reqDis with
       | some x => x + 1000 * ticksPerMs ≤ s.now
       | none => false)) (fun s =>
    let s := (s.setSaf { s.saf with reqLatch := true }).raise 28 [pin]
    ((s.chanUpdate 0).chanUpdate 1).safeSync)

/-- SHL_SUPPLY_OPEN: the supply-enable lines of STO group k open 3 µs after the demand (R406). -/
def execShlSupplyOpen (t k : Nat) (s : State) : Out :=
  runIf t s (fun s => k < 6 && s.up dShl && (match s.saf.openAt.find? (fun x => x.1 == k) with
                                             | some x => x.2 ≤ s.now
                                             | none => false)) (fun s => s.linesOpen k)

/-- SUPPLY_READBACK: SHL reads the high-side rails of STO group k 305 µs after opening (R422, Table 17.3). -/
def execSupplyReadback (t k : Nat) (ok : Bool) (s : State) : Out :=
  runRIf t s (fun s => k < 6 && s.up dShl && (match s.saf.readAt.find? (fun x => x.1 == k) with
                                              | some x => x.2 ≤ s.now
                                              | none => false)) (fun s =>
    let s := s.setSaf { s.saf with readAt := del s.saf.readAt k }
    if ok then s else (s.safeFault 0 4 30 4).safeSync)

/-- SFP_CYCLE: one cycle of the safety processor; diag is the row of Table 17.3 that fails in it, 5 MOD
readback, 7 oscillator, 8 processor (R30, R421, R422). -/
def execSfpCycle (t diag : Nat) (s : State) : Out :=
  runRIf t s (fun s => s.chanUp 1 && s.saf.next ≤ s.actTick) (fun s => s.sfpCycle diag)

/-- CONTINUITY_TIMEOUT: channel ch has had no state word for 2 × t_cyc (R421). -/
def execContinuityTimeout (t ch : Nat) (s : State) : Out :=
  runRIf t s (fun s => ch < 2 && s.chanUp ch && s.wordLate ch) (fun s => (s.safeFault ch 1 25 4).safeSync)

/-- SHL_SS1_WINDOW: the tap window of group g closes; a running SS1 is judged (R418, R419). -/
def execShlSs1Window (t g : Nat) (s : State) : Out :=
  runRIf t s (fun s => g < 4 && s.up dShl && s.saf.cfg.isSome && s.tgTap g != 255 && (s.tap g).next ≤ s.now) (fun s =>
    let x := s.tap g
    let s := s.setTap g { x with last := x.cnt, cnt := 0, next := x.next + s.tgW g }
    if (s.ss1 0 g).st = 1 && (s.ss1 0 g).start ≤ x.next then (s.shlJudge g x.cnt x.next).safeSync else s)

/-- SS1_DEADLINE: SS1 of group g reaches t_max in channel ch (R419). -/
def execSs1Deadline (t ch g : Nat) (s : State) : Out :=
  runRIf t s (fun s => ch < 2 && g < 4 && s.chanUp ch && (s.ss1 ch g).st == 1
      && (s.ss1 ch g).start + s.tgTmax g ≤ s.now) (fun s =>
    (s.ss1End ch g 3).safeSync)

/-- SHL_SELF_TEST_DONE: the SHL logic self-test passes, or refuses the start (R430, Table 17.3). -/
def execShlSelfTestDone (t : Nat) (ok : Bool) (s : State) : Out :=
  runRIf t s (fun s => s.up dShl) (fun s =>
    if ok then ((s.setSafeCh 0 { s.safeCh 0 with tested := true }).chanUpdate 0).safeSync
    else (s.safeFault 0 9 30 9).safeSync)

/-- An SFP cycle starts at this tick: it is due, or it has just run. -/
def State.atCycle (s : State) : Bool := s.saf.next ≤ s.actTick || (s.saf.cycles != 0 && s.saf.cycAt == s.now)

/-- BSL_WATCHDOG: in a cycle that is due, after the frames of connection c, its watchdog deadline has passed (R445); the
cycle's own SFP_CYCLE finds the connection judged. -/
def execBslWatchdog (t c : Nat) (s : State) : Out :=
  runRIf t s (fun s => c < 32 && s.chanUp 1 && s.safeLive && !s.saf.sfp.fault && s.cnEn c && s.saf.next ≤ s.actTick) (fun s =>
    ((s.bslConn c).chanUpdate 1).safeSync)

/-- BSL_DATA_SEND: OUT connection c queues a DATA frame in the first SFP cycle at or after each t_prod (R449). -/
def execBslDataSend (t c : Nat) (s : State) : Out :=
  runIf t s (fun s => c < 32 && s.chanUp 1 && s.safeLive && s.cnEn c && s.cnOut c && (s.conn c).st != .closed
      && (s.conn c).next ≤ s.now && s.atCycle) (fun s => s.outSend c)

/-- SHL_TAP_EDGE: a rising edge of line A of channel PFIi reaches SHL (R158). -/
def execShlTapEdge (t i : Nat) (s : State) : Out :=
  runIf t s (fun s => s.up dShl && s.saf.cfg.isSome && !(s.pfiMode i == 4 || s.pfiMode i == 5)) (fun s =>
    [0, 1, 2, 3].foldl (fun s g =>
      if s.tgTap g = i then s.setTap g { s.tap g with cnt := satInc 65535 (s.tap g).cnt } else s) s)

end Sys2Proof.Machine
end

