-- ==== Sys2Proof/Machine/Secure.lean ====
section
/-! DEFINITION. The commands and events of the memories, the keys and the lifecycle (chapter 22). -/

namespace Sys2Proof.Machine

/-! ### Memories (R530 to R538, Table 22.2) -/

/-- The next record of the EVQ or the DLY is dropped and counted (R461, Table 22.2). -/
def State.recordLost (s : State) (r : Nat) : State :=
  let g := s.ring r
  if g.st == .active then s.setRing r { g with seq := (g.seq + 1) % 2 ^ 32, lost := g.lost + 1 } else s

/-- The reaction to an uncorrectable read of memory m for object obj, counted from 1: a partition, a take handle
or 17 the EVQ and 18 the DLY, a context, a section; 0 is a read of the scrub (Table 22.2). -/
def State.eccReact (s : State) (m obj : Nat) : State :=
  if m = 2 || m = 3 then s.safeFault 1 8 30 8
  else if obj = 0 then s
  else
    let n := obj - 1
    match m with
    | 0 => if n < 6 && s.gaf.partUp.contains n then s.partRestart n else s
    | 1 =>
      if n < 16 then (if (s.take n).open? then s.takeFail n else s)
      else if n = 16 then s.recordLost evq else if n = 17 then s.recordLost dly else s
    | 4 | 5 =>
      if n < 192 then
        match (s.ctx n).run with
        | some r => s.setCtx n { s.ctx n with run := some { r with abandoned := true, done := none } }
        | none => s
      else s
    | 6 => if n < 160 then s.setSec n { s.sec n with lost := true } else s
    | _ => s

/-- A codeword of memory m is read, or scrubbed when obj is 0, and syms of its symbols are in error: up to two are
corrected, more make it uncorrectable, and it stays so until it is written whole, which is what syms = 0 on such a
codeword stands for (R530 to R534, Table 22.2). -/
def State.eccRead (s : State) (m cw syms obj : Nat) : State :=
  let x := s.eccMem m
  if x.poison.contains cw then
    if syms = 0 then s.setEccMem m { x with poison := x.poison.filter (· != cw) } else s.eccReact m obj
  else if syms = 0 then s
  else if syms ≤ 2 then s.eccCorrect m cw
  else (s.eccBroken m cw (if obj = 0 && m != 2 && m != 3 then 0 else m + 1)).eccReact m obj

/-- MEM_SCRUB (R530 to R534). -/
def execMemScrub (t m cw syms obj : Nat) (s : State) : Out :=
  runRIf t s (fun s => m < 7 && s.up (memRow m).2.2 && cw < (memRow m).1 * regionCws) (fun s =>
    if m = 2 || m = 3 then (s.eccRead m cw syms obj).safeSync else s.eccRead m cw syms obj)

/-- MEM_RETIRED: the copy to a spare is complete (R536, R538). -/
def execMemRetired (t m region : Nat) (s : State) : Out :=
  runIf t s (fun s => s.up (memRow m).2.2 && (s.eccMem m).copying.contains region) (fun s =>
    let x := s.eccMem m
    let s := s.setEccMem m { x with copying := x.copying.filter (· != region), retired := insN x.retired region }
    let s := s.raise 241 [m, region, s.sparesLeft m]
    if s.memWorn m then s.advise 0 m else s)

/-! ### Lifecycle (R546 to R550) -/

/-- LIFECYCLE_SET (R547): an accepted change awaits LIFECYCLE_COMMIT; another one meanwhile is REFUSED (DEDUCED,
notes/assumptions/44.md). -/
def execLifecycleSet (d : Desc) (s : State) : Out :=
  hostRun 0x0D00 d s (fun s =>
    let new := d.par 0
    if s.authState d.data == some new && s.lcStep new && (List.range 16).all (fun g => (s.grp g).st == .disabled)
       && s.ppm.path == .opn && s.secu.lcNext.isNone then
      let s := s.ok d
      (s.setSecu { s.secu with lcNext := some (new, s.now) }).raise 244 [s.secu.lc, new]
    else s.refuse d)

/-- LIFECYCLE_COMMIT: the new state is written and the AZ9160 performs a full system reset (R547, R548). -/
def execLifecycleCommit (t : Nat) (bad : List (Nat × Nat)) (s : State) : Out :=
  runCfg t s (fun s =>
    match s.secu.lcNext with
    | some (new, _) => (s.lcEnter new).fullReset 2 0 bad
    | none => s)

/-- DEBUG_ACCESS: an authorisation presented at the debug port (R550, Table 22.8). -/
def execDebugAccess (t : Nat) (auth : List Nat) (s : State) : Out :=
  runRIf t s (fun s => s.up dCtrl && s.authState auth == some s.secu.lc) (fun s =>
    let s := (s.setSecu { s.secu with dbg := true }).raise 245 [s.secu.lc]
    if s.secu.lc = 3 || s.secu.lc = 4 then
      (((s.setSaf { s.saf with dbg := true }).chanUpdate 0).chanUpdate 1).safeSync
    else s)

/-! ### Owner keys (R549, Table 22.10) -/

/-- The digest in SEC_KEY_D0 to SEC_KEY_D15. -/
def State.keyDigest (s : State) : List Nat := ((List.range 16).map (fun j => leBytes 4 (s.reg (0x6840 + 4 * j)))).flatten

/-- A write of prog = 1 to SEC_KEY_CTL (R549, R582). -/
def State.keyProgram (s : State) : State :=
  if !s.up dCtrl then s
  else if s.lock.locked then s.raise 251 [0x6834]
  else if s.secu.keyBusy.isSome || s.fld 0x6830 2 0 < 4 then s
  else s.setSecu { s.secu with keyBusy := some (s.fld 0x6830 2 0, s.keyDigest), keyResult := 0 }

/-- OWNER_KEY_PROGRAM. -/
def execOwnerKeyProgram (t : Nat) (s : State) : Out := run t s (fun s => s.keyProgram)

/-- OWNER_KEY_PROGRAM_DONE: the result, 1 OK, 2 USED, 3 STATE (R549). -/
def execOwnerKeyProgramDone (t : Nat) (s : State) : Out :=
  runIf t s (fun s => s.up dCtrl) (fun s =>
    let v := s.secu
    match v.keyBusy with
    | none => s
    | some (slot, dig) =>
      if v.lc ≠ 2 then s.setSecu { v with keyBusy := none, keyResult := 3 }
      else if v.keys.any (fun k => k.1 == slot) then s.setSecu { v with keyBusy := none, keyResult := 2 }
      else s.setSecu { v with keyBusy := none, keyResult := 1, keys := put v.keys slot dig })

/-! ### REPLACE_ADVISED (R552) -/

/-- The status frame of R552 for controller k; the identifier bits 28:26 are left open. -/
def State.rplFrame (s : State) (k : Nat) : State :=
  let (p, s) := s.freeNat
  let c := s.can k
  let id := 2 ^ 31 + p % 8 * 2 ^ 26 + s.fld 0x6820 25 8 * 256 + c.sa
  let f : CanFrame := { id := id, data := [s.rplMask, s.secu.lc] ++ leBytes 2 s.rplLast ++ leBytes 4 (s.now / ticksPerMs) }
  (s.setCan k { c with iso := c.iso ++ [f] }).setSecu { s.secu with rplNext := s.now + ticksPerS }

/-- RPL_STATUS_FRAME: once per second while REPLACE_ADVISED is set (R552). -/
def execRplStatusFrame (t : Nat) (s : State) : Out :=
  let k := s.fld 0x6820 30 28
  runIf t s (fun s => s.lock.done && s.up dApp && s.up dCtrl && s.gaf.partUp.contains 5 && !s.rpl.isEmpty && s.rb 0x6820 31
                      && k < 6 && s.isobus k && (s.can k).onBus && (s.can k).sa ≤ 253 && s.secu.rplNext ≤ s.now)
    (fun s => s.rplFrame k)

/-- The check of SEC_RPL and SEC_KEY_SEL at lock (Tables 22.9, 22.10). -/
def State.secLockBad (s : State) : Bool := 6 ≤ s.fld 0x6820 30 28 || s.fld 0x6830 2 0 < 4

end Sys2Proof.Machine
end

