-- ==== Sys2Proof/Machine/Setup.lean ====
section
/-! DEFINITION. Set-up: BAR0 writes and reads, and the configuration lock (chapter 25). -/

namespace Sys2Proof.Machine

/-! ### CONFIG_LOCK (R578) -/

/-- The window selects of PD_IMPL (R246, R293, R310). -/
def implSels : List Nat := [0x3F00, 0x4090, 0x42A0]

/-- An accepted lock at its tick: the configuration is frozen (R503, R578). -/
def State.lockNow (s : State) : State :=
  { s with lock := { s.lock with locked := true, tick := s.now, sels := implSels.map (fun k => (k, s.reg k)) }
           evr := { s.evr with atLock := s.evr.cnt } }

/-- The result field of GLB_LOCK (Table 25.4). -/
def State.lockResult (s : State) (r : Nat) : State := { s with lock := { s.lock with result := r } }

/-- A write of GLB_LOCK (R578, R582); a byte that is not enabled brings 0. -/
def State.lockWrite (s : State) (val be : Nat) : State :=
  let w := val &&& beMask be
  if s.lock.locked then (if beMask be &&& 0x80FF0000 = 0 then s else s.raise 251 [0x20])
  else if !bitAt w 31 then s
  else if bits w 23 16 ≠ 0xA5 then s.lockResult 3
  else if s.gaf.bootDone && !s.lpe.imgBusy && s.secu.keyBusy.isNone then s.lockNow
  else s.lockResult 2

/-- CONFIG_LOCK: a write of GLB_LOCK. -/
def execConfigLock (t val be : Nat) (s : State) : Out := runCfg t s (fun s => s.lockWrite val be)

/-! ### BAR0 writes (R574 to R576, R582) -/

/-- Key of LPE_BIND_VAL of an output slot, whose bits 31:16 are reserved (Table 7.4). -/
def outValKey (k : Nat) : Bool := 0x20000 ≤ k && k % 0x10 == 8 && 16 ≤ (k - 0x20000) / 0x10 % 32

/-- Put the bits of mask in the register with key k, in the loop engine's windows or in the register file. -/
def State.regStore (s : State) (k mask val : Nat) : State :=
  if (0x10000 ≤ k && k < 0x11000) || 0x20000 ≤ k then
    s.setLw k (mergeBits (if outValKey k then mask &&& 0xFFFF else mask) (s.lw k) val)
  else s.setReg k (mergeBits mask (s.reg k) val)

/-- Shadow sets of MOD follow their registers while these can be written (R57, R76). -/
def State.shadowLoad (s : State) (off : Nat) : State :=
  if 0x1000 ≤ off && off < 0x2100 then s.legLoad ((off - 0x1000) / 0x40)
  else if 0x2200 ≤ off && off < 0x2500 then s.valveLoad ((off - 0x2200) / 0x10)
  else s

/-- A write to RWL or WO fields: frozen after lock, else stored or acted on (R6, R34, R212, R549, R582). -/
def State.setupWrite (s : State) (off mask val : Nat) (r : RegRow) : State :=
  if s.lock.locked then s.raise 251 [off]
  else if (off == 0x80C || off == 0x810 || off == 0x814) && s.tbu.running then s.raise 228 [off]
  else if off = 0x385C then (if bitAt (val &&& mask) 31 then s.imgGo else s)
  else if off = 0x6834 then (if bitAt (val &&& mask) 31 then s.keyProgram else s)
  else (s.regStore (s.key off) (mask &&& r.rwl) val).shadowLoad off

/-- A write to a register of the map: W1C and RW fields first, then what the lock freezes (R574, R582). -/
def State.mapWrite (s : State) (off val be : Nat) (r : RegRow) : State :=
  let m := beMask be
  let s := if m &&& r.w1c = 0 then s else s.w1cClear off (val &&& m &&& r.w1c)
  let s := if m &&& r.rw = 0 then s else s.regStore (s.key off) (m &&& r.rw) val
  if m &&& (r.rwl ||| r.wo) = 0 then s else s.setupWrite off m val r

/-- A BAR0 write; an offset without a register and a block whose domain is down ignore it (R575, R576). -/
def State.regWrite (s : State) (off val be : Nat) : State :=
  if off % 4 != 0 || !s.shows off then s
  else if off = 0x20 then s.lockWrite val be
  else if off = 0x808 then s.writeClapCfg val be
  else if 0x3784 ≤ off && off < 0x3800 && off % 8 == 4 then
    (if beMask be = 0 then s else s.cmpValWrite ((off - 0x3784) / 8) val be)
  else if 0x7800 ≤ off && off ≤ 0x7810 then s.admWrite off val be
  else match regRow? (s.key off) with
    | some r => s.mapWrite off val be r
    | none => s

/-- REGISTER_WRITE. -/
def execRegisterWrite (t off val be : Nat) (s : State) : Out := runCfg t s (fun s => s.regWrite off val be)

/-! ### BAR0 reads (R574) -/

/-- READ_AND_CLEAR: the read answers with the value and clears the RC fields (Table 0.4). -/
def execReadAndClear (t off : Nat) (s : State) : Out :=
  run t s (fun s =>
    let s := { s with readout := s.bar0 off }
    if off % 4 = 0 && s.shows off then s.rcClear off else s)

/-- LOCK_TS_LO_READ: bits 63:32 of the lock tick are captured (Table 25.4). -/
def execLockTsLoRead (t : Nat) (s : State) : Out :=
  runCfg t s (fun s =>
    { s with readout := s.lock.tick % 2 ^ 32, lock := { s.lock with tsHi := s.lock.tick / 2 ^ 32 % 2 ^ 32 } })

/-! ### The lock sequence (R579 to R581) -/

/-- GAF_CFG is legal (Table 23.5). -/
def State.gafCfgOk (s : State) : Bool := s.fld 0x400 28 27 ≠ 3 && 10 ≤ s.fld 0x400 15 0 && s.fld 0x400 15 0 ≤ 1000

/-- The core mode that the lock brings (R565, Table 23.5). -/
def State.lockMode (s : State) : CoreMode := if s.gafCfgOk then coreOf (s.fld 0x400 28 27) else .perf

/-- Item 0: the clapper's fields, when the lock is to start it (Table 2.2, R33). -/
def State.tbuLockCheck (s : State) : State × Bool :=
  if s.tbu.running then (s, false)
  else match s.clapBad with
    | some r => (s.raise 228 [r], true)
    | none => (s, false)

/-- Item 16 (Table 23.5). -/
def State.gafLockCheck (s : State) : State × Bool := if s.gafCfgOk then (s, false) else (s.raise 249 [6, 0, 0], true)

/-- LOCK_CHECKS: the items of Table 25.5 in order, with the number of each. -/
def lockItems : List (Nat × (State → State × Bool)) := [
  (0, fun s => s.tbuLockCheck),
  (1, fun s => s.legLockCheck),
  (1, fun s => s.valveLockCheck),
  (2, fun s => s.trmLockCheck),
  (3, fun s => s.gdvLockCheck),
  (4, fun s => s.fbLockCheck),
  (5, fun s => s.ctxLockCheck s.lockMode),
  (5, fun s => s.pgnLockCheck),
  (6, fun s => s.cmuLockCheck),
  (7, fun s => s.gbxLockCheck (s.sfpSlots ++ s.ppmSlots ++ s.dclSlots)),
  (8, fun s => s.sxeLockCheck s.lockMode),
  (9, fun s => s.railLockCheck),
  (10, fun s => s.ppmLockCheck s.sfpSlots),
  (11, fun s => s.dclLockCheck s.sfpSlots),
  (12, fun s => s.thmLockCheck),
  (13, fun s => s.canLockCheck),
  (14, fun s => s.mbxLockCheck),
  (15, fun s => s.hifLockCheck),
  (16, fun s => s.gafLockCheck),
  (17, fun s => (s, s.secLockBad)),
  (18, fun s => s.vlvLockCheck)]

/-- Run lock checks in turn; the second answer is the fail mask (R580). -/
def State.lockChecks (s : State) (items : List (Nat × (State → State × Bool))) : State × Nat :=
  items.foldl (fun x c => ((c.2 x.1).1, if (c.2 x.1).2 then x.2 ||| 2 ^ c.1 else x.2)) (s, 0)

/-- GAF's part of the lock: domains whose en is 0 go down in descending order, and the core mode changes (R565). -/
def State.lockPower (s : State) : State :=
  let down := [(7, 30), (6, 31), (4, 29)].filter (fun x => !s.rb 0x400 x.2)
  let s := down.foldl (fun s x => s.domDown x.1) s
  let m := s.lockMode
  let old := s.gaf.coreNow
  if m == old then s else (s.setGaf { s.gaf with coreNow := m }).raise 248 [old.code, m.code]

/-- The lock's completion at tick C: the clapper starts, unless it runs already, and with it the blocks (R28, R579,
R581). -/
def State.lockStart (s : State) : State :=
  if s.tbu.running then s.setTbu { s.tbu with due := true }
  else if s.clapBad.isNone then s.clapStart.blocksStart s.now
  else s

/-- The lock fixes who writes the compare values of the BK legs (R45). -/
def State.lockWriters (s : State) : State :=
  { s with mod := { s.mod with lpeBk := [12, 13].filter s.lpeOwnsCmp } }

/-- LOCK_COMPLETE (R45, R579); of the configuration itself only what GLB_LOCK and its fail mask show changes. -/
def execLockComplete (t : Nat) (s : State) : Out :=
  runCfgIf t s (fun s => s.lock.locked && !s.lock.done) (fun s0 =>
    let (s, fail) := s0.lockChecks lockItems
    let s := if s.gafCfgOk then s.lockWriters.lockPower else s.lockWriters
    let lk := { s0.lock with done := true, result := 1, fail := fail }
    let s := { s with lock := lk }
    { ((s.lockStart.raise 252 (fail :: words64 lk.tick)).react s0).keeping s0 with lock := lk })

end Sys2Proof.Machine
end

