-- ==== Sys2Proof/Machine/Takes.lean ====
section
/-! DEFINITION. The take commands and events (chapter 19, R480 to R488). -/

namespace Sys2Proof.Machine

/-- The record of a take that a TAKE_START begins. -/
def takeOf (d : Desc) : Take :=
  { st := .running, no := d.target, cmdId := d.cmdId, sq := d.sq, resAddr := d.par 0 + 2 ^ 32 * d.par 1, resLen := d.par 2
    par := (List.range 4).map (fun i => d.par (4 + i)), input := d.data }

/-- TAKE_START begins under handle h: its groups enter TEST, and TK10 builds its slate (R480 to R482, R545). -/
def State.takeBegin (s : State) (h : Nat) (d : Desc) : State :=
  let k := takeOf d
  let ms := if d.par 3 = 0 then takeDefault k.no else d.par 3
  let k := { k with start := s.now, deadline := s.inMs ms, todo := s.takeUnits k
                    data := if k.no = 10 then s.slate glbRev s.now k.input else [] }
  let s := (s.takeGroups k).foldl (fun s g => s.setGrp g { s.grp g with st := .test }) s
  (s.setTake h k).takeProceed h

/-- TAKE_START (R480, Table 19.12); EV103 carries R191's cause when a swap image is refused. -/
def execTakeStart (d : Desc) (s : State) : Out :=
  hostRunR 0x0010 d s (fun s =>
    let k := takeOf d
    match s.takeHandle with
    | none => s.complete d .busy 0
    | some h =>
      if (s.takeHolds k).any (fun o => s.held.contains o) then s.complete d .busy 0
      else if !s.takeMay k then s.refuse d
      else
        let c := if k.no = 2 then s.swapRefusal k else 0
        if c != 0 then (s.refuse d).raise 103 [k.p 0, c]
        else (s.takeBegin h d).complete d .ok h)

/-- TAKE_SUSPEND: the take suspends at its next suspend point (R483, Table 19.11). -/
def execTakeSuspend (d : Desc) (s : State) : Out :=
  hostRun 0x0011 d s (fun s =>
    let k := s.take d.target
    if k.st == .running then
      s.setTake d.target { k with st := .suspending, waiting := some (d.sq, d.t), atPoint := false }
    else s.refuse d)

/-- TAKE_RESUME (R483, Table 19.11). -/
def execTakeResume (d : Desc) (s : State) : Out :=
  hostRunR 0x0012 d s (fun s =>
    let h := d.target
    let k := s.take h
    if k.st == .suspended then
      (((s.setTake h { k with st := .running }).raise 235 [h, k.no, 1]).ok d).takeProceed h
    else s.refuse d)

/-- TAKE_CANCEL: refused past the commit point or at the end; otherwise the cancel result begins (R483,
Tables 19.11 and 19.12). -/
def execTakeCancel (d : Desc) (s : State) : Out :=
  hostRunR 0x0013 d s (fun s =>
    let h := d.target
    let k := s.take h
    if !k.open? || k.todo.isEmpty then s.refuse d
    else
      let s := s.takeDoom h .cancelled 1
      s.setTake h { s.take h with waiting := some (d.sq, d.t) })

/-- TAKE_SUSPEND_POINT: a suspending take has come to a suspend point (R483, Table 19.11). -/
def execTakeSuspendPoint (t h : Nat) (s : State) : Out :=
  runIf t s (fun s => (s.take h).st == .suspending && (s.take h).atPoint) (fun s =>
    let k := s.take h
    let s := match k.waiting with
      | some (sq, id) => s.decide sq id .ok 0 s.now
      | none => s
    (s.setTake h { k with st := .suspended, waiting := none, atPoint := false }).raise 235 [h, k.no, 3])

/-- The take has come to its deadline without its commit point; what completes in the deadline's tick is late
(R39, R482). -/
def State.takeOverdue (s : State) (h : Nat) : Bool := (s.take h).open? && Nat.ble (s.take h).deadline s.now

/-- TAKE_STEP_DONE: the next unit of a take is done in time; bytes are what it has measured or read (R482,
Table 19.12). -/
def execTakeStepDone (t h : Nat) (bytes : List Nat) (ok : Bool) (s : State) : Out :=
  runCfgIf t s (fun s => ((s.take h).st == .running || ((s.take h).st == .suspending && !(s.take h).atPoint))
      && (s.take h).start ≤ s.now && !s.takeOverdue h) (fun s =>
    { ((s.takeStep h bytes ok).react s).keeping s with regs := (s.calibrated h bytes ok).regs })

/-- TAKE_END: the last step is done, or the cancel result is complete (R483, Table 19.11); at the deadline's tick or
later the take is TIMED_OUT instead (R39, R482). -/
def execTakeEnd (t h : Nat) (s : State) : Out :=
  runR t s (fun s =>
    let k := s.take h
    if s.takeOverdue h then s.takeDoom h .timedOut 2
    else if (k.st == .running || k.st == .suspending) && k.todo.isEmpty then s.takeFinish h
    else if k.st == .cancelling then s.takeEnd h k.endStatus
    else s)

/-- TAKE_TIMEOUT: the take has not ended at its deadline (R482). -/
def execTakeTimeout (t h : Nat) (s : State) : Out :=
  runRIf t s (fun s => s.takeOverdue h) (fun s => s.takeDoom h .timedOut 2)

end Sys2Proof.Machine
end

