-- ==== Sys2Proof/Machine/Trip.lean ====
section
/-! DEFINITION. The commands and events of the trip matrix (chapter 04). -/

namespace Sys2Proof.Machine

/-- GRP_ENABLE (R92 to R94, R114, Table 4.12). -/
def execGrpEnable (d : Desc) (s : State) : Out :=
  hostRunR 0x0100 d s (fun s =>
    let g := d.target
    if (s.grp g).st != .disabled then s.refuse d
    else if !s.grpOk g then ((s.setGrp g { s.grp g with bad := true }).raise 11 [g]).refuse d
    else
      let (s, ok) := s.grpChannels g
      if !ok then s.refuse d
      else if (s.grp g).latch then
        let s := (s.grpMark g).uvRestart g
        (((s.setGrp g { s.grp g with st := .latched, bad := false }).refresh g).settle 64).ok d
      else ((s.grpStartup g).settle 64).ok d)

/-- GRP_DISABLE: in every state; a latch stays, and an open window with its count (R94, R97, R104, Table 4.12). -/
def execGrpDisable (d : Desc) (s : State) : Out :=
  hostRunR 0x0101 d s (fun s =>
    let g := d.target
    let v := s.grp g
    ((((s.grpMark g).setGrp g { v with st := .disabled, cbcHold := false, held := false }).refresh g).settle 64).ok d)

/-- GRP_RUN: from STARTUP with no source asserted (Tables 4.11 and 4.12). -/
def execGrpRun (d : Desc) (s : State) : Out :=
  hostRunR 0x0102 d s (fun s =>
    let g := d.target
    if (s.grp g).st != .startup || !(s.routedOn g).isEmpty then s.refuse d
    else (((s.setGrp g { (s.grp g).clearCause with st := .run }).refresh g).raise 3 [g]).ok d)

/-- TRIP_CLEAR (R99, R103). -/
def execTripClear (d : Desc) (s : State) : Out :=
  hostRunR 0x0103 d s (fun s =>
    let g := d.target
    let v := s.grp g
    if v.st != .latched then s.refuse d
    else
      let s := if v.limPend then s.setGrp g { v with recs := [], limPend := false } else s
      if !(s.routedOn g).isEmpty then (s.raise 4 [g]).complete d .tripPersists 0
      else if s.recThird g then
        ((s.setGrp g { s.grp g with recLimit := true, limPend := true }).raise 8 [g]).complete d .ok 1
      else
        let s := s.setGrp g { s.grp g with st := .recovery, latch := false, held := false }
        ((((s.recNote g).refresh g).raise 2 [g]).settle 64).ok d)

/-- VCj sets at voltage v, in 0.1 V at its sense point: at thr_set or beyond, never with thr_set = 0 or an illegal pair
(R86, R92, Tables 4.6 and 4.7). -/
def State.vcSets (s : State) (j v : Nat) : Bool :=
  let set := s.fld (0x28E0 + 4 * j) 31 16
  set != 0 && !s.vcBad j && (if j = 1 then v ≤ set else set ≤ v)

/-- VCj, once set, releases at voltage v: below thr_rel, VC1 above it (R86). -/
def State.vcFrees (s : State) (j v : Nat) : Bool :=
  let rel := s.fld (0x28E0 + 4 * j) 15 0
  if j = 1 then rel < v else v < rel

/-- A source that a gate driver or a comparator reports may assert: 0 desat and 1 uvlo while the channel
reports, a VC comparator at a voltage that sets it (R86, R92, R126, R128). -/
def State.srcMay (s : State) (x : TripAt) : Bool :=
  let n := x.n
  let c := if n % 2 = 0 then some (chHi (n / 4)) else chLo (n / 4)
  match srcKind n, c with
  | 0, some c => (s.ch c).dsat
  | 1, some c => !(s.ch c).uv.isEmpty
  | 3, _ => s.vcSets (n - 304) x.volt
  | _, _ => false

/-- Such a source may release. -/
def State.srcGone (s : State) (x : TripAt) : Bool :=
  let n := x.n
  let c := if n % 2 = 0 then some (chHi (n / 4)) else chLo (n / 4)
  match srcKind n, c with
  | 0, some c => !(s.ch c).dsat
  | 1, some c => (s.ch c).uv.isEmpty
  | 3, _ => s.vcFrees (n - 304) x.volt
  | _, _ => false

/-- TRIP_SOURCE_ASSERT: a report or a comparator reaches the matrix at a tick and fine step (R86,
R88).  Every other source asserts with what brings it about. -/
def execTripSourceAssert (t fine : Nat) (src : TripAt) (s : State) : Out :=
  runRIf t s (fun s => s.up dCtrl && src.n < 312 && s.srcMay src) (fun s => s.assertSrc src.n (s.now * 32 + fine % 32))

/-- TRIP_SOURCE_RELEASE (R86, R101). -/
def execTripSourceRelease (t : Nat) (src : TripAt) (s : State) : Out :=
  runRIf t s (fun s => s.up dCtrl && src.n < 312 && s.srcGone src) (fun s => s.releaseSrc src.n)

/-- CBC_WINDOW_EXPIRED: the count returns to 0 at the deadline (R97). -/
def execCbcWindowExpired (t g : Nat) (s : State) : Out :=
  runIf t s (fun s => g < 16 && (s.grp g).cbcCnt != 0 && (s.grp g).cbcDl ≤ s.now) (fun s =>
    s.setGrp g { s.grp g with cbcCnt := 0 })

/-- RECOVERY_DEADLINE: rec_ms has passed without a trip (R100, Table 4.11). -/
def execRecoveryDeadline (t g : Nat) (s : State) : Out :=
  runRIf t s (fun _ => g < 16) (fun s => s.recoverDue g)

/-- TRIP_TS_LO_READ: a read of TRM_GRPg_TS_LO captures TS_HI (R105). -/
def execTripTsLoRead (t g : Nat) (s : State) : Out :=
  runIf t s (fun s => s.up dCtrl && g < 16) (fun s =>
    { s.setGrp g { s.grp g with tsHi := (s.grp g).firstTs / 2 ^ 32 % 2 ^ 32 } with readout := (s.grp g).firstTs % 2 ^ 32 })

end Sys2Proof.Machine
end

