-- ==== Sys2Proof/Machine/Dispatch.lean ====
section
/-! DEFINITION. The dispatch: one arm per command. -/

namespace Sys2Proof.Machine

def exec (i : Instr) (s : State) : Host.Outcome State Fault Refusal :=
  match i with
  | .nop d => Sys2Proof.Machine.execNop d s
  | .ringCreate d => Sys2Proof.Machine.execRingCreate d s
  | .ringDelete d => Sys2Proof.Machine.execRingDelete d s
  | .takeStart d => Sys2Proof.Machine.execTakeStart d s
  | .takeSuspend d => Sys2Proof.Machine.execTakeSuspend d s
  | .takeResume d => Sys2Proof.Machine.execTakeResume d s
  | .takeCancel d => Sys2Proof.Machine.execTakeCancel d s
  | .grpEnable d => Sys2Proof.Machine.execGrpEnable d s
  | .grpDisable d => Sys2Proof.Machine.execGrpDisable d s
  | .grpRun d => Sys2Proof.Machine.execGrpRun d s
  | .tripClear d => Sys2Proof.Machine.execTripClear d s
  | .legEnable d => Sys2Proof.Machine.execLegEnable d s
  | .legDisable d => Sys2Proof.Machine.execLegDisable d s
  | .legSetCmp d => Sys2Proof.Machine.execLegSetCmp d s
  | .valveEnable d => Sys2Proof.Machine.execValveEnable d s
  | .valveDisable d => Sys2Proof.Machine.execValveDisable d s
  | .valveSet d => Sys2Proof.Machine.execValveSet d s
  | .valvePeriod d => Sys2Proof.Machine.execValvePeriod d s
  | .fbEnable d => Sys2Proof.Machine.execFbEnable d s
  | .fbDisable d => Sys2Proof.Machine.execFbDisable d s
  | .cmpSet d => Sys2Proof.Machine.execCmpSet d s
  | .ctxStart d => Sys2Proof.Machine.execCtxStart d s
  | .ctxStop d => Sys2Proof.Machine.execCtxStop d s
  | .setTarget d => Sys2Proof.Machine.execSetTarget d s
  | .pgnLimits d => Sys2Proof.Machine.execPgnLimits d s
  | .cmuStart d => Sys2Proof.Machine.execCmuStart d s
  | .cmuStop d => Sys2Proof.Machine.execCmuStop d s
  | .cmuSet d => Sys2Proof.Machine.execCmuSet d s
  | .gearRef d => Sys2Proof.Machine.execGearRef d s
  | .gearShift d => Sys2Proof.Machine.execGearShift d s
  | .gearStop d => Sys2Proof.Machine.execGearStop d s
  | .parkSet d => Sys2Proof.Machine.execParkSet d s
  | .ptoSet d => Sys2Proof.Machine.execPtoSet d s
  | .secBase d => Sys2Proof.Machine.execSecBase d s
  | .secGate d => Sys2Proof.Machine.execSecGate d s
  | .cueAppend d => Sys2Proof.Machine.execCueAppend d s
  | .cueFlush d => Sys2Proof.Machine.execCueFlush d s
  | .vlvSet d => Sys2Proof.Machine.execVlvSet d s
  | .railStart d => Sys2Proof.Machine.execRailStart d s
  | .railStop d => Sys2Proof.Machine.execRailStop d s
  | .railSet d => Sys2Proof.Machine.execRailSet d s
  | .railRetire d => Sys2Proof.Machine.execRailRetire d s
  | .pathSet d => Sys2Proof.Machine.execPathSet d s
  | .chgStart d => Sys2Proof.Machine.execChgStart d s
  | .chgStop d => Sys2Proof.Machine.execChgStop d s
  | .rsupStart d => Sys2Proof.Machine.execRsupStart d s
  | .rsupStop d => Sys2Proof.Machine.execRsupStop d s
  | .dclLimit d => Sys2Proof.Machine.execDclLimit d s
  | .dclClear d => Sys2Proof.Machine.execDclClear d s
  | .safeCfgLoad d => Sys2Proof.Machine.execSafeCfgLoad d s
  | .safeCfgConfirm d => Sys2Proof.Machine.execSafeCfgConfirm d s
  | .mbxPost d => Sys2Proof.Machine.execMbxPost d s
  | .mbxAck d => Sys2Proof.Machine.execMbxAck d s
  | .canTxArm d => Sys2Proof.Machine.execCanTxArm d s
  | .canTxAbort d => Sys2Proof.Machine.execCanTxAbort d s
  | .canRxRelease d => Sys2Proof.Machine.execCanRxRelease d s
  | .canReinit d => Sys2Proof.Machine.execCanReinit d s
  | .lifecycleSet d => Sys2Proof.Machine.execLifecycleSet d s
  | .domainReset d => Sys2Proof.Machine.execDomainReset d s
  | .coreMode d => Sys2Proof.Machine.execCoreMode d s
  | .coreModeChangeDone t => Sys2Proof.Machine.execCoreModeChangeDone t s
  | .registerWrite t off val be => Sys2Proof.Machine.execRegisterWrite t off val be s
  | .readAndClear t off => Sys2Proof.Machine.execReadAndClear t off s
  | .timeLoRead t => Sys2Proof.Machine.execTimeLoRead t s
  | .tripTsLoRead t g => Sys2Proof.Machine.execTripTsLoRead t g s
  | .edgeLoRead t idx => Sys2Proof.Machine.execEdgeLoRead t idx s
  | .capPosRead t idx => Sys2Proof.Machine.execCapPosRead t idx s
  | .odoDistRead t => Sys2Proof.Machine.execOdoDistRead t s
  | .causeTsLoRead t => Sys2Proof.Machine.execCauseTsLoRead t s
  | .lockTsLoRead t => Sys2Proof.Machine.execLockTsLoRead t s
  | .objTsLoRead t => Sys2Proof.Machine.execObjTsLoRead t s
  | .cmpValWrite t j val be => Sys2Proof.Machine.execCmpValWrite t j val be s
  | .clapperStart t val be => Sys2Proof.Machine.execClapperStart t val be s
  | .imageLoadStart t => Sys2Proof.Machine.execImageLoadStart t s
  | .imageLoadDone t bytes dmaErr => Sys2Proof.Machine.execImageLoadDone t bytes dmaErr s
  | .ownerKeyProgram t => Sys2Proof.Machine.execOwnerKeyProgram t s
  | .ownerKeyProgramDone t => Sys2Proof.Machine.execOwnerKeyProgramDone t s
  | .adminPairEnable t val be => Sys2Proof.Machine.execAdminPairEnable t val be s
  | .adminPairDisable t val be => Sys2Proof.Machine.execAdminPairDisable t val be s
  | .sqTailDoorbell t j val => Sys2Proof.Machine.execSqTailDoorbell t j val s
  | .cqHeadDoorbell t j val => Sys2Proof.Machine.execCqHeadDoorbell t j val s
  | .evqHeadDoorbell t val => Sys2Proof.Machine.execEvqHeadDoorbell t val s
  | .dlyHeadDoorbell t val => Sys2Proof.Machine.execDlyHeadDoorbell t val s
  | .configLock t val be => Sys2Proof.Machine.execConfigLock t val be s
  | .lockComplete t => Sys2Proof.Machine.execLockComplete t s
  | .clapperBoundary t => Sys2Proof.Machine.execClapperBoundary t s
  | .clapInEdge t fine => Sys2Proof.Machine.execClapInEdge t fine s
  | .clapInMissed t => Sys2Proof.Machine.execClapInMissed t s
  | .clapHoldoverExpired t => Sys2Proof.Machine.execClapHoldoverExpired t s
  | .legCarrierStart t n m => Sys2Proof.Machine.execLegCarrierStart t n m s
  | .legCarrierCentre t n => Sys2Proof.Machine.execLegCarrierCentre t n s
  | .adcTrigger t n kk fine => Sys2Proof.Machine.execAdcTrigger t n kk fine s
  | .afeConversionDone t idx code => Sys2Proof.Machine.execAfeConversionDone t idx code s
  | .afeScanConversion t conv code => Sys2Proof.Machine.execAfeScanConversion t conv code s
  | .peakComparatorTrip t n ofs => Sys2Proof.Machine.execPeakComparatorTrip t n ofs s
  | .valveCarrierStart t m idx => Sys2Proof.Machine.execValveCarrierStart t m idx s
  | .tripSourceAssert t fine src => Sys2Proof.Machine.execTripSourceAssert t fine src s
  | .tripSourceRelease t src => Sys2Proof.Machine.execTripSourceRelease t src s
  | .cbcWindowExpired t g => Sys2Proof.Machine.execCbcWindowExpired t g s
  | .recoveryDeadline t g => Sys2Proof.Machine.execRecoveryDeadline t g s
  | .gateOnCommand t c otherLow both => Sys2Proof.Machine.execGateOnCommand t c otherLow both s
  | .gateArmed t c => Sys2Proof.Machine.execGateArmed t c s
  | .desatDetect t c => Sys2Proof.Machine.execDesatDetect t c s
  | .desatRelease t c low => Sys2Proof.Machine.execDesatRelease t c low s
  | .uvloDetect t c rail => Sys2Proof.Machine.execUvloDetect t c rail s
  | .uvloRelease t c rail => Sys2Proof.Machine.execUvloRelease t c rail s
  | .diagSettleExpired t vb v => Sys2Proof.Machine.execDiagSettleExpired t vb v s
  | .pfiInputEdge t fine idx a b z => Sys2Proof.Machine.execPfiInputEdge t fine idx a b z s
  | .cmpPulseEnd t j => Sys2Proof.Machine.execCmpPulseEnd t j s
  | .hallInvalid t idx => Sys2Proof.Machine.execHallInvalid t idx s
  | .serialFrameDone t idx w crc fail => Sys2Proof.Machine.execSerialFrameDone t idx w crc fail s
  | .resolverCheck t r amp err excBad => Sys2Proof.Machine.execResolverCheck t r amp err excBad s
  | .resolverTrackUpdate t r raw speed => Sys2Proof.Machine.execResolverTrackUpdate t r raw speed s
  | .ctxRunRelease t c => Sys2Proof.Machine.execCtxRunRelease t c s
  | .ctxRunComplete t c busy => Sys2Proof.Machine.execCtxRunComplete t c busy s
  | .ctxOverrun t c => Sys2Proof.Machine.execCtxOverrun t c s
  | .cmuListenEnd t u w => Sys2Proof.Machine.execCmuListenEnd t u w s
  | .cmuBrakeEnd t u => Sys2Proof.Machine.execCmuBrakeEnd t u s
  | .cmuPrechargeEnd t u => Sys2Proof.Machine.execCmuPrechargeEnd t u s
  | .cmuAlignEnd t u => Sys2Proof.Machine.execCmuAlignEnd t u s
  | .cmuHandOver t u w => Sys2Proof.Machine.execCmuHandOver t u w s
  | .cmuNoSync t u => Sys2Proof.Machine.execCmuNoSync t u s
  | .cmuStall t u => Sys2Proof.Machine.execCmuStall t u s
  | .cmuRetryEnd t u => Sys2Proof.Machine.execCmuRetryEnd t u s
  | .cmuStoppingDone t u => Sys2Proof.Machine.execCmuStoppingDone t u s
  | .gbxStep t => Sys2Proof.Machine.execGbxStep t s
  | .gbxDetentReached t kk => Sys2Proof.Machine.execGbxDetentReached t kk s
  | .gbxRampEnd t => Sys2Proof.Machine.execGbxRampEnd t s
  | .gbxStageTimeout t => Sys2Proof.Machine.execGbxStageTimeout t s
  | .sxeOverrun t => Sys2Proof.Machine.execSxeOverrun t s
  | .rnRefresh t j => Sys2Proof.Machine.execRnRefresh t j s
  | .sxeSyncFrame t => Sys2Proof.Machine.execSxeSyncFrame t s
  | .vlvShort t m => Sys2Proof.Machine.execVlvShort t m s
  | .vlvRetryEnd t m => Sys2Proof.Machine.execVlvRetryEnd t m s
  | .vlvTotalOver t sum => Sys2Proof.Machine.execVlvTotalOver t sum s
  | .railSoftstartEnd t r => Sys2Proof.Machine.execRailSoftstartEnd t r s
  | .railShortDetect t r => Sys2Proof.Machine.execRailShortDetect t r s
  | .railHiccupEnd t r => Sys2Proof.Machine.execRailHiccupEnd t r s
  | .railHiccupReset t r => Sys2Proof.Machine.execRailHiccupReset t r s
  | .railBurstEnter t r => Sys2Proof.Machine.execRailBurstEnter t r s
  | .railBurstPacketTimeout t r => Sys2Proof.Machine.execRailBurstPacketTimeout t r s
  | .phaseRetired t r p => Sys2Proof.Machine.execPhaseRetired t r p s
  | .railOutOfBand t r => Sys2Proof.Machine.execRailOutOfBand t r s
  | .railTransitionDone t r => Sys2Proof.Machine.execRailTransitionDone t r s
  | .railTransitionTimeout t r => Sys2Proof.Machine.execRailTransitionTimeout t r s
  | .vclCmdFrame t r bytes framing => Sys2Proof.Machine.execVclCmdFrame t r bytes framing s
  | .vclStatusSend t r => Sys2Proof.Machine.execVclStatusSend t r s
  | .vclLinkLost t r => Sys2Proof.Machine.execVclLinkLost t r s
  | .vclHoldExpired t r => Sys2Proof.Machine.execVclHoldExpired t r s
  | .ppmStep t m => Sys2Proof.Machine.execPpmStep t m s
  | .contactorCheck t kk closed => Sys2Proof.Machine.execContactorCheck t kk closed s
  | .prechargeFail t => Sys2Proof.Machine.execPrechargeFail t s
  | .handoverShed t => Sys2Proof.Machine.execHandoverShed t s
  | .dcChargeOpen t => Sys2Proof.Machine.execDcChargeOpen t s
  | .plugState t ac dc latch => Sys2Proof.Machine.execPlugState t ac dc latch s
  | .sourceQualified t kind f60 => Sys2Proof.Machine.execSourceQualified t kind f60 s
  | .sourceLost t cause => Sys2Proof.Machine.execSourceLost t cause s
  | .chgStartTimeout t => Sys2Proof.Machine.execChgStartTimeout t s
  | .chgPauseExpired t => Sys2Proof.Machine.execChgPauseExpired t s
  | .chgEocDwell t => Sys2Proof.Machine.execChgEocDwell t s
  | .chgSafetyTimer t => Sys2Proof.Machine.execChgSafetyTimer t s
  | .chgPlugAbsent t => Sys2Proof.Machine.execChgPlugAbsent t s
  | .chgEndingDone t => Sys2Proof.Machine.execChgEndingDone t s
  | .rsupOverload t idx => Sys2Proof.Machine.execRsupOverload t idx s
  | .rsupLiveInlet t => Sys2Proof.Machine.execRsupLiveInlet t s
  | .svcPressStart t start => Sys2Proof.Machine.execSvcPressStart t start s
  | .svcLongPress t => Sys2Proof.Machine.execSvcLongPress t s
  | .svcRelease t => Sys2Proof.Machine.execSvcRelease t s
  | .svcFullReset t bad => Sys2Proof.Machine.execSvcFullReset t bad s
  | .storageEnter t => Sys2Proof.Machine.execStorageEnter t s
  | .storageWake t cause bad => Sys2Proof.Machine.execStorageWake t cause bad s
  | .chopperFault t => Sys2Proof.Machine.execChopperFault t s
  | .thmUpdate t e m => Sys2Proof.Machine.execThmUpdate t e m s
  | .thmSensorFault t kk => Sys2Proof.Machine.execThmSensorFault t kk s
  | .thmSensorRecover t kk => Sys2Proof.Machine.execThmSensorRecover t kk s
  | .safeInputLineChange t ch idx lineB level => Sys2Proof.Machine.execSafeInputLineChange t ch idx lineB level s
  | .safeInputDiscrepancy t ch idx => Sys2Proof.Machine.execSafeInputDiscrepancy t ch idx s
  | .testPulse t kk shlLow sfpLow => Sys2Proof.Machine.execTestPulse t kk shlLow sfpLow s
  | .stoReqChange t pin low => Sys2Proof.Machine.execStoReqChange t pin low s
  | .stoReqDisc t pin => Sys2Proof.Machine.execStoReqDisc t pin s
  | .shlSupplyOpen t kk => Sys2Proof.Machine.execShlSupplyOpen t kk s
  | .supplyReadback t kk ok => Sys2Proof.Machine.execSupplyReadback t kk ok s
  | .sfpCycle t diag => Sys2Proof.Machine.execSfpCycle t diag s
  | .continuityTimeout t ch => Sys2Proof.Machine.execContinuityTimeout t ch s
  | .shlSs1Window t g => Sys2Proof.Machine.execShlSs1Window t g s
  | .ss1Deadline t ch g => Sys2Proof.Machine.execSs1Deadline t ch g s
  | .shlSelfTestDone t ok => Sys2Proof.Machine.execShlSelfTestDone t ok s
  | .bslWatchdog t c => Sys2Proof.Machine.execBslWatchdog t c s
  | .bslDataSend t c => Sys2Proof.Machine.execBslDataSend t c s
  | .descriptorFetch t sq op d readErr => Sys2Proof.Machine.execDescriptorFetch t sq op d readErr s
  | .completionWrite t sq => Sys2Proof.Machine.execCompletionWrite t sq s
  | .irqCoalesceTimeout t r => Sys2Proof.Machine.execIrqCoalesceTimeout t r s
  | .dailiesRecord t => Sys2Proof.Machine.execDailiesRecord t s
  | .takeSuspendPoint t h => Sys2Proof.Machine.execTakeSuspendPoint t h s
  | .takeStepDone t h bytes ok => Sys2Proof.Machine.execTakeStepDone t h bytes ok s
  | .takeEnd t h => Sys2Proof.Machine.execTakeEnd t h s
  | .takeTimeout t h => Sys2Proof.Machine.execTakeTimeout t h s
  | .functionLevelReset t => Sys2Proof.Machine.execFunctionLevelReset t s
  | .linkDown t => Sys2Proof.Machine.execLinkDown t s
  | .linkUp t width rate => Sys2Proof.Machine.execLinkUp t width rate s
  | .mbxDeadline t c => Sys2Proof.Machine.execMbxDeadline t c s
  | .mbxReceiverAck t c => Sys2Proof.Machine.execMbxReceiverAck t c s
  | .mbxInternalPost t c ptr tag => Sys2Proof.Machine.execMbxInternalPost t c ptr tag s
  | .canFrameReceived t kk f => Sys2Proof.Machine.execCanFrameReceived t kk f s
  | .canFrameSent t kk obj sof => Sys2Proof.Machine.execCanFrameSent t kk obj sof s
  | .canTxFailed t kk obj ackErr dom => Sys2Proof.Machine.execCanTxFailed t kk obj ackErr dom s
  | .canTxEligible t kk obj => Sys2Proof.Machine.execCanTxEligible t kk obj s
  | .canBusOffRecovery t kk => Sys2Proof.Machine.execCanBusOffRecovery t kk s
  | .canIntegrated t kk => Sys2Proof.Machine.execCanIntegrated t kk s
  | .canSelfCheckDone t kk ok => Sys2Proof.Machine.execCanSelfCheckDone t kk ok s
  | .rplStatusFrame t => Sys2Proof.Machine.execRplStatusFrame t s
  | .memScrub t m cw syms obj => Sys2Proof.Machine.execMemScrub t m cw syms obj s
  | .memRetired t m region => Sys2Proof.Machine.execMemRetired t m region s
  | .debugAccess t auth => Sys2Proof.Machine.execDebugAccess t auth s
  | .lifecycleCommit t bad => Sys2Proof.Machine.execLifecycleCommit t bad s
  | .powerOn t bad => Sys2Proof.Machine.execPowerOn t bad s
  | .bootDone t => Sys2Proof.Machine.execBootDone t s
  | .supplyLow t v => Sys2Proof.Machine.execSupplyLow t v s
  | .supplyBelow9v t => Sys2Proof.Machine.execSupplyBelow9v t s
  | .appWatchdog t core => Sys2Proof.Machine.execAppWatchdog t core s
  | .appWatchdogKick t core => Sys2Proof.Machine.execAppWatchdogKick t core s
  | .domainRunning t d => Sys2Proof.Machine.execDomainRunning t d s
  | .partitionStart t p => Sys2Proof.Machine.execPartitionStart t p s
  | .shlTapEdge t idx => Sys2Proof.Machine.execShlTapEdge t idx s
  | .msixVectorUnmask t v => Sys2Proof.Machine.execMsixVectorUnmask t v s
  | .canRxError t kk inc => Sys2Proof.Machine.execCanRxError t kk inc s
  | .vioBankHeld t x => Sys2Proof.Machine.execVioBankHeld t x s
  | .vioBankReleased t x => Sys2Proof.Machine.execVioBankReleased t x s
  | .supplyRecovered t => Sys2Proof.Machine.execSupplyRecovered t s

end Sys2Proof.Machine
end

