-- ==== Sys2Proof/WellFormed.lean ====
section
/-! DEFINITION. Well-formed commands: a descriptor that fits Table 19.3, and events that name an object the AZ9160
has.  The machine does not need it, since an object that is not there is never affected; statements may. -/

namespace Sys2Proof

/-- Every entry is a byte. -/
def bytesOk (l : List Nat) : Bool := l.all (fun b => b < 256)

/-- A signed 14-bit conversion code. -/
def codeOk (c : Int) : Bool := -8192 ≤ c && c ≤ 8191

/-- A BAR0 write of 32 bits: an aligned offset and four byte enables (R574). -/
def accOk (off be : Nat) : Bool := off < 65536 && off % 4 == 0 && be < 16

/-- A descriptor fits its fields (Table 19.3). -/
def Desc.wf (d : Desc) : Bool :=
  d.sq < 32 && d.cmdId < 4294967296 && d.flags < 65536 && d.target < 65536 && d.count < 65536 && d.len < 4294967296
  && d.addr < 18446744073709551616 && d.p.length ≤ 8 && d.p.all (fun w => w < 4294967296) && bytesOk d.data

/-- Opcode (Table 19.6) and descriptor of a host ring command; none for every other command. -/
def Instr.host? : Instr → Option (Nat × Desc)
  | .nop d => some (0x0001, d)
  | .ringCreate d => some (0x0002, d)
  | .ringDelete d => some (0x0003, d)
  | .takeStart d => some (0x0010, d)
  | .takeSuspend d => some (0x0011, d)
  | .takeResume d => some (0x0012, d)
  | .takeCancel d => some (0x0013, d)
  | .grpEnable d => some (0x0100, d)
  | .grpDisable d => some (0x0101, d)
  | .grpRun d => some (0x0102, d)
  | .tripClear d => some (0x0103, d)
  | .legEnable d => some (0x0200, d)
  | .legDisable d => some (0x0201, d)
  | .legSetCmp d => some (0x0202, d)
  | .valveEnable d => some (0x0203, d)
  | .valveDisable d => some (0x0204, d)
  | .valveSet d => some (0x0205, d)
  | .valvePeriod d => some (0x0206, d)
  | .fbEnable d => some (0x0300, d)
  | .fbDisable d => some (0x0301, d)
  | .cmpSet d => some (0x0302, d)
  | .ctxStart d => some (0x0400, d)
  | .ctxStop d => some (0x0401, d)
  | .setTarget d => some (0x0402, d)
  | .pgnLimits d => some (0x0403, d)
  | .cmuStart d => some (0x0500, d)
  | .cmuStop d => some (0x0501, d)
  | .cmuSet d => some (0x0502, d)
  | .gearRef d => some (0x0600, d)
  | .gearShift d => some (0x0601, d)
  | .gearStop d => some (0x0602, d)
  | .parkSet d => some (0x0603, d)
  | .ptoSet d => some (0x0604, d)
  | .secBase d => some (0x0700, d)
  | .secGate d => some (0x0701, d)
  | .cueAppend d => some (0x0702, d)
  | .cueFlush d => some (0x0703, d)
  | .vlvSet d => some (0x0704, d)
  | .railStart d => some (0x0800, d)
  | .railStop d => some (0x0801, d)
  | .railSet d => some (0x0802, d)
  | .railRetire d => some (0x0803, d)
  | .pathSet d => some (0x0900, d)
  | .chgStart d => some (0x0901, d)
  | .chgStop d => some (0x0902, d)
  | .rsupStart d => some (0x0903, d)
  | .rsupStop d => some (0x0904, d)
  | .dclLimit d => some (0x0905, d)
  | .dclClear d => some (0x0906, d)
  | .safeCfgLoad d => some (0x0A00, d)
  | .safeCfgConfirm d => some (0x0A01, d)
  | .mbxPost d => some (0x0B00, d)
  | .mbxAck d => some (0x0B01, d)
  | .canTxArm d => some (0x0C00, d)
  | .canTxAbort d => some (0x0C01, d)
  | .canRxRelease d => some (0x0C02, d)
  | .canReinit d => some (0x0C03, d)
  | .lifecycleSet d => some (0x0D00, d)
  | .domainReset d => some (0x0E00, d)
  | .coreMode d => some (0x0E01, d)
  | .coreModeChangeDone _ => none
  | .registerWrite _ _ _ _ => none
  | .readAndClear _ _ => none
  | .timeLoRead _ => none
  | .tripTsLoRead _ _ => none
  | .edgeLoRead _ _ => none
  | .capPosRead _ _ => none
  | .odoDistRead _ => none
  | .causeTsLoRead _ => none
  | .lockTsLoRead _ => none
  | .objTsLoRead _ => none
  | .cmpValWrite _ _ _ _ => none
  | .clapperStart _ _ _ => none
  | .imageLoadStart _ => none
  | .imageLoadDone _ _ _ => none
  | .ownerKeyProgram _ => none
  | .ownerKeyProgramDone _ => none
  | .adminPairEnable _ _ _ => none
  | .adminPairDisable _ _ _ => none
  | .sqTailDoorbell _ _ _ => none
  | .cqHeadDoorbell _ _ _ => none
  | .evqHeadDoorbell _ _ => none
  | .dlyHeadDoorbell _ _ => none
  | .configLock _ _ _ => none
  | .lockComplete _ => none
  | .clapperBoundary _ => none
  | .clapInEdge _ _ => none
  | .clapInMissed _ => none
  | .clapHoldoverExpired _ => none
  | .legCarrierStart _ _ _ => none
  | .legCarrierCentre _ _ => none
  | .adcTrigger _ _ _ _ => none
  | .afeConversionDone _ _ _ => none
  | .afeScanConversion _ _ _ => none
  | .peakComparatorTrip _ _ _ => none
  | .valveCarrierStart _ _ _ => none
  | .tripSourceAssert _ _ _ => none
  | .tripSourceRelease _ _ => none
  | .cbcWindowExpired _ _ => none
  | .recoveryDeadline _ _ => none
  | .gateOnCommand _ _ _ _ => none
  | .gateArmed _ _ => none
  | .desatDetect _ _ => none
  | .desatRelease _ _ _ => none
  | .uvloDetect _ _ _ => none
  | .uvloRelease _ _ _ => none
  | .diagSettleExpired _ _ _ => none
  | .pfiInputEdge _ _ _ _ _ _ => none
  | .cmpPulseEnd _ _ => none
  | .hallInvalid _ _ => none
  | .serialFrameDone _ _ _ _ _ => none
  | .resolverCheck _ _ _ _ _ => none
  | .resolverTrackUpdate _ _ _ _ => none
  | .ctxRunRelease _ _ => none
  | .ctxRunComplete _ _ _ => none
  | .ctxOverrun _ _ => none
  | .cmuListenEnd _ _ _ => none
  | .cmuBrakeEnd _ _ => none
  | .cmuPrechargeEnd _ _ => none
  | .cmuAlignEnd _ _ => none
  | .cmuHandOver _ _ _ => none
  | .cmuNoSync _ _ => none
  | .cmuStall _ _ => none
  | .cmuRetryEnd _ _ => none
  | .cmuStoppingDone _ _ => none
  | .gbxStep _ => none
  | .gbxDetentReached _ _ => none
  | .gbxRampEnd _ => none
  | .gbxStageTimeout _ => none
  | .sxeOverrun _ => none
  | .rnRefresh _ _ => none
  | .sxeSyncFrame _ => none
  | .vlvShort _ _ => none
  | .vlvRetryEnd _ _ => none
  | .vlvTotalOver _ _ => none
  | .railSoftstartEnd _ _ => none
  | .railShortDetect _ _ => none
  | .railHiccupEnd _ _ => none
  | .railHiccupReset _ _ => none
  | .railBurstEnter _ _ => none
  | .railBurstPacketTimeout _ _ => none
  | .phaseRetired _ _ _ => none
  | .railOutOfBand _ _ => none
  | .railTransitionDone _ _ => none
  | .railTransitionTimeout _ _ => none
  | .vclCmdFrame _ _ _ _ => none
  | .vclStatusSend _ _ => none
  | .vclLinkLost _ _ => none
  | .vclHoldExpired _ _ => none
  | .ppmStep _ _ => none
  | .contactorCheck _ _ _ => none
  | .prechargeFail _ => none
  | .handoverShed _ => none
  | .dcChargeOpen _ => none
  | .plugState _ _ _ _ => none
  | .sourceQualified _ _ _ => none
  | .sourceLost _ _ => none
  | .chgStartTimeout _ => none
  | .chgPauseExpired _ => none
  | .chgEocDwell _ => none
  | .chgSafetyTimer _ => none
  | .chgPlugAbsent _ => none
  | .chgEndingDone _ => none
  | .rsupOverload _ _ => none
  | .rsupLiveInlet _ => none
  | .svcPressStart _ _ => none
  | .svcLongPress _ => none
  | .svcRelease _ => none
  | .svcFullReset _ _ => none
  | .storageEnter _ => none
  | .storageWake _ _ _ => none
  | .chopperFault _ => none
  | .thmUpdate _ _ _ => none
  | .thmSensorFault _ _ => none
  | .thmSensorRecover _ _ => none
  | .safeInputLineChange _ _ _ _ _ => none
  | .safeInputDiscrepancy _ _ _ => none
  | .testPulse _ _ _ _ => none
  | .stoReqChange _ _ _ => none
  | .stoReqDisc _ _ => none
  | .shlSupplyOpen _ _ => none
  | .supplyReadback _ _ _ => none
  | .sfpCycle _ _ => none
  | .continuityTimeout _ _ => none
  | .shlSs1Window _ _ => none
  | .ss1Deadline _ _ _ => none
  | .shlSelfTestDone _ _ => none
  | .bslWatchdog _ _ => none
  | .bslDataSend _ _ => none
  | .descriptorFetch _ _ _ _ _ => none
  | .completionWrite _ _ => none
  | .irqCoalesceTimeout _ _ => none
  | .dailiesRecord _ => none
  | .takeSuspendPoint _ _ => none
  | .takeStepDone _ _ _ _ => none
  | .takeEnd _ _ => none
  | .takeTimeout _ _ => none
  | .functionLevelReset _ => none
  | .linkDown _ => none
  | .linkUp _ _ _ => none
  | .mbxDeadline _ _ => none
  | .mbxReceiverAck _ _ => none
  | .mbxInternalPost _ _ _ _ => none
  | .canFrameReceived _ _ _ => none
  | .canFrameSent _ _ _ _ => none
  | .canTxFailed _ _ _ _ _ => none
  | .canTxEligible _ _ _ => none
  | .canBusOffRecovery _ _ => none
  | .canIntegrated _ _ => none
  | .canSelfCheckDone _ _ _ => none
  | .rplStatusFrame _ => none
  | .memScrub _ _ _ _ _ => none
  | .memRetired _ _ _ => none
  | .debugAccess _ _ => none
  | .lifecycleCommit _ _ => none
  | .powerOn _ _ => none
  | .bootDone _ => none
  | .supplyLow _ _ => none
  | .supplyBelow9v _ => none
  | .appWatchdog _ _ => none
  | .appWatchdogKick _ _ => none
  | .domainRunning _ _ => none
  | .partitionStart _ _ => none
  | .shlTapEdge _ _ => none
  | .msixVectorUnmask _ _ => none
  | .canRxError _ _ _ => none
  | .vioBankHeld _ _ => none
  | .vioBankReleased _ _ => none
  | .supplyRecovered _ => none

/-- The command is well-formed. -/
def Instr.wf : Instr → Bool
  | .nop d => d.wf
  | .ringCreate d => d.wf
  | .ringDelete d => d.wf
  | .takeStart d => d.wf
  | .takeSuspend d => d.wf
  | .takeResume d => d.wf
  | .takeCancel d => d.wf
  | .grpEnable d => d.wf
  | .grpDisable d => d.wf
  | .grpRun d => d.wf
  | .tripClear d => d.wf
  | .legEnable d => d.wf
  | .legDisable d => d.wf
  | .legSetCmp d => d.wf
  | .valveEnable d => d.wf
  | .valveDisable d => d.wf
  | .valveSet d => d.wf
  | .valvePeriod d => d.wf
  | .fbEnable d => d.wf
  | .fbDisable d => d.wf
  | .cmpSet d => d.wf
  | .ctxStart d => d.wf
  | .ctxStop d => d.wf
  | .setTarget d => d.wf
  | .pgnLimits d => d.wf
  | .cmuStart d => d.wf
  | .cmuStop d => d.wf
  | .cmuSet d => d.wf
  | .gearRef d => d.wf
  | .gearShift d => d.wf
  | .gearStop d => d.wf
  | .parkSet d => d.wf
  | .ptoSet d => d.wf
  | .secBase d => d.wf
  | .secGate d => d.wf
  | .cueAppend d => d.wf
  | .cueFlush d => d.wf
  | .vlvSet d => d.wf
  | .railStart d => d.wf
  | .railStop d => d.wf
  | .railSet d => d.wf
  | .railRetire d => d.wf
  | .pathSet d => d.wf
  | .chgStart d => d.wf
  | .chgStop d => d.wf
  | .rsupStart d => d.wf
  | .rsupStop d => d.wf
  | .dclLimit d => d.wf
  | .dclClear d => d.wf
  | .safeCfgLoad d => d.wf
  | .safeCfgConfirm d => d.wf
  | .mbxPost d => d.wf
  | .mbxAck d => d.wf
  | .canTxArm d => d.wf
  | .canTxAbort d => d.wf
  | .canRxRelease d => d.wf
  | .canReinit d => d.wf
  | .lifecycleSet d => d.wf
  | .domainReset d => d.wf
  | .coreMode d => d.wf
  | .coreModeChangeDone _ => true
  | .registerWrite _ off _ be => accOk off be
  | .readAndClear _ off => off < 65536
  | .timeLoRead _ => true
  | .tripTsLoRead _ g => g < 16
  | .edgeLoRead _ i => i < 16
  | .capPosRead _ i => i < 16
  | .odoDistRead _ => true
  | .causeTsLoRead _ => true
  | .lockTsLoRead _ => true
  | .objTsLoRead _ => true
  | .cmpValWrite _ j _ be => j < 16 && be < 16
  | .clapperStart _ _ be => be < 16
  | .imageLoadStart _ => true
  | .imageLoadDone _ bytes _ => bytesOk bytes
  | .ownerKeyProgram _ => true
  | .ownerKeyProgramDone _ => true
  | .adminPairEnable _ _ be => be < 16
  | .adminPairDisable _ _ be => be < 16
  | .sqTailDoorbell _ j val => j < 32 && val < 4294967296
  | .cqHeadDoorbell _ j val => j < 32 && val < 4294967296
  | .evqHeadDoorbell _ val => val < 4294967296
  | .dlyHeadDoorbell _ val => val < 4294967296
  | .configLock _ val be => val < 4294967296 && be < 16
  | .lockComplete _ => true
  | .clapperBoundary _ => true
  | .clapInEdge _ fine => fine < 32
  | .clapInMissed _ => true
  | .clapHoldoverExpired _ => true
  | .legCarrierStart _ n _ => n < 68
  | .legCarrierCentre _ n => n < 68
  | .adcTrigger _ n k fine => n < 68 && k < 2 && fine < 32
  | .afeConversionDone _ i code => i < 96 && codeOk code
  | .afeScanConversion _ conv code => conv < 24 && codeOk code
  | .peakComparatorTrip _ n _ => 14 ≤ n && n < 28
  | .valveCarrierStart _ m _ => m < 48
  | .tripSourceAssert _ fine src => fine < 32 && src.n < 312
  | .tripSourceRelease _ src => src.n < 312
  | .cbcWindowExpired _ g => g < 16
  | .recoveryDeadline _ g => g < 16
  | .gateOnCommand _ c _ _ => c < 134
  | .gateArmed _ c => c < 134
  | .desatDetect _ c => c < 134
  | .desatRelease _ c _ => c < 134
  | .uvloDetect _ c rail => c < 134 && rail < 4
  | .uvloRelease _ c rail => c < 134 && rail < 4
  | .diagSettleExpired _ _ _ => true
  | .pfiInputEdge _ fine i _ _ _ => fine < 32 && i < 16
  | .cmpPulseEnd _ j => j < 16
  | .hallInvalid _ i => i < 16
  | .serialFrameDone _ i _ _ _ => i < 16
  | .resolverCheck _ r _ _ _ => r < 4
  | .resolverTrackUpdate _ r raw _ => r < 4 && raw < 4294967296
  | .ctxRunRelease _ c => c < 192
  | .ctxRunComplete _ c _ => c < 192
  | .ctxOverrun _ c => c < 192
  | .cmuListenEnd _ u _ => u < 12
  | .cmuBrakeEnd _ u => u < 12
  | .cmuPrechargeEnd _ u => u < 12
  | .cmuAlignEnd _ u => u < 12
  | .cmuHandOver _ u _ => u < 12
  | .cmuNoSync _ u => u < 12
  | .cmuStall _ u => u < 12
  | .cmuRetryEnd _ u => u < 12
  | .cmuStoppingDone _ u => u < 12
  | .gbxStep _ => true
  | .gbxDetentReached _ k => k < 4
  | .gbxRampEnd _ => true
  | .gbxStageTimeout _ => true
  | .sxeOverrun _ => true
  | .rnRefresh _ j => j < 16
  | .sxeSyncFrame _ => true
  | .vlvShort _ m => m < 48
  | .vlvRetryEnd _ m => m < 48
  | .vlvTotalOver _ _ => true
  | .railSoftstartEnd _ r => r < 2
  | .railShortDetect _ r => r < 2
  | .railHiccupEnd _ r => r < 2
  | .railHiccupReset _ r => r < 2
  | .railBurstEnter _ r => r < 2
  | .railBurstPacketTimeout _ r => r < 2
  | .phaseRetired _ r p => r < 2 && p < 6
  | .railOutOfBand _ r => r < 2
  | .railTransitionDone _ r => r < 2
  | .railTransitionTimeout _ r => r < 2
  | .vclCmdFrame _ r bytes _ => r < 2 && bytesOk bytes
  | .vclStatusSend _ r => r < 2
  | .vclLinkLost _ r => r < 2
  | .vclHoldExpired _ r => r < 2
  | .ppmStep _ _ => true
  | .contactorCheck _ k _ => k < 6
  | .prechargeFail _ => true
  | .handoverShed _ => true
  | .dcChargeOpen _ => true
  | .plugState _ _ _ _ => true
  | .sourceQualified _ _ _ => true
  | .sourceLost _ _ => true
  | .chgStartTimeout _ => true
  | .chgPauseExpired _ => true
  | .chgEocDwell _ => true
  | .chgSafetyTimer _ => true
  | .chgPlugAbsent _ => true
  | .chgEndingDone _ => true
  | .rsupOverload _ _ => true
  | .rsupLiveInlet _ => true
  | .svcPressStart _ _ => true
  | .svcLongPress _ => true
  | .svcRelease _ => true
  | .svcFullReset _ _ => true
  | .storageEnter _ => true
  | .storageWake _ cause _ => (match cause with
                              | .can k => k < 4
                              | _ => true)
  | .chopperFault _ => true
  | .thmUpdate _ e _ => e < 98
  | .thmSensorFault _ k => k < 14
  | .thmSensorRecover _ k => k < 14
  | .safeInputLineChange _ ch i _ _ => ch < 2 && i < 16
  | .safeInputDiscrepancy _ ch i => ch < 2 && i < 16
  | .testPulse _ k _ _ => k < 4
  | .stoReqChange _ pin _ => pin < 2
  | .stoReqDisc _ pin => pin < 2
  | .shlSupplyOpen _ k => k < 6
  | .supplyReadback _ k _ => k < 6
  | .sfpCycle _ _ => true
  | .continuityTimeout _ ch => ch < 2
  | .shlSs1Window _ g => g < 4
  | .ss1Deadline _ ch g => ch < 2 && g < 4
  | .shlSelfTestDone _ _ => true
  | .bslWatchdog _ c => c < 32
  | .bslDataSend _ c => c < 32
  | .descriptorFetch t sq op d _ => sq < 32 && op < 65536 && d.wf && d.t == t
  | .completionWrite _ sq => sq < 32
  | .irqCoalesceTimeout _ r => 32 ≤ r && r < 66
  | .dailiesRecord _ => true
  | .takeSuspendPoint _ h => h < 16
  | .takeStepDone _ h bytes _ => h < 16 && bytesOk bytes
  | .takeEnd _ h => h < 16
  | .takeTimeout _ h => h < 16
  | .functionLevelReset _ => true
  | .linkDown _ => true
  | .linkUp _ _ _ => true
  | .mbxDeadline _ c => c < 64
  | .mbxReceiverAck _ c => c < 64
  | .mbxInternalPost _ c ptr tag => c < 64 && ptr < 18446744073709551616 && tag < 4294967296
  | .canFrameReceived _ k f => k < 6 && bytesOk f.data
  | .canFrameSent _ k obj _ => k < 6 && obj < 128
  | .canTxFailed _ k obj _ _ => k < 6 && obj < 128
  | .canTxEligible _ k obj => k < 6 && obj < 128
  | .canBusOffRecovery _ k => k < 6
  | .canIntegrated _ k => k < 6
  | .canSelfCheckDone _ k _ => k < 6
  | .rplStatusFrame _ => true
  | .memScrub _ m _ _ _ => m < 7
  | .memRetired _ m _ => m < 7
  | .debugAccess _ auth => bytesOk auth
  | .lifecycleCommit _ _ => true
  | .powerOn _ _ => true
  | .bootDone _ => true
  | .supplyLow _ _ => true
  | .supplyBelow9v _ => true
  | .appWatchdog _ core => core < 4
  | .appWatchdogKick _ core => core < 4
  | .domainRunning _ d => 1 ≤ d && d ≤ 7
  | .partitionStart _ p => p < 6
  | .shlTapEdge _ i => i < 16
  | .msixVectorUnmask _ v => v < 64
  | .canRxError _ k _ => k < 6
  | .vioBankHeld _ x => x < 4
  | .vioBankReleased _ x => x < 4
  | .supplyRecovered _ => true

end Sys2Proof
end

