-- ==== Sys2Proof/Safety.lean ====
section
/-! DEFINITION. The words that the statements use: a command that completes, a ring command that its owner gets, the
completion it ends with, the events it raises, what it leaves alone, and the invariant of the machine. -/

namespace Sys2Proof.Machine

/-- Command c at s answers a next state, and P holds of it. -/
def Completes (c : Instr) (s : State) (P : State → Prop) : Prop := ∃ t, exec c s = .next t ∧ P t

/-! ### Ring commands -/

/-- The state in which a ring command is judged: its tick has come and HIF has its entry. -/
def State.received (s : State) (code : Nat) (d : Desc) : State := (s.advance d.t).enter code d

/-- HIF passes a ring command to its owner: supply good, no status of R463's steps 1 to 4, and its data buffer read
without an error. -/
def Accepts (code : Nat) (d : Desc) (s : State) : Prop :=
  s.supply.ok = true ∧ judge code d (s.received code d) = none ∧ d.dataErr = false

/-- HIF's entries once the ring command of d has its status, with a result, decided at tick done (R467). -/
def flightsDone (code : Nat) (d : Desc) (s : State) (st : Status) (res done : Nat) : List Flight :=
  decideFirst d.sq d.t { status := st, result := res, done := done } (s.received code d).hif.flights

/-- From s to t the ring command of d has completed at its tick with a status and a result, and that is all that has
happened to HIF's entries and to the effects that wait. -/
def Finishes (code : Nat) (d : Desc) (st : Status) (res : Nat) (s t : State) : Prop :=
  t.hif.flights = flightsDone code d s st res (max s.now d.t) ∧ t.hif.pend = s.hif.pend

/-- From s to t the ring command of d waits for a boundary with an effect, its status open (R467, R470). -/
def Waits (code : Nat) (d : Desc) (a : BoundaryAct) (s t : State) : Prop :=
  t.hif.flights = (s.received code d).hif.flights
  ∧ t.hif.pend = s.hif.pend ++ [{ sq := d.sq, op := code, tick := d.t, act := a }]

/-- In t the ring command of d, received at s, has completed at its tick with a status and a result. -/
def Answered (d : Desc) (st : Status) (res : Nat) (s t : State) : Prop :=
  ∃ f ∈ t.hif.flights, f.sq = d.sq ∧ f.fetch = d.t
    ∧ f.dec = some { status := st, result := res, done := max s.now d.t }

/-! ### Events -/

/-- The event counters and the log of records after event n was raised at tick now (R504). -/
def Evr.raised (e : Evr) (now n : Nat) (payload : List Nat) : Evr :=
  { e with cnt := put e.cnt n (satInc 65535 (getD e.cnt n 0)), log := (n, now, payload) :: e.log }

/-- From s to t exactly these events were raised, in order, at t's tick; none is while PD_HOST is down (R504, R596). -/
def Raises (l : List (Nat × List Nat)) (s t : State) : Prop :=
  t.evr = if s.up dHost then l.foldl (fun e x => e.raised t.now x.1 x.2) s.evr else s.evr

/-- From s to t event n was raised with a payload, among others perhaps, unless PD_HOST is down (R504, R596). -/
def Raised (n : Nat) (payload : List Nat) (s t : State) : Prop :=
  s.up dHost = true → ∃ new, t.evr.log = new ++ s.evr.log ∧ (n, t.now, payload) ∈ new

/-- From s to t HIF has at most written records and signalled vectors: its rings' records, what it has sent, its pending
vectors and the dailies' count of events. -/
def HostTold (s t : State) : Prop :=
  t.hif = { s.hif with rings := t.hif.rings, sent := t.hif.sent, pendingVec := t.hif.pendingVec,
                       dlyEvents := t.hif.dlyEvents }

/-! ### The trip matrix -/

/-- CROSSg is asserted exactly while group g is LATCHED (Table 4.3). -/
def CrossFollows (s : State) : Prop := ∀ g < 16, (s.grp g).st = .latched ↔ 350 + g ∈ s.trm.srcs

/-- From s to t nothing has changed outside the trip matrix and what follows a leg group: the modulator, the gate
channels, commutation units, rails, the power path, precedence, DC link management, program swaps, HIF and events. -/
def TrmFrame (s t : State) : Prop :=
  t = { s with now := t.now, trm := t.trm, mod := t.mod, gdv := t.gdv, cmus := t.cmus, rails := t.rails, ppm := t.ppm
               prec := t.prec, dcl := t.dcl, lpe := t.lpe, hif := t.hif, evr := t.evr }

/-! ### The commutation units -/

/-- In t unit u is in a state that floats its bridge, entered at t's latest boundary, with a cause (R221, R224, Table 9.3). -/
def CmuRests (u : Nat) (x : CmuSt) (cause : Nat) (t : State) : Prop :=
  (t.cmu u).st = x ∧ (t.cmu u).since = t.boundNow ∧ (t.cmu u).cause = cause ∧ ∀ n ∈ cmuLegs u, (t.leg n).enabled = false

/-- From s to t unit u has entered a driving state with its bridge enabled, all low sides on in BRAKE and PRECHARGE, and EV109
on RUN; where a leg fails R72 it is in FAULT with cause CFG, EV108 and EV110 (R221, R228, R230). -/
def CmuDrives (u : Nat) (x : CmuSt) (s t : State) : Prop :=
  ((cmuLegs u).all s.legOk = true → (t.cmu u).st = x ∧ (t.cmu u).since = t.boundNow
      ∧ (∀ n ∈ cmuLegs u, (t.leg n).enabled = true ∧ (x = .brake ∨ x = .precharge → (t.leg n).shadow.tc = 0))
      ∧ (x = .run → Raised 109 [u, (t.cmu u).outcome, toBits 32 (t.cmuRpm u)] s t))
  ∧ ((cmuLegs u).all s.legOk = false → CmuRests u .fault 8 t ∧ Raised 108 [u, 8] s t ∧ Raised 110 [u, 8] s t)

/-- From s to t only unit u, its legs, HIF's records and events have changed. -/
def CmuFrame (u : Nat) (s t : State) : Prop :=
  (∀ k, k ≠ u → t.cmu k = s.cmu k) ∧ (∀ n, n ∉ cmuLegs u → t.leg n = s.leg n)
  ∧ t.hif.flights = s.hif.flights ∧ t.hif.pend = s.hif.pend
  ∧ t = { s with now := t.now, cmus := t.cmus, mod := { s.mod with legs := t.mod.legs }, hif := t.hif, evr := t.evr }

/-! ### The implement power rails -/

/-- From s to t only rail r, the legs of its fitted phases, HIF's records and events have changed. -/
def RailFrame (r : Nat) (s t : State) : Prop :=
  (∀ k, k ≠ r → t.rail k = s.rail k) ∧ (∀ n, (∀ p ∈ s.fitted r, n ≠ railLeg r p) → t.leg n = s.leg n)
  ∧ t.hif.flights = s.hif.flights ∧ t.hif.pend = s.hif.pend
  ∧ t = { s with now := t.now, rails := t.rails, mod := { s.mod with legs := t.mod.legs }, hif := t.hif, evr := t.evr }

/-- From s to t rail r has entered a state with a cause, in which its active legs are enabled or its fitted legs disabled, and
EV160 has reported it; entering READY, OFF or LATCHED has closed an open transition (R317, R337, Table 13.2). -/
def RailEnters (r : Nat) (x : RailSt) (cause : Nat) (s t : State) : Prop :=
  (t.rail r).st = x ∧ (t.rail r).cause = cause ∧ (t.rail r).since = s.tbu.lastB ∧ Raised 160 [r, x.code, cause] s t
  ∧ (x = .softstart ∨ x = .run → ∀ p ∈ s.activePhases r, (t.leg (railLeg r p)).enabled = true)
  ∧ (x ≠ .softstart → x ≠ .run → ∀ p ∈ s.fitted r, (t.leg (railLeg r p)).enabled = false)
  ∧ (x = .ready ∨ x = .off ∨ x = .latched → (t.rail r).trans = none
      ∧ ∀ q dl, (s.rail r).trans = some (q, dl) → Raised 166 [r, q, 3] s t)

/-! ### The power path -/

/-- From s to t only the power path, its contactor outputs, the charger's legs, the contexts' host slots, precedence, HIF and
events have changed. -/
def PpmFrame (s t : State) : Prop :=
  t = { s with now := t.now, ppm := t.ppm, aon := { s.aon with drive := t.aon.drive }
               mod := { s.mod with legs := t.mod.legs }, lpe := { s.lpe with ctxs := t.lpe.ctxs }, prec := t.prec
               free := t.free, hif := t.hif, evr := t.evr }
  ∧ ∀ n, n < 24 ∨ 32 ≤ n → t.leg n = s.leg n

/-! ### The safety channels -/

/-- In t the demands of both channels act outside them: the trip sources while PD_CTRL runs, the supply-enable lines, which
are open or about to open, and the STO states that EV13 reports (R405 to R407). -/
def SafeFollows (t : State) : Prop :=
  (t.up dCtrl = true →
    (∀ k < 6, 328 + k ∈ t.trm.srcs ↔ bitAt t.saf.shl.dem k = true)
    ∧ ∀ g < 16, 334 + g ∈ t.trm.srcs ↔ ∃ k < 6, bitAt t.saf.sfp.dem k = true ∧ g ∈ t.stoGroups k)
  ∧ ∀ k < 6, bitAt t.saf.sto k = t.inSto k
      ∧ (t.inSto k = true → bitAt t.saf.opened k = true ∨ ∃ x ∈ t.saf.openAt, x.1 = k)
      ∧ (t.inSto k = false → bitAt t.saf.opened k = false)

/-- From s to t nothing has changed outside the safety channels, the trip matrix and what follows a leg group. -/
def ChanFrame (s t : State) : Prop :=
  t = { s with now := t.now, saf := t.saf, trm := t.trm, mod := t.mod, gdv := t.gdv, cmus := t.cmus, rails := t.rails
               ppm := t.ppm, prec := t.prec, dcl := t.dcl, lpe := t.lpe, hif := t.hif, evr := t.evr }

/-- In t channel ch is in SAFE_FAULT, and demands STO of every group (R422). -/
def SafeFaulted (ch : Nat) (t : State) : Prop := (t.safeCh ch).fault = true ∧ ∀ k < 6, bitAt (t.safeCh ch).dem k = true

/-! ### The invariant of the machine, and what the configuration lock keeps -/

/-- v may stand in the set-up register with key k: a 32-bit word in which every bit that is neither RWL nor RW is as at
reset (Table 0.4). -/
def RegWord (k v : Nat) : Prop :=
  ∃ r, regRow? k = some r ∧ v < 2 ^ 32
    ∧ v &&& (0xFFFFFFFF ^^^ (r.rwl ||| r.rw)) = r.reset &&& (0xFFFFFFFF ^^^ (r.rwl ||| r.rw))

/-- The invariant of the machine: the register file is in its canonical form and holds no reserved bit that reset does not
give, a lock that is complete is accepted and shows its result, no item has failed before it, and what it keeps of PD_IMPL's
selects are values of selects (R246, R578, R580, R584, Table 25.4). -/
def State.Inv (s : State) : Prop :=
  (s.regs.map (·.1)).Pairwise (· < ·) ∧ (∀ x ∈ s.regs, RegWord x.1 x.2.toNat)
  ∧ (s.lock.done = true → s.lock.locked = true) ∧ (s.lock.result = 1 ↔ s.lock.done = true)
  ∧ (s.lock.done = false → s.lock.fail = 0) ∧ ∀ x ∈ s.lock.sels, x.1 ∈ implSels ∧ RegWord x.1 x.2

/-- The select registers, which stay writable after lock (R582). -/
def windowSelects : List Nat := [0x3820, 0x3840, 0x3F00, 0x4090, 0x42A0, 0x4C04, 0x4C40, 0x5A00, 0x6400]

/-- The set-up registers that takes write: the coefficients of TK8 and the offset of TK12 (R487). -/
def Calibrated (k : Nat) : Prop := (∃ e < 98, ∃ i < 5, k = estKey e + 0x14 + 4 * i) ∨ ∃ p < 4, k = rsvBase p

/-- The commands that can be, or can let go on, a reset that clears CONFIG_LOCK (Table 23.2). -/
def clearsLock : Instr → Bool
  | .powerOn .. | .svcFullReset .. | .storageEnter .. | .storageWake .. | .lifecycleCommit .. => true
  | .completionWrite .. | .msixVectorUnmask .. => true
  | .functionLevelReset .. | .linkDown .. | .vioBankHeld .. => true
  | _ => false

/-- c is POWER_ON. -/
def isPowerOn : Instr → Bool
  | .powerOn .. => true
  | _ => false

/-- c is TAKE_STEP_DONE. -/
def isTakeStep : Instr → Bool
  | .takeStepDone .. => true
  | _ => false

end Sys2Proof.Machine
end

