-- ==== Sys2Proof/Certificates/Slice0/Obligations.lean ====
section
/-! DEFINITION. The statements for the provers. -/

open Sys2Proof Sys2Proof.Machine

/-! ### Rings and the admin pair (chapter 19) -/

/-- R478, R479: NOP completes with OK and changes nothing.  RING_CREATE is REFUSED, with nothing changed, off SQ0, for a
ring that exists, for an SQ whose CQ does not exist, for a size that is no power of two from 16 to 4,096 and for a base
off 4 KiB; otherwise the ring is ACTIVE and empty with its parameters, and, unless it is
the EVQ (which then receives the EV249 records kept for it, R561), no other ring changes.
RING_DELETE is REFUSED off SQ0, for a ring that does not exist, for SQ0 and CQ0, and for a CQ that an SQ is bound to;
otherwise the ring is ABSENT and every other ring stays.
R457, Table 19.9: a full write of HIF_ADM_CTL that sets en while en = 0 sets up SQ0 (URGENT) and CQ0, both empty, when
both sizes are from 16 to 4,096 entries and the runtime has booted; else err is set and en reads 0.  While en = 1 a write
that keeps en = 1 changes nothing, and a write of en = 0 leaves no ring. -/
def Obligations.RingCommands : Prop :=
  ((∀ (s : State) d, Accepts 0x0001 d s → Completes (.nop d) s (fun t => Finishes 0x0001 d .ok 0 s t
      ∧ t = { s with now := max s.now d.t, hif := { s.hif with flights := t.hif.flights } }))
  ∧ (∀ (s : State) d, Accepts 0x0002 d s →
      (d.sq ≠ 0 ∨ (s.ring d.target).st ≠ .absent ∨ (d.target < 32 ∧ (s.ring (32 + d.par 0)).st = .absent)
        ∨ (∀ k, 4 ≤ k → k ≤ 12 → d.count ≠ 2 ^ k) ∨ d.addr % 4096 ≠ 0) →
      Completes (.ringCreate d) s (fun t => Finishes 0x0002 d .refused 0 s t
        ∧ t = { s with now := max s.now d.t, hif := { s.hif with flights := t.hif.flights } }))
  ∧ (∀ (s : State) d k, Accepts 0x0002 d s → d.sq = 0 → (s.ring d.target).st = .absent →
      (d.target < 32 → (s.ring (32 + d.par 0)).st ≠ .absent) → 4 ≤ k → k ≤ 12 → d.count = 2 ^ k → d.addr % 4096 = 0 →
      Completes (.ringCreate d) s (fun t => Finishes 0x0002 d .ok 0 s t
        ∧ t = { s with now := max s.now d.t, hif := t.hif, gaf := t.gaf, evr := t.evr }
        ∧ (t.ring d.target).st = .active ∧ (t.ring d.target).lg = k ∧ (t.ring d.target).base = d.addr
        ∧ (d.target ≠ evq → (t.ring d.target).head = 0 ∧ (t.ring d.target).tail = 0)
        ∧ (d.target < 32 → (t.ring d.target).bound = d.par 0 ∧ (t.ring d.target).urgent = (d.par 1 == 1))
        ∧ (32 ≤ d.target → (t.ring d.target).vec = d.par 0 ∧ (t.ring d.target).aggCnt = d.par 1
            ∧ (t.ring d.target).aggUs = d.par 2)
        ∧ (d.target ≠ evq → t.gaf = s.gaf ∧ t.evr = s.evr ∧ ∀ r, r ≠ d.target → t.ring r = s.ring r)))
  ∧ (∀ (s : State) d, Accepts 0x0003 d s →
      (d.sq ≠ 0 ∨ (s.ring d.target).st = .absent ∨ d.target = 0 ∨ d.target = 32
        ∨ ∃ q r, (q, r) ∈ s.hif.rings ∧ q < 32 ∧ r.st ≠ .absent ∧ 32 + r.bound = d.target) →
      Completes (.ringDelete d) s (fun t => Finishes 0x0003 d .refused 0 s t
        ∧ t = { s with now := max s.now d.t, hif := { s.hif with flights := t.hif.flights } }))
  ∧ (∀ (s : State) d, Accepts 0x0003 d s → d.sq = 0 → (s.ring d.target).st ≠ .absent → d.target ≠ 0 → d.target ≠ 32 →
      (∀ q r, (q, r) ∈ s.hif.rings → q < 32 → r.st ≠ .absent → 32 + r.bound ≠ d.target) →
      Completes (.ringDelete d) s (fun t => Finishes 0x0003 d .ok 0 s t
        ∧ t = { s with now := max s.now d.t
                       hif := { s.hif with flights := t.hif.flights, rings := t.hif.rings } }
        ∧ (t.ring d.target).st = .absent ∧ ∀ r, r ≠ d.target → t.ring r = s.ring r)))
  ∧ ((∀ (s : State) t0 val, s.supply.ok = true → s.up dHost = true → s.hif.admEn = false → bitAt val 31 = true →
      s.gaf.bootDone = true → 4 ≤ bits val 23 20 → bits val 23 20 ≤ 12 → 4 ≤ bits val 19 16 → bits val 19 16 ≤ 12 →
      Completes (.adminPairEnable t0 val 15) s (fun t => t = { s with now := max s.now t0, hif := t.hif }
        ∧ t.hif.admEn = true ∧ t.hif.admRdy = true ∧ t.hif.admErr = false ∧ t.hif.admVec = bits val 5 0
        ∧ (t.ring 0).st = .active ∧ (t.ring 0).urgent = true ∧ (t.ring 0).head = 0 ∧ (t.ring 0).tail = 0
        ∧ (t.ring 0).lg = bits val 23 20 ∧ (t.ring 0).base = s.hif.sqBase
        ∧ (t.ring 32).st = .active ∧ (t.ring 32).head = 0 ∧ (t.ring 32).tail = 0 ∧ (t.ring 32).lg = bits val 19 16
        ∧ (t.ring 32).base = s.hif.cqBase ∧ (t.ring 32).vec = bits val 5 0 ∧ (t.ring 32).aggCnt = 1 ∧ (t.ring 32).aggUs = 0
        ∧ t.hif.sqBase = s.hif.sqBase ∧ t.hif.cqBase = s.hif.cqBase ∧ t.hif.flights = s.hif.flights))
  ∧ (∀ (s : State) t0 val, s.supply.ok = true → s.up dHost = true → s.hif.admEn = false → bitAt val 31 = true →
      (s.gaf.bootDone = false ∨ bits val 23 20 < 4 ∨ 12 < bits val 23 20 ∨ bits val 19 16 < 4 ∨ 12 < bits val 19 16) →
      Completes (.adminPairEnable t0 val 15) s (fun t => t = { s with now := max s.now t0, hif := t.hif }
        ∧ t.hif.admEn = false ∧ t.hif.admErr = true ∧ t.hif.rings = s.hif.rings))
  ∧ (∀ (s : State) t0 val, s.supply.ok = true → s.up dHost = true → s.hif.admEn = true → bitAt val 31 = true →
      Completes (.adminPairEnable t0 val 15) s (fun t => t = { s with now := max s.now t0 }))
  ∧ (∀ (s : State) t0 val, s.supply.ok = true → s.up dHost = true → s.hif.admEn = true → bitAt val 31 = false →
      Completes (.adminPairDisable t0 val 15) s (fun t => t = { s with now := max s.now t0, hif := t.hif }
        ∧ t.hif.admEn = false ∧ t.hif.admRdy = false ∧ (∀ r, (t.ring r).st = .absent)
        ∧ t.hif.flights = s.hif.flights ∧ t.hif.sqBase = s.hif.sqBase ∧ t.hif.cqBase = s.hif.cqBase)))

/-- R459, R462, Table 19.2: on an ACTIVE ring a doorbell value below the size becomes the tail of an SQ or the head of a
CQ, the EVQ or the DLY, and nothing else changes; a ring that does not exist or is in ERROR ignores it; a value of size or
more puts the ring into ERROR with EV232, and with a CQ every active SQ bound to it.
R460, R463, R466, R468, R469.  A fetch takes place only from an ACTIVE SQ that is not empty and whose CQ has an entry
to reserve; a FENCE descriptor only once every descriptor fetched from its SQ is decided; from a NORMAL SQ only while no
URGENT SQ offers a fetch.  A descriptor that is received advances the head, reserves one completion entry and makes one
entry of HIF, decided at once when steps 1 to 4 of R463 give a status (no two commands share a tick, R465).  A read error
puts the SQ into ERROR with EV232 and writes no entry.  A full CQ holds the fetch back. -/
def Obligations.Doorbells : Prop :=
  ((∀ (s : State) t0 j val, s.supply.ok = true → s.up dHost = true → j < 32 → (s.ring j).st = .active → val < (s.ring j).size →
      Completes (.sqTailDoorbell t0 j val) s (fun t =>
        t = { s with now := max s.now t0, hif := { s.hif with rings := t.hif.rings } }
        ∧ t.ring j = { s.ring j with tail := val } ∧ ∀ r, r ≠ j → t.ring r = s.ring r))
  ∧ (∀ (s : State) t0 j val, s.supply.ok = true → s.up dHost = true → j < 32 → (s.ring (32 + j)).st = .active →
      val < (s.ring (32 + j)).size →
      Completes (.cqHeadDoorbell t0 j val) s (fun t =>
        t = { s with now := max s.now t0, hif := { s.hif with rings := t.hif.rings } }
        ∧ t.ring (32 + j) = { s.ring (32 + j) with head := val } ∧ ∀ r, r ≠ 32 + j → t.ring r = s.ring r))
  ∧ (∀ (s : State) t0 val, s.supply.ok = true → s.up dHost = true → (s.ring evq).st = .active → val < (s.ring evq).size →
      Completes (.evqHeadDoorbell t0 val) s (fun t =>
        t = { s with now := max s.now t0, hif := { s.hif with rings := t.hif.rings } }
        ∧ t.ring evq = { s.ring evq with head := val } ∧ ∀ r, r ≠ evq → t.ring r = s.ring r))
  ∧ (∀ (s : State) t0 val, s.supply.ok = true → s.up dHost = true → (s.ring dly).st = .active → val < (s.ring dly).size →
      Completes (.dlyHeadDoorbell t0 val) s (fun t =>
        t = { s with now := max s.now t0, hif := { s.hif with rings := t.hif.rings } }
        ∧ t.ring dly = { s.ring dly with head := val } ∧ ∀ r, r ≠ dly → t.ring r = s.ring r))
  ∧ (∀ (s : State) t0 j val, s.supply.ok = true → j < 32 → ((s.ring j).st = .absent ∨ (s.ring j).st = .error) →
      Completes (.sqTailDoorbell t0 j val) s (fun t => t = { s with now := max s.now t0 }))
  ∧ (∀ (s : State) t0 j val, s.supply.ok = true → s.up dHost = true → j < 32 → (s.ring j).st = .active → (s.ring j).size ≤ val →
      Completes (.sqTailDoorbell t0 j val) s (fun t => (t.ring j).st = .error ∧ Raises [(232, [j, val])] s t
        ∧ t = { s with now := max s.now t0, hif := t.hif, evr := t.evr } ∧ HostTold s t))
  ∧ (∀ (s : State) t0 j val, s.supply.ok = true → s.up dHost = true → j < 32 → (s.ring (32 + j)).st = .active →
      (s.ring (32 + j)).size ≤ val →
      Completes (.cqHeadDoorbell t0 j val) s (fun t => (t.ring (32 + j)).st = .error
        ∧ (∀ q r, (q, r) ∈ s.hif.rings → q < 32 → r.st = .active → r.bound = j → (t.ring q).st = .error)
        ∧ t = { s with now := max s.now t0, hif := t.hif, evr := t.evr } ∧ HostTold s t)))
  ∧ ((∀ (s : State) q fence, s.mayFetch q fence = true →
      (s.ring q).st = .active ∧ (s.ring q).head ≠ (s.ring q).tail ∧ (s.ring (32 + (s.ring q).bound)).st = .active
      ∧ (s.ring (32 + (s.ring q).bound)).used + (s.ring (32 + (s.ring q).bound)).reserved + 1
          < (s.ring (32 + (s.ring q).bound)).size
      ∧ (fence = true → ∀ f ∈ s.hif.flights, f.sq = q → f.dec.isSome = true)
      ∧ ((s.ring q).urgent = false → ∀ x < 32, (s.ring x).urgent = true → s.fetchRoom x = true → s.sqDone x = false))
  ∧ (∀ (s : State) t0 q op d, s.supply.ok = true → s.up dHost = true → (s.advance t0).mayFetch q (bitAt d.flags 0) = true →
      (∀ f ∈ s.hif.flights, f.fetch ≠ d.t) →
      Completes (.descriptorFetch t0 q op d false) s (fun t =>
        t = { s with now := max s.now t0
                     hif := { s.hif with rings := t.hif.rings, flights := t.hif.flights, lastUrgent := t.hif.lastUrgent,
                                         lastNormal := t.hif.lastNormal, lastFetch := t.hif.lastFetch } }
        ∧ (t.ring q).head = ((s.ring q).head + 1) % (s.ring q).size ∧ (t.ring q).tail = (s.ring q).tail
        ∧ (t.ring (32 + (s.ring q).bound)).reserved = (s.ring (32 + (s.ring q).bound)).reserved + 1
        ∧ (∀ r, r ≠ q → r ≠ 32 + (s.ring q).bound → t.ring r = s.ring r)
        ∧ t.hif.flights = s.hif.flights ++ [{
            sq := q, cmdId := d.cmdId, op := op, irq := bitAt d.flags 1, fetch := d.t
            sqHead := ((s.ring q).head + 1) % (s.ring q).size, fromRing := true
            dec := (judge op d s).map (fun st => { status := st, result := 0, done := max s.now t0 }) }]))
  ∧ (∀ (s : State) t0 q op d, s.supply.ok = true → s.up dHost = true → (s.advance t0).mayFetch q (bitAt d.flags 0) = true →
      Completes (.descriptorFetch t0 q op d true) s (fun t =>
        t = { s with now := max s.now t0, hif := t.hif, evr := t.evr } ∧ HostTold s t
        ∧ (t.ring q).st = .error ∧ Raises [(232, [q, (s.ring q).head])] s t))
  ∧ (∀ (s : State) t0 q op d e, s.supply.ok = true →
      (s.ring (32 + (s.ring q).bound)).size
        ≤ (s.ring (32 + (s.ring q).bound)).used + (s.ring (32 + (s.ring q).bound)).reserved + 1 →
      Completes (.descriptorFetch t0 q op d e) s (fun t => t = { s with now := max s.now t0 })))

/-- R459, R471, R473.  The oldest command of an SQ writes its completion to its CQ once it is decided: one entry at the
tail, with the ring's phase, its reserved entry freed; while it is undecided nothing is written, whatever later commands
wait.  When agg_us has passed since the oldest unsignalled entry, the ring's vector is sent, or set pending while it is
masked; unmasking a vector sends its pending message.
R461, R476, Table 19.10: a record that is due is written at the DLY's tail with the boundary's tick and the sequence
number, flagged LOST after a drop, its next tick lies beyond the latest boundary, and the counts it carries start again; a
full DLY drops it, counts it with EV234, and the sequence number advances all the same. -/
def Obligations.CompletionsAndInterrupts : Prop :=
  ((∀ (s : State) t0 q f dec, s.supply.ok = true → s.up dHost = true →
      s.hif.flights.find? (fun f => f.sq == q) = some f → f.dec = some dec → f.fromRing = true →
      (s.ring (32 + (s.ring q).bound)).st = .active → (∀ x ∈ s.gaf.resets, x.1 ≠ 0 ∧ x.1 ≠ dHost) →
      Completes (.completionWrite t0 q) s (fun t =>
        t = { s with now := max s.now t0
                     hif := { s.hif with rings := t.hif.rings, flights := t.hif.flights, sent := t.hif.sent
                                         pendingVec := t.hif.pendingVec } }
        ∧ t.hif.flights = s.hif.flights.erase f
        ∧ (∃ l, t.hif.sent = l ++ .cpl (s.ring q).bound (s.ring (32 + (s.ring q).bound)).tail
              (s.ring (32 + (s.ring q).bound)).phase f dec :: s.hif.sent ∧ ∀ m ∈ l, ∃ v, m = .msix v)
        ∧ (t.ring (32 + (s.ring q).bound)).tail
            = ((s.ring (32 + (s.ring q).bound)).tail + 1) % (s.ring (32 + (s.ring q).bound)).size
        ∧ (t.ring (32 + (s.ring q).bound)).reserved = (s.ring (32 + (s.ring q).bound)).reserved - 1
        ∧ (t.ring (32 + (s.ring q).bound)).phase
            = (if (s.ring (32 + (s.ring q).bound)).tail + 1 = (s.ring (32 + (s.ring q).bound)).size
               then !(s.ring (32 + (s.ring q).bound)).phase else (s.ring (32 + (s.ring q).bound)).phase)))
  ∧ (∀ (s : State) t0 q f, s.supply.ok = true → s.hif.flights.find? (fun f => f.sq == q) = some f → f.dec = none →
      Completes (.completionWrite t0 q) s (fun t => t = { s with now := max s.now t0 }))
  ∧ (∀ (s : State) t0 r, s.supply.ok = true → s.up dHost = true → 32 ≤ r → (s.ring r).st ≠ .absent → 0 < (s.ring r).unsig →
      0 < (s.ring r).aggUs → (s.ring r).oldest + (s.ring r).aggUs * ticksPerUs ≤ max s.now t0 →
      Completes (.irqCoalesceTimeout t0 r) s (fun t =>
        (s.hif.unmasked.contains (s.ring r).vec = true →
          t.hif.sent = .msix (s.ring r).vec :: s.hif.sent ∧ t.hif.pendingVec = s.hif.pendingVec
          ∧ ∀ x, 32 ≤ x → (s.ring x).vec = (s.ring r).vec → (t.ring x).unsig = 0)
        ∧ (s.hif.unmasked.contains (s.ring r).vec = false →
          t.hif.sent = s.hif.sent ∧ (s.ring r).vec ∈ t.hif.pendingVec ∧ t.hif.rings = s.hif.rings)
        ∧ t = { s with now := max s.now t0, hif := t.hif }))
  ∧ (∀ (s : State) t0 v, s.supply.ok = true → s.up dHost = true → v < 64 → s.gaf.sendOff = none →
      Completes (.msixVectorUnmask t0 v) s (fun t =>
        v ∈ t.hif.unmasked ∧ v ∉ t.hif.pendingVec
        ∧ t.hif.sent = (if s.hif.pendingVec.contains v then .msix v :: s.hif.sent else s.hif.sent)
        ∧ t = { s with now := max s.now t0
                       hif := { s.hif with unmasked := t.hif.unmasked, pendingVec := t.hif.pendingVec
                                           sent := t.hif.sent, rings := t.hif.rings } })))
  ∧ ((∀ (s : State) t0, s.supply.ok = true → s.dlyRuns = true → 0 < s.hif.dlyNext → s.hif.dlyNext ≤ s.tbu.lastB →
      (s.ring dly).full = false →
      Completes (.dailiesRecord t0) s (fun t =>
        (∃ l n sto groups ecc evs items,
          t.hif.sent = l ++ .dailies (s.ring dly).tail (s.ring dly).phase (decide (0 < (s.ring dly).lost)) n (s.ring dly).seq
            s.tbu.lastB s.boundary s.gaf.coreNow.code s.safeState sto groups ecc evs items :: s.hif.sent
          ∧ groups = (List.range 16).map (fun g => (s.grp g).st.code) ∧ ecc = s.hif.dlyEcc ∧ evs = s.hif.dlyEvents
          ∧ items.length = 48)
        ∧ (t.ring dly).tail = ((s.ring dly).tail + 1) % (s.ring dly).size ∧ (t.ring dly).lost = 0
        ∧ (t.ring dly).seq = ((s.ring dly).seq + 1) % 2 ^ 32
        ∧ t.hif.dlyEcc = 0 ∧ t.hif.dlyEvents = 0
        ∧ t = { s with now := max s.now t0, hif := t.hif }))
  ∧ (∀ (s : State) t0, s.supply.ok = true → s.dlyRuns = true → 0 < s.hif.dlyNext → s.hif.dlyNext ≤ s.tbu.lastB →
      (s.ring dly).full = true →
      Completes (.dailiesRecord t0) s (fun t =>
        (t.ring dly).tail = (s.ring dly).tail ∧ (t.ring dly).lost = (s.ring dly).lost + 1
        ∧ (t.ring dly).seq = ((s.ring dly).seq + 1) % 2 ^ 32 ∧ Raises [(234, [(s.ring dly).lost + 1])] s t
        ∧ t = { s with now := max s.now t0, hif := t.hif, evr := t.evr })))

/-- R455, R456, R489, R561.  The link comes up with EV237 in the widths ×1, ×2 and ×4 and up to 16 GT/s.  A loss of the link or a Function Level Reset resets PD_HOST and
nothing else: with no take in progress, every ring is deleted, en of HIF_ADM_CTL and the HIF_ADM_* fields have their reset
values, no event or mailbox message is left, GAF_CAUSE records the reset, and no block outside PD_HOST changes but the
aborted frames of host queues and the wiped memories of the domain; after lock the registers keep their values. -/
def Obligations.LinkAndFunctionReset : Prop :=
  (∀ (s : State) t0 w r, s.supply.ok = true → s.up dHost = true → s.hif.link = false → s.gaf.vioHeld.contains 0 = false →
      endpoint.links w r = true →
      Completes (.linkUp t0 w r) s (fun t => t.hif.link = true ∧ Raises [(237, [1, w, r])] s t
        ∧ t = { s with now := max s.now t0, hif := t.hif, evr := t.evr }))
  ∧ (∀ (s : State) t0 w r, s.supply.ok = true → endpoint.links w r = false →
      Completes (.linkUp t0 w r) s (fun t => t = { s with now := max s.now t0 }))
  ∧ (∀ w r, endpoint.links w r = true ↔ (w = 1 ∨ w = 2 ∨ w = 4) ∧ 1 ≤ r ∧ r ≤ 4)
  ∧ (∀ (s : State) t0, s.supply.ok = true → s.up dHost = true → s.hif.link = true → s.lock.locked = true →
      (∀ x ∈ s.hif.takes, x.2.busy = false) → (∀ x ∈ s.gaf.resets, x.1 ≠ 0) → s.gaf.sendOff = none →
      Completes (.linkDown t0) s (fun t => t.hif.link = false ∧ t.domSt dHost = .inReset
        ∧ (∀ r, t.ring r = {}) ∧ t.hif.admEn = false ∧ t.hif.admRdy = false ∧ t.hif.sqBase = 0 ∧ t.hif.cqBase = 0
        ∧ t.hif.sqLg = 4 ∧ t.hif.cqLg = 4 ∧ t.hif.takes = [] ∧ (∀ c, (t.mbxCh c).slot = .empty)
        ∧ t.gaf.cause = 8 ∧ t.gaf.domains = 0x20 ∧ t.gaf.rstCnt = satInc 65535 s.gaf.rstCnt
        ∧ t = { s with now := max s.now t0, hif := t.hif, evr := t.evr, gaf := t.gaf, mbx := t.mbx, cans := t.cans
                       mem := t.mem }))
  ∧ (∀ (s : State) t0, s.supply.ok = true → s.up dHost = true → s.hif.link = true → s.lock.locked = true →
      (∀ x ∈ s.hif.takes, x.2.busy = false) → (∀ x ∈ s.gaf.resets, x.1 ≠ 0) → s.gaf.sendOff = none →
      Completes (.functionLevelReset t0) s (fun t => t.hif.link = true ∧ t.domSt dHost = .inReset
        ∧ (∀ r, t.ring r = {}) ∧ t.hif.admEn = false ∧ t.hif.admRdy = false ∧ t.hif.sqBase = 0 ∧ t.hif.cqBase = 0
        ∧ t.hif.sqLg = 4 ∧ t.hif.cqLg = 4 ∧ t.hif.takes = [] ∧ (∀ c, (t.mbxCh c).slot = .empty)
        ∧ t.gaf.cause = 7 ∧ t.gaf.domains = 0x20 ∧ t.gaf.rstCnt = satInc 65535 s.gaf.rstCnt
        ∧ t = { s with now := max s.now t0, hif := t.hif, evr := t.evr, gaf := t.gaf, mbx := t.mbx, cans := t.cans
                       mem := t.mem }))

/-! ### The trip matrix (chapter 04) -/

/-- R92 to R94, R99, R103, R104, Table 4.12.  GRP_ENABLE is REFUSED outside DISABLED and on an illegal configuration (with
EV11); with a latch set the group is LATCHED; with none, and no routed source asserted once its monitors are read, it is
in STARTUP with EV12.  GRP_DISABLE is accepted in every state and leaves the latch.  GRP_RUN is accepted in STARTUP with no
routed source asserted, with EV3, and REFUSED otherwise.  TRIP_CLEAR is REFUSED outside LATCHED, returns TRIP_PERSISTS with
EV4 while a routed source is asserted, and otherwise starts RECOVERY with EV2, its deadline rec_ms later; where it would be
the third recovery within 60 s it completes with OK and result 1, EV8, and the group stays LATCHED. -/
def Obligations.GroupCommands : Prop :=
  (∀ (s : State) d, Accepts 0x0100 d s → (s.grp d.target).st ≠ .disabled →
      Completes (.grpEnable d) s (fun t => Answered d .refused 0 s t ∧ t.trm = s.trm ∧ TrmFrame s t))
  ∧ (∀ (s : State) d, Accepts 0x0100 d s → (s.grp d.target).st = .disabled → s.grpOk d.target = false →
      Completes (.grpEnable d) s (fun t => Answered d .refused 0 s t ∧ (t.grp d.target).st = .disabled
        ∧ Raised 11 [d.target] s t ∧ (∀ g, g ≠ d.target → t.grp g = s.grp g) ∧ TrmFrame s t))
  ∧ (∀ (s : State) d, Accepts 0x0100 d s → (s.grp d.target).st = .disabled → s.grpOk d.target = true →
      (∀ c ∈ s.groupChs d.target, s.chOk c = true) → (s.grp d.target).latch = true →
      Completes (.grpEnable d) s (fun t => Answered d .ok 0 s t ∧ (t.grp d.target).st = .latched
        ∧ (t.grp d.target).latch = true ∧ (t.grp d.target).forced = true ∧ TrmFrame s t))
  ∧ (∀ (s : State) d, Accepts 0x0100 d s → (s.grp d.target).st = .disabled → s.grpOk d.target = true →
      (∀ c ∈ s.groupChs d.target, s.chOk c = true) → (s.grp d.target).latch = false → CrossFollows s →
      (∀ n ∈ s.trm.srcs, srcKind n ≠ 1 ∧ s.routed n d.target = false) →
      Completes (.grpEnable d) s (fun t => Answered d .ok 0 s t ∧ (t.grp d.target).st = .startup
        ∧ (t.grp d.target).forced = false ∧ (t.grp d.target).hasCause = false ∧ Raised 12 [d.target] s t
        ∧ (∀ g, g ≠ d.target → t.grp g = s.grp g) ∧ TrmFrame s t))
  ∧ (∀ (s : State) d, Accepts 0x0101 d s →
      Completes (.grpDisable d) s (fun t => Answered d .ok 0 s t ∧ (t.grp d.target).st = .disabled
        ∧ (t.grp d.target).latch = (s.grp d.target).latch ∧ TrmFrame s t))
  ∧ (∀ (s : State) d, Accepts 0x0102 d s → (s.grp d.target).st = .startup → s.routedOn d.target = [] →
      Completes (.grpRun d) s (fun t => Answered d .ok 0 s t ∧ (t.grp d.target).st = .run
        ∧ (t.grp d.target).kinds = [] ∧ (t.grp d.target).maxSev = 0 ∧ Raised 3 [d.target] s t
        ∧ t.trm.srcs = s.trm.srcs ∧ (∀ g, g ≠ d.target → t.grp g = s.grp g) ∧ TrmFrame s t))
  ∧ (∀ (s : State) d, Accepts 0x0102 d s → ((s.grp d.target).st ≠ .startup ∨ s.routedOn d.target ≠ []) →
      Completes (.grpRun d) s (fun t => Answered d .refused 0 s t ∧ t.trm = s.trm ∧ TrmFrame s t))
  ∧ (∀ (s : State) d, Accepts 0x0103 d s → (s.grp d.target).st ≠ .latched →
      Completes (.tripClear d) s (fun t => Answered d .refused 0 s t ∧ t.trm = s.trm ∧ TrmFrame s t))
  ∧ (∀ (s : State) d, Accepts 0x0103 d s → (s.grp d.target).st = .latched → s.routedOn d.target ≠ [] →
      Completes (.tripClear d) s (fun t => Answered d .tripPersists 0 s t ∧ (t.grp d.target).st = .latched
        ∧ (t.grp d.target).latch = (s.grp d.target).latch ∧ Raised 4 [d.target] s t ∧ TrmFrame s t))
  ∧ (∀ (s : State) d, Accepts 0x0103 d s → (s.grp d.target).st = .latched → s.routedOn d.target = [] →
      (s.grp d.target).limPend = false → (∃ a b l, (s.grp d.target).recs = a :: b :: l ∧ max s.now d.t < b + 60 * ticksPerS) →
      Completes (.tripClear d) s (fun t => Answered d .ok 1 s t ∧ (t.grp d.target).st = .latched
        ∧ (t.grp d.target).recLimit = true ∧ Raised 8 [d.target] s t
        ∧ (∀ g, g ≠ d.target → t.grp g = s.grp g) ∧ TrmFrame s t))
  ∧ (∀ (s : State) d, Accepts 0x0103 d s → (s.grp d.target).st = .latched → s.routedOn d.target = [] →
      ((s.grp d.target).limPend = true ∨ ∀ a b l, (s.grp d.target).recs = a :: b :: l → b + 60 * ticksPerS ≤ max s.now d.t) →
      CrossFollows s → (∀ g < 16, (s.grp g).held = false) →
      Completes (.tripClear d) s (fun t => Answered d .ok 0 s t ∧ (t.grp d.target).st = .recovery
        ∧ (t.grp d.target).latch = false ∧ (t.grp d.target).recDl = max s.now d.t + s.fld (grpBase d.target) 15 0 * ticksPerMs
        ∧ Raised 2 [d.target] s t ∧ TrmFrame s t))

/-- R84, R88, R93, R97, R100, Table 4.11.  A report of a gate driver or a voltage comparator that asserts is held; every
routed group in STARTUP, TEST or RUN latches at once and is forced; a LATCHED group stays so; a DISABLED group stays
DISABLED.  A source that releases is gone, and no latch goes with
it.  The trip count returns to 0 at its window's deadline.  At the recovery deadline a group without a held force enters
RUN with EV3 and its causes cleared. -/
def Obligations.TripEvents : Prop :=
  (∀ (s : State) t0 fine src, s.supply.ok = true → s.up dCtrl = true → src.n < 312 → s.srcMay src = true → src.n ∉ s.trm.srcs →
      Completes (.tripSourceAssert t0 fine src) s (fun t => src.n ∈ t.trm.srcs ∧ TrmFrame s t
        ∧ ∀ g < 16, s.routed src.n g = true →
          ((s.grp g).st = .startup ∨ (s.grp g).st = .test ∨ (s.grp g).st = .latched
              ∨ (s.grp g).st = .run →
            (t.grp g).st = .latched ∧ (t.grp g).forced = true)
          ∧ ((s.grp g).st = .disabled → (t.grp g).st = .disabled)))
  ∧ (∀ (s : State) t0 src, s.supply.ok = true → s.up dCtrl = true → src.n < 312 → s.srcGone src = true → src.n ∈ s.trm.srcs →
      Completes (.tripSourceRelease t0 src) s (fun t => src.n ∉ t.trm.srcs ∧ TrmFrame s t
        ∧ ∀ g < 16, (s.grp g).st = .latched → (t.grp g).st = .latched ∧ (t.grp g).forced = true))
  ∧ (∀ (s : State) t0 g, s.supply.ok = true → g < 16 → (s.grp g).cbcCnt ≠ 0 → (s.grp g).cbcDl ≤ max s.now t0 →
      Completes (.cbcWindowExpired t0 g) s (fun t => (t.grp g) = { s.grp g with cbcCnt := 0 }
        ∧ (∀ h, h ≠ g → t.grp h = s.grp h) ∧ t = { s with now := max s.now t0, trm := { s.trm with grps := t.trm.grps } }))
  ∧ (∀ (s : State) t0 g, s.supply.ok = true → g < 16 → (s.grp g).st = .recovery → (s.grp g).held = false →
      (s.grp g).recDl ≤ max s.now t0 →
      Completes (.recoveryDeadline t0 g) s (fun t => (t.grp g).st = .run ∧ (t.grp g).kinds = [] ∧ (t.grp g).maxSev = 0
        ∧ Raised 3 [g] s t ∧ (∀ h, h ≠ g → t.grp h = s.grp h) ∧ t.trm.srcs = s.trm.srcs ∧ TrmFrame s t))

/-- Table 4.3, R85: CROSSg asserts while group g is LATCHED.  Whatever the state, once the matrix has settled after an
assertion or a release, each CROSS source is asserted exactly while its group is LATCHED: the chain of one group's latch
that trips the next always comes to an end. -/
def Obligations.CrossSourcesSettle : Prop :=
  (∀ (s : State) n ts, CrossFollows (s.assertSrc n ts)) ∧ (∀ (s : State) n, CrossFollows (s.releaseSrc n)) ∧ CrossFollows State.reset

/-! ### The modulator (chapter 03) -/

/-- R46, R47, R51 to R53, R55, Table 3.8, over every period of L fine steps that R54 admits, every t_c, t_d, t_min, t_ref,
policy and carrier mode, with t_floor the larger of t_min and t_ref.  The two switches never conduct together, and at
every change of switch both are off for t_d.  A class H leg's low switch conducts for at least t_floor; a t_c above
T - t_d - t_floor is clamped to it and counts as clamped.  In region 1 the high switch conducts for t_c - t_d and the low
switch for L - t_c - t_d.  A t_c below t_d gives no high pulse.  A class F leg at t_c of L or more holds the high switch on
throughout, and t_c = 0 the low switch. -/
def Obligations.ErosionTable : Prop :=
  ∀ (f st ctr : Bool) (L tc td tm tr : Nat), 2 * td + tm + max tm tr ≤ L → 0 < L →
    let sh := erode f st (onAt ctr L) L tc td tm tr
    (sh.hiOn < sh.hiOff → sh.loOff + td ≤ sh.hiOn ∧ sh.hiOff + td ≤ sh.loOn ∨ (sh.hiOn = 0 ∧ sh.hiOff = L ∧ sh.loOff = 0 ∧ sh.loOn = L))
    ∧ sh.loOn ≤ L + sh.loOff ∧ sh.loOff ≤ sh.loOn ∧ sh.hiOn ≤ sh.hiOff
    ∧ (f = false → max tm tr ≤ L - (sh.loOn - sh.loOff))
    ∧ (f = false → (sh.clamped = true ↔ L - td - max tm tr < tc))
    ∧ (f = false → L - td - max tm tr < tc →
        sh = { erode f st (onAt ctr L) L (L - td - max tm tr) td tm tr with region := 3, clamped := true })
    ∧ (0 < tc → td + tm ≤ tc → td + max tm tr ≤ L - tc → tc < L →
        sh.region = 0 ∧ sh.hiOff - sh.hiOn = tc - td ∧ L - (sh.loOn - sh.loOff) = L - tc - td
        ∧ sh.loOff = (if ctr then (L - tc) / 2 else 0))
    ∧ (tc < td → sh.hiOn = sh.hiOff ∧ sh.loOff = sh.loOn)
    ∧ (f = true → L ≤ tc → sh.hiOn = 0 ∧ sh.hiOff = L ∧ sh.loOff = 0 ∧ sh.loOn = L)
    ∧ (tc = 0 → sh.hiOn = sh.hiOff ∧ sh.loOff = sh.loOn)

/-- R45, R57, R70, R72, R73, R221, R311, R598. LEG_ENABLE and LEG_DISABLE are REFUSED, changing nothing, on a leg of an enabled
commutation unit and on a fitted leg of an enabled rail (notes/assumptions/56.md). LEG_ENABLE is REFUSED too while the
clapper is not running and on an enabled leg; a leg that fails the check of R72 is REFUSED with EV229 and stays disabled;
otherwise the leg is enabled, does not modulate before its next carrier start, and a free-running carrier starts with it.
LEG_DISABLE is REFUSED on a disabled leg; otherwise the leg stops modulating: a high output that was on goes off, and the
low output turns on t_d later at the earliest. LEG_SET_CMP is REFUSED where the loop engine owns the compare value, as the
lock has fixed it; otherwise the shadow set alone takes cmp0 and its fine part. No other leg changes. -/
def Obligations.LegCommands : Prop :=
  (∀ (s : State) d, Accepts 0x0200 d s → (s.tbu.running = false ∨ (s.leg d.target).enabled = true ∨ s.legOwned d.target = true) →
      Completes (.legEnable d) s (fun t => Finishes 0x0200 d .refused 0 s t
        ∧ t = { s with now := max s.now d.t, hif := { s.hif with flights := t.hif.flights } }))
  ∧ (∀ (s : State) d, Accepts 0x0200 d s → s.tbu.running = true → (s.leg d.target).enabled = false → s.legOwned d.target = false →
      s.legOk d.target = false →
      Completes (.legEnable d) s (fun t => Finishes 0x0200 d .refused 0 s t ∧ Raises [(229, [d.target])] s t
        ∧ t = { s with now := max s.now d.t, hif := t.hif, evr := t.evr }))
  ∧ (∀ (s : State) d, Accepts 0x0200 d s → s.tbu.running = true → (s.leg d.target).enabled = false → s.legOwned d.target = false →
      s.legOk d.target = true →
      Completes (.legEnable d) s (fun t => Finishes 0x0200 d .ok 0 s t
        ∧ (t.leg d.target).enabled = true ∧ (t.leg d.target).active = (s.leg d.target).active
        ∧ (t.leg d.target).act = (s.leg d.target).act ∧ (t.leg d.target).shadow = (s.leg d.target).shadow
        ∧ (s.legSync d.target = 15 → (t.leg d.target).carrier = true
            ∧ (t.leg d.target).next = max s.now d.t * 32 + (if s.legMode d.target == 2 then (s.leg d.target).shadow.ph else 0))
        ∧ (∀ n, n ≠ d.target → t.leg n = s.leg n)
        ∧ t = { s with now := max s.now d.t, mod := { s.mod with legs := t.mod.legs }
                       hif := { s.hif with flights := t.hif.flights } }))
  ∧ (∀ (s : State) d, Accepts 0x0201 d s → ((s.leg d.target).enabled = false ∨ s.legOwned d.target = true) →
      Completes (.legDisable d) s (fun t => Finishes 0x0201 d .refused 0 s t
        ∧ t = { s with now := max s.now d.t, hif := { s.hif with flights := t.hif.flights } }))
  ∧ (∀ (s : State) d, Accepts 0x0201 d s → (s.leg d.target).enabled = true → s.legOwned d.target = false →
      Completes (.legDisable d) s (fun t => Finishes 0x0201 d .ok 0 s t
        ∧ t.leg d.target = { s.leg d.target with
              enabled := false, active := false, carrier := (s.leg d.target).carrier && s.legSync d.target != 15
              last := (t.leg d.target).last }
        ∧ (∀ x, max s.now d.t * 32 ≤ x → (s.legOut d.target (max s.now d.t * 32 - 1)).1 = true →
            (t.legOut d.target x).1 = false
            ∧ ((t.legOut d.target x).2 = true → max s.now d.t * 32 + s.legTd d.target ≤ x))
        ∧ (∀ n, n ≠ d.target → t.leg n = s.leg n)
        ∧ t = { s with now := max s.now d.t, mod := { s.mod with legs := t.mod.legs }
                       hif := { s.hif with flights := t.hif.flights } }))
  ∧ (∀ (s : State) d, Accepts 0x0202 d s → s.mod.lpeBk.contains d.target = true →
      Completes (.legSetCmp d) s (fun t => Finishes 0x0202 d .refused 0 s t
        ∧ t = { s with now := max s.now d.t, hif := { s.hif with flights := t.hif.flights } }))
  ∧ (∀ (s : State) d, Accepts 0x0202 d s → s.mod.lpeBk.contains d.target = false →
      Completes (.legSetCmp d) s (fun t => Finishes 0x0202 d .ok 0 s t
        ∧ t.leg d.target = { s.leg d.target with
              shadow := { (s.leg d.target).shadow with tc := d.par 0 * 32 + d.par 1 } }
        ∧ (∀ n, n ≠ d.target → t.leg n = s.leg n)
        ∧ t = { s with now := max s.now d.t, mod := { s.mod with legs := t.mod.legs }
                       hif := { s.hif with flights := t.hif.flights } }))

/-- R70, R76, R79, R467, R598.  VALVE_ENABLE is REFUSED while the clapper is not running and on an enabled channel, and
REFUSED with EV229 on a channel that fails its check; otherwise the channel is enabled.  VALVE_DISABLE is REFUSED on a
disabled channel and disables an enabled one.  VALVE_SET is REFUSED for a duty or a gate that another source owns;
otherwise the duty reaches the shadow set at the command's tick, and the gate waits for the next boundary, the command's
completion with it where it sets the gate alone.  VALVE_PERIOD is REFUSED outside the range of the channel's mode and
otherwise waits for the next boundary.  No other channel changes.
R75, R80, R81.  On an enabled channel whose carrier has begun: a gate that closes at boundary b leaves the output off
from b on.  A gate that opens at b inside the on-part lets the output follow the carrier from b; in the off-part the
output is on from b to the earlier of b + t_c and the next carrier start, t_c being the resolved on-time, and off
throughout where that is 0. -/
def Obligations.ValveCommands : Prop :=
  ((∀ (s : State) d, Accepts 0x0203 d s → (s.tbu.running = false ∨ (s.valve d.target).enabled = true) →
      Completes (.valveEnable d) s (fun t => Finishes 0x0203 d .refused 0 s t
        ∧ t = { s with now := max s.now d.t, hif := { s.hif with flights := t.hif.flights } }))
  ∧ (∀ (s : State) d, Accepts 0x0203 d s → s.tbu.running = true → (s.valve d.target).enabled = false → s.valveOk d.target = false →
      Completes (.valveEnable d) s (fun t => Finishes 0x0203 d .refused 0 s t ∧ Raises [(229, [d.target + 68])] s t
        ∧ t = { s with now := max s.now d.t, hif := t.hif, evr := t.evr }))
  ∧ (∀ (s : State) d, Accepts 0x0203 d s → s.tbu.running = true → (s.valve d.target).enabled = false → s.valveOk d.target = true →
      Completes (.valveEnable d) s (fun t => Finishes 0x0203 d .ok 0 s t
        ∧ t.valve d.target = { (s.valve d.target).reckon (max s.now d.t * 32) with enabled := true, part := 0 } ∧ (∀ m, m ≠ d.target → t.valve m = s.valve m)
        ∧ t = { s with now := max s.now d.t, mod := { s.mod with valves := t.mod.valves }
                       hif := { s.hif with flights := t.hif.flights } }))
  ∧ (∀ (s : State) d, Accepts 0x0204 d s →
      Completes (.valveDisable d) s (fun t =>
        Finishes 0x0204 d (if (s.valve d.target).enabled then .ok else .refused) 0 s t
        ∧ (t.valve d.target).enabled = false ∧ (t.valve d.target).gate = (s.valve d.target).gate
        ∧ (∀ m, m ≠ d.target → t.valve m = s.valve m)
        ∧ t = { s with now := max s.now d.t, mod := { s.mod with valves := t.mod.valves }
                       hif := { s.hif with flights := t.hif.flights } }))
  ∧ (∀ (s : State) d, Accepts 0x0205 d s →
      ((bitAt (d.par 2) 0 = true ∧ s.dutySrc d.target ≠ 0) ∨ (bitAt (d.par 2) 1 = true ∧ s.gateSxe d.target = true)) →
      Completes (.valveSet d) s (fun t => Finishes 0x0205 d .refused 0 s t
        ∧ t = { s with now := max s.now d.t, hif := { s.hif with flights := t.hif.flights } }))
  ∧ (∀ (s : State) d, Accepts 0x0205 d s → (bitAt (d.par 2) 0 = true → s.dutySrc d.target = 0) →
      (bitAt (d.par 2) 1 = true → s.gateSxe d.target = false) →
      Completes (.valveSet d) s (fun t =>
        (t.valve d.target).shDuty = (if bitAt (d.par 2) 0 then d.par 0 else (s.valve d.target).shDuty)
        ∧ (t.valve d.target).duty = (s.valve d.target).duty ∧ (t.valve d.target).gate = (s.valve d.target).gate
        ∧ (∀ m, m ≠ d.target → t.valve m = s.valve m)
        ∧ t.hif.pend = s.hif.pend ++ (if bitAt (d.par 2) 1 then
            [{ sq := d.sq, op := 0x0205, tick := d.t, act := .valveGate d.target (d.par 1 == 1)
               decided := bitAt (d.par 2) 0 }] else [])
        ∧ (t.hif.flights = if bitAt (d.par 2) 1 && !bitAt (d.par 2) 0 then (s.received 0x0205 d).hif.flights
            else flightsDone 0x0205 d s .ok 0 (max s.now d.t))
        ∧ t = { s with now := max s.now d.t, mod := { s.mod with valves := t.mod.valves }
                       hif := { s.hif with flights := t.hif.flights, pend := t.hif.pend } }))
  ∧ (∀ (s : State) d, Accepts 0x0206 d s → s.vPeriodOk d.target (d.par 0) = false →
      Completes (.valvePeriod d) s (fun t => Finishes 0x0206 d .refused 0 s t
        ∧ t = { s with now := max s.now d.t, hif := { s.hif with flights := t.hif.flights } }))
  ∧ (∀ (s : State) d, Accepts 0x0206 d s → s.vPeriodOk d.target (d.par 0) = true →
      Completes (.valvePeriod d) s (fun t => Waits 0x0206 d (.valvePeriod d.target (d.par 0)) s t
        ∧ t = { s with now := max s.now d.t, hif := { s.hif with flights := t.hif.flights, pend := t.hif.pend } })))
  ∧ ((∀ (v : Valve) (b x : Nat), (v.setGate b false).out x = false)
  ∧ (∀ (v : Valve) (b x : Nat), v.enabled = true → v.begun = true → v.gate = false → v.extraTo = 0 →
      b * 32 < v.start * 32 + v.onFor → b * 32 ≤ x →
      ((v.setGate b true).out x = true ↔ x < v.start * 32 + v.onFor))
  ∧ (∀ (v : Valve) (b x : Nat), v.enabled = true → v.begun = true → v.gate = false → v.extraTo = 0 →
      v.start * 32 + v.onFor ≤ b * 32 → b * 32 ≤ x →
      ((v.setGate b true).out x = true ↔ 0 < v.onFor ∧ x < b * 32 + v.onFor ∧ x < v.next * 32))
  ∧ (∀ (st : Bool) (T d tm : Nat), tm * 2 ≤ T * 32 →
      valveOn st T d tm ≤ T * 32 ∧ (65536 ≤ d → valveOn st T d tm = T * 32) ∧ (d = 0 → valveOn st T d tm = 0)
      ∧ (d < 65536 → tm ≤ d * T / 65536 * 32 → tm ≤ T * 32 - d * T / 65536 * 32 → valveOn st T d tm = d * T / 65536 * 32)
      ∧ (0 < valveOn st T d tm → valveOn st T d tm < T * 32 →
          tm ≤ valveOn st T d tm ∧ tm ≤ T * 32 - valveOn st T d tm)))

/-- R46 to R48, R57, R58, R60, R61, R65, R73, Table 3.7.  At a carrier start of a leg the next period begins at the fine
instant that was next, with the length of the shadow set's period, in PHASE mode plus the wrapped change of the offset, and
is shaped by the erosion table at its actual length.  On the legs that LPE or the host writes the whole shadow set becomes
the active set, an enabled leg modulates from there, and the ended period's region and counts are kept.  No other such leg
changes but for a level held and the outputs' last turn-offs.  While the clapper is slaved, a carrier start that falls on
a restart of its group waits for the restart (R66).  At the carrier centre of a leg with upd_mid = 1 the shadow set becomes active, the carrier
goes on, and a pulse that the erosion table leaves whole keeps the turn-on edge of the old set, as clamped, and gets its turn-off edge
from the new one. -/
def Obligations.LegCarriers : Prop :=
  (∀ (s : State) t0 n m, s.supply.ok = true → s.up dCtrl = true → n < 68 → (s.leg n).carrier = true →
      ((s.leg n).enabled = true ∨ s.legSync n ≠ 15) → (s.leg n).next / 32 ≤ max s.now t0 → s.carrierWaits n = false →
      Completes (.legCarrierStart t0 n m) s (fun t =>
        (t.leg n).start = (s.leg n).next ∧ (t.leg n).next = (s.leg n).next + (t.leg n).len
        ∧ (t.leg n).act.period = (s.leg n).shadow.period ∧ (t.leg n).periods = (s.leg n).periods + 1
        ∧ (s.legMode n ≠ 2 → (t.leg n).len = (s.leg n).shadow.period * 32)
        ∧ (t.leg n).shape = s.legShape n (t.leg n).len (t.leg n).act.tc ∧ (t.leg n).mid = false
        ∧ t.tbu = s.tbu ∧ t.fb = s.fb ∧ t.afe = s.afe ∧ t.sxe = s.sxe ∧ t.mod.valves = s.mod.valves))
  ∧ (∀ (s : State) t0 n m, s.supply.ok = true → s.up dCtrl = true → n < 14 → (s.leg n).carrier = true →
      (s.leg n).next / 32 ≤ max s.now t0 → s.carrierWaits n = false →
      Completes (.legCarrierStart t0 n m) s (fun t =>
        (t.leg n) = { s.leg n with
          last := (t.leg n).last, spoilt := (t.leg n).spoilt
          act := (s.leg n).shadow, start := (s.leg n).next, len := (t.leg n).len, shape := (t.leg n).shape
          next := (s.leg n).next + (t.leg n).len, mid := false, hold := (t.leg n).hold, active := (s.leg n).enabled
          periods := (s.leg n).periods + 1
          lastRegion := if (s.leg n).active then (s.leg n).shape.region else (s.leg n).lastRegion
          clampCnt := if (s.leg n).active && (s.leg n).shape.clamped then satInc 255 (s.leg n).clampCnt else (s.leg n).clampCnt
          shortCnt := if (s.leg n).active && (s.leg n).shape.short then satInc 255 (s.leg n).shortCnt else (s.leg n).shortCnt }
        ∧ (s.legMode n = 2 → 0 < (s.leg n).periods → 0 < (s.leg n).shadow.period →
            ∃ x : Int, -((s.leg n).shadow.period * 16 : Nat) < x ∧ x ≤ ((s.leg n).shadow.period * 16 : Nat)
              ∧ (((t.leg n).len : Int) = ((s.leg n).shadow.period * 32 : Nat) + x)
              ∧ (x - ((s.leg n).shadow.ph - (s.leg n).act.ph)) % ((s.leg n).shadow.period * 32 : Nat) = 0)
        ∧ (∀ k < 14, k ≠ n → t.leg k = { s.leg k with hold := (t.leg k).hold, last := (t.leg k).last, spoilt := (t.leg k).spoilt })))
  ∧ (∀ (s : State) t0 n m, s.supply.ok = true → s.carrierWaits n = true →
      Completes (.legCarrierStart t0 n m) s (fun t => t = { s with now := max s.now t0 }))
  ∧ (∀ (s : State) t0 n, s.supply.ok = true → s.up dCtrl = true → n < 68 → (s.leg n).carrier = true →
      s.rb (legBase n) 26 = true → s.legMode n = 1 → (s.leg n).mid = false → 0 < (s.leg n).periods →
      (s.leg n).start + (s.leg n).len / 2 < (max s.now t0 + 1) * 32 →
      Completes (.legCarrierCentre t0 n) s (fun t =>
        t.leg n = { s.leg n with act := (s.leg n).shadow, mid := true, shape := (t.leg n).shape, last := (t.leg n).last }
        ∧ (let L := (s.leg n).len
           let lim := L - s.legTd n - max (s.legTmin n) (s.legTref n)
           let on := (L - (if classF n then (s.leg n).act.tc else min (s.leg n).act.tc lim)) / 2
           let off := (L - (s.leg n).shadow.tc) / 2 + (s.leg n).shadow.tc
           (s.leg n).shadow.tc ≤ L → on < off → s.legTd n + s.legTmin n ≤ off - on → (off - on) + s.legTd n + max (s.legTmin n) (s.legTref n) ≤ L →
             (t.leg n).shape.region = 0 ∧ (t.leg n).shape.loOff = on ∧ (t.leg n).shape.hiOn = on + s.legTd n
             ∧ (t.leg n).shape.hiOff = off ∧ (t.leg n).shape.loOn = off + s.legTd n)
        ∧ (∀ k, k ≠ n → t.leg k = s.leg k)
        ∧ t = { s with now := max s.now t0, mod := { s.mod with legs := t.mod.legs } }))

/-- R62, R67 to R69, R87, R168, R586, R587, Table 4.8.  A comparator of a pk_term leg that trips in the commanded high time
ends it there, at the earliest t_d + t_min after the commanded start and never later than before, and the erosion table takes
that end as the period's compare: with room for the low pulse the period is in region 1 and the low switch turns on t_d after.
A trigger starts one
conversion of every input its line names, ready in the line's order, and a second trigger of the line in the same tick
starts none.  A triggered conversion gives its code with an aperture 160 ticks after the trigger; an unbound converter
scans its inputs in turn.  Every new result is compared by the OCLs of its input: one that breaks its limit is asserted,
one that does not is released. -/
def Obligations.AnalogueFrontEnd : Prop :=
  (∀ (s : State) t0 n ofs, s.supply.ok = true → s.up dCtrl = true → 14 ≤ n → n < 28 → s.rb (legBase n) 24 = true →
      (s.leg n).active = true → s.now ≤ t0 → ((s.leg n).start + ofs) / 32 = t0 →
      (s.leg n).shape.hiOn < (s.leg n).shape.hiOff → (s.leg n).shape.loOff ≤ ofs → ofs < (s.leg n).shape.hiOff →
      (∀ x, x = s.ppm.ses → x.st = .supply → x.kind = 4 → (n = 24 ∨ n = 27) →
        Completes (.peakComparatorTrip t0 n ofs) s (fun t => t = { s with now := t0 }))
      ∧ (¬ (s.ppm.ses.st = .supply ∧ s.ppm.ses.kind = 4 ∧ (n = 24 ∨ n = 27)) →
      Completes (.peakComparatorTrip t0 n ofs) s (fun t =>
        (let sh := (s.leg n).shape
         let td := s.legTd n
         let tm := s.legTmin n
         let off := min sh.hiOff (max ofs (sh.loOff + td + tm))
         let c := off - sh.loOff
         (off = sh.hiOff → t.leg n = s.leg n)
         ∧ (off < sh.hiOff → 0 < c → sh.hiOn < off → sh.loOff + td < off → c < (s.leg n).len → c + td + max tm (s.legTref n) ≤ (s.leg n).len →
             (t.leg n).shape.region = 0 ∧ (t.leg n).shape.clamped = false ∧ (t.leg n).shape.loOff = sh.loOff
             ∧ (t.leg n).shape.hiOn = sh.hiOn ∧ (t.leg n).shape.hiOff = off ∧ (t.leg n).shape.loOn = off + td))
        ∧ t.leg n = { s.leg n with shape := (t.leg n).shape }
        ∧ (∀ k, k ≠ n → t.leg k = s.leg k)
        ∧ t = { s with now := t0, mod := { s.mod with legs := t.mod.legs }, rails := t.rails }
        ∧ (24 ≤ n → t.rails = s.rails))))
  ∧ (∀ (s : State) t0 n k fine, s.supply.ok = true → s.up dCtrl = true → n < 68 → k < 2 → fine < 32 →
      (s.leg n).carrier = true → 0 < (s.leg n).periods → s.trigSel n k ≠ 0 → s.now ≤ t0 → s.trigAt n k = t0 * 32 + fine →
      ((s.leg n).periods - 1) % max 1 (s.fld (legBase n + 0x1C) 27 24) = 0 →
      Completes (.adcTrigger t0 n k fine) s (fun t =>
        (getD s.mod.lines (s.trigLine n k) 0 = t0 + 1 → t = { s with now := t0 })
        ∧ (getD s.mod.lines (s.trigLine n k) 0 ≠ t0 + 1 →
            t.afe.convs = s.afe.convs ++ (s.lineInputs (s.trigLine n k)).map (fun i =>
              { input := i, line := s.trigLine n k, trig := t0 * 32 + fine
                ready := t0 + 260 + 80 * s.convPos (s.trigLine n k) i })
            ∧ getD t.mod.lines (s.trigLine n k) 0 = t0 + 1
            ∧ t = { s with now := t0, mod := { s.mod with lines := t.mod.lines }
                           afe := { s.afe with convs := t.afe.convs } })))
  ∧ (∀ (s : State) t0 i code x, s.supply.ok = true → s.up dCtrl = true →
      s.afe.convs.find? (fun x => x.input == i && x.ready ≤ max s.now t0) = some x →
      Completes (.afeConversionDone t0 i code) s (fun t =>
        t.afe = { s.afe with ins := t.afe.ins, convs := s.afe.convs.erase x }
        ∧ getD t.afe.ins i {} = { code := clampI (-8192) 8191 code, aperture := x.trig + 5120 }
        ∧ (∀ j, j ≠ i → getD t.afe.ins j {} = getD s.afe.ins j {})
        ∧ (∀ k < 32, s.fld (0x2940 + 4 * k) 31 25 = i →
            (272 + k ∈ t.trm.srcs ↔ s.oclBreaks k (clampI (-8192) 8191 code) = true))
        ∧ (∀ k < 32, s.fld (0x2940 + 4 * k) 31 25 ≠ i → (272 + k ∈ t.trm.srcs ↔ 272 + k ∈ s.trm.srcs))))
  ∧ (∀ (s : State) t0 v code, s.supply.ok = true → s.up dCtrl = true → v < 24 → s.convFree v = true →
      getD s.afe.scanNext v 0 ≤ max s.now t0 →
      Completes (.afeScanConversion t0 v code) s (fun t =>
        let i := 4 * v + getD s.afe.scan v 0
        t.afe = { s.afe with ins := t.afe.ins, scan := put s.afe.scan v ((getD s.afe.scan v 0 + 1) % 4),
                                scanNext := put s.afe.scanNext v (max s.now t0 + 80) }
        ∧ getD t.afe.ins i {} = { code := clampI (-8192) 8191 code, aperture := (max s.now t0 - 100) * 32 }
        ∧ (∀ j, j ≠ i → getD t.afe.ins j {} = getD s.afe.ins j {})
        ∧ (∀ k < 32, s.fld (0x2940 + 4 * k) 31 25 = i →
            (272 + k ∈ t.trm.srcs ↔ s.oclBreaks k (clampI (-8192) 8191 code) = true))))
  ∧ (∀ (s : State) i (code : Int), s.oclBreaks i code = true ↔
      (s.fld (0x2940 + 4 * i) 14 13 = 0 ∧ s.fld (0x2940 + 4 * i) 12 0 < code.natAbs)
      ∨ (s.fld (0x2940 + 4 * i) 14 13 = 1 ∧ (s.fld (0x2940 + 4 * i) 12 0 : Nat) < code)
      ∨ (s.fld (0x2940 + 4 * i) 14 13 = 2 ∧ code < -(s.fld (0x2940 + 4 * i) 12 0 : Nat)))

/-- R75 to R77, R79, R287, R290, R292.  At a carrier start of a valve channel the shadow duty becomes the duty, the period's
on-time follows from it, and the next start lies one period on.  A new period takes effect at the first carrier start from
its new origin; until then the old carrier runs on.  While PD_IMPL runs, VLV's mean current is that of the ended period;
with an on-part of at least 2 ms a current below i_open counts towards three and one at or above it clears open; in PROP mode
an enabled unmapped channel's next duty is kp e / 16 + I, limited, with e from the target of VLV_SET; in NOZZLE mode the
shadow duty stays.  No other channel changes. -/
def Obligations.ValveCarriers : Prop :=
  (∀ (s : State) t0 m i, s.supply.ok = true → s.up dCtrl = true → m < 48 → (s.valve m).newStart = none →
      (s.valve m).carrier = true → (s.valve m).next ≤ max s.now t0 →
      Completes (.valveCarrierStart t0 m i) s (fun t =>
        t.valve m = { s.valve m with
          duty := (s.valve m).shDuty, begun := true, start := (s.valve m).next, next := (s.valve m).next + (s.valve m).period
          onFor := valveOn (s.rb (vlvBase m) 29) (s.valve m).period (s.valve m).shDuty (s.fld (vlvBase m) 15 0)
          extraTo := 0, ran := 0, part := 0, since := (s.valve m).next * 32, shDuty := (t.valve m).shDuty }
        ∧ (s.vProp m = false → (t.valve m).shDuty = (s.valve m).shDuty)
        ∧ (∀ k, k ≠ m → t.valve k = s.valve k) ∧ (∀ k, k ≠ m → t.vlv k = s.vlv k) ∧ (t.vlv m).resume = false
        ∧ t.mod.legs = s.mod.legs ∧ t.trm = s.trm ∧ t.gdv = s.gdv ∧ t.sxe = s.sxe ∧ t.fb = s.fb))
  ∧ (∀ (s : State) t0 m i T st, s.supply.ok = true → s.up dCtrl = true → m < 48 → (s.valve m).newStart = some (T, st) →
      (st ≤ (s.valve m).next ∨ (s.valve m).carrier = false) → st ≤ max s.now t0 →
      Completes (.valveCarrierStart t0 m i) s (fun t =>
        (t.valve m).period = T ∧ (t.valve m).carrier = true ∧ (t.valve m).start = st ∧ (t.valve m).next = st + T
        ∧ (t.valve m).newStart = none ∧ (t.valve m).duty = (s.valve m).shDuty
        ∧ (t.valve m).onFor = valveOn (s.rb (vlvBase m) 29) T (s.valve m).shDuty (s.fld (vlvBase m) 15 0)))
  ∧ (∀ (s : State) t0 m i T st, s.supply.ok = true → s.up dCtrl = true → m < 48 → (s.valve m).newStart = some (T, st) →
      (s.valve m).next < st → (s.valve m).carrier = true → (s.valve m).next ≤ max s.now t0 →
      Completes (.valveCarrierStart t0 m i) s (fun t =>
        (t.valve m).period = (s.valve m).period ∧ (t.valve m).start = (s.valve m).next
        ∧ (t.valve m).next = (s.valve m).next + (s.valve m).period ∧ (t.valve m).newStart = some (T, st)))
  ∧ (∀ (s : State) t0 m i, s.supply.ok = true → s.up dCtrl = true → s.up dImpl = true → m < 48 →
      (s.valve m).newStart = none → (s.valve m).carrier = true → (s.valve m).next ≤ max s.now t0 →
      (s.valve m).begun = true →
      Completes (.valveCarrierStart t0 m i) s (fun t => (t.vlv m).iMa = i.iMa
        ∧ (s.vlvFollows m = true → 64 * ticksPerMs ≤ ((s.valve m).reckon ((s.valve m).next * 32)).part →
            (i.iEnd < s.fld (vlvReg m) 23 16 * 10 →
              (t.vlv m).openRun = (s.vlv m).openRun + 1
              ∧ ((t.vlv m).opn = true ↔ (s.vlv m).opn = true ∨ 3 ≤ (s.vlv m).openRun + 1)
              ∧ ((s.vlv m).opn = false → 3 ≤ (s.vlv m).openRun + 1 → Raised 153 [m] s t))
            ∧ (s.fld (vlvReg m) 23 16 * 10 ≤ i.iEnd → (t.vlv m).openRun = 0 ∧ (t.vlv m).opn = false))
        ∧ (s.vProp m = true → (s.valve m).enabled = true → s.mapped m = false →
            (t.valve m).shDuty = (clampI 0 65536 (divOpen ((s.fld (vlvReg m + 4) 15 8 : Nat) * (((s.vlv m).target : Int) - i.iMa) * 16
              + (s.vlv m).integ) 256)).toNat)))

/-- R288, R289, R291, R292, R551, Table 11.10.  VLV_SET is REFUSED on a mapped channel and outside PROP mode; otherwise the
target is the one it carries.  A short turns the channel off with EV152: it is SHORT until the retry time has passed, and a
consecutive short after the allowed retries makes it FAILED, with EV154 and REPLACE_ADVISED for a valve.  After the retry
time the channel waits for its next on-part.  A total above 40 A raises EV155 and nothing else happens. -/
def Obligations.ValveDrivers : Prop :=
  (∀ (s : State) d, Accepts 0x0704 d s → (s.mapped d.target = true ∨ s.vProp d.target = false) →
      Completes (.vlvSet d) s (fun t => Finishes 0x0704 d .refused 0 s t
        ∧ t = { s with now := max s.now d.t, hif := { s.hif with flights := t.hif.flights } }))
  ∧ (∀ (s : State) d, Accepts 0x0704 d s → s.mapped d.target = false → s.vProp d.target = true →
      Completes (.vlvSet d) s (fun t => Finishes 0x0704 d .ok 0 s t
        ∧ t.vlv d.target = { s.vlv d.target with target := d.par 0 } ∧ (∀ k, k ≠ d.target → t.vlv k = s.vlv k)
        ∧ t = { s with now := max s.now d.t, vlvs := t.vlvs, hif := { s.hif with flights := t.hif.flights } }))
  ∧ (∀ (s : State) t0 m, s.supply.ok = true → m < 48 → s.vlvOut m (max s.now t0 * 32 - 1) = true →
      Completes (.vlvShort t0 m) s (fun t =>
        let ran := (s.vlv m).conduct + (s.valve m).ran + (s.valve m).onSince (max s.now t0 * 32)
        t.vlvFollows m = false
        ∧ (((s.vlv m).shorted = true ∧ ran < 32 * ticksPerS ∧ s.fld (vlvReg m) 15 8 ≤ (s.vlv m).retries) →
            (t.vlv m).st = .failed ∧ Raised 154 [m] s t
            ∧ ((s.rpl.any (fun x => x.1 == 2)) = false → getD t.rpl 2 0 = m ∧ Raised 250 [2, m] s t))
        ∧ (¬ ((s.vlv m).shorted = true ∧ ran < 32 * ticksPerS ∧ s.fld (vlvReg m) 15 8 ≤ (s.vlv m).retries) →
            (t.vlv m).st = .short ∧ t.rpl = s.rpl
            ∧ (t.vlv m).dl = max s.now t0 + 100 * s.fld (vlvReg m) 7 0 * ticksPerMs)
        ∧ ((s.vlv m).ev152 ≠ s.periodMark → Raised 152 [m] s t)
        ∧ (∀ k, k ≠ m → t.vlv k = s.vlv k)
        ∧ t = { s with now := max s.now t0, vlvs := t.vlvs, rpl := t.rpl, rplLast := t.rplLast, hif := t.hif, evr := t.evr }
        ∧ HostTold s t))
  ∧ (∀ (s : State) t0 m, s.supply.ok = true → s.up dImpl = true → (s.vlv m).st = .short → (s.vlv m).dl ≤ max s.now t0 →
      Completes (.vlvRetryEnd t0 m) s (fun t =>
        t.vlv m = { s.vlv m with st := .ok, resume := true, retries := (s.vlv m).retries + 1 }
        ∧ (∀ k, k ≠ m → t.vlv k = s.vlv k) ∧ t = { s with now := max s.now t0, vlvs := t.vlvs }))
  ∧ (∀ (s : State) t0 sum, s.supply.ok = true → s.up dImpl = true → 4000 < sum →
      Completes (.vlvTotalOver t0 sum) s (fun t => Raises [(155, [sum])] s t
        ∧ t.vlvPeak = max s.vlvPeak (min 65535 sum)
        ∧ t = { s with now := max s.now t0, vlvPeak := t.vlvPeak, hif := t.hif, evr := t.evr } ∧ HostTold s t))

/-! ### Gate drivers (chapter 05) -/

/-- R111, R112, R115 to R117, R131, Table 5.12.  An on command to a disarmed channel, or to one whose bridge is under
diagnosis, is ignored without a record.  While the other channel of the leg is on, or within il_gap after its gate voltage
fell below 2.0 V, an on command is ignored and SHOOT_REQ recorded on the channel; on commands of both channels in one tick
turn neither on and are recorded on both.  Any other on command turns the channel on.  EV32 follows at most once per leg
and clapper period.  A channel whose supply SHL does not hold off and whose fields are legal arms once its rails are valid,
with its gate off. -/
def Obligations.GateCommands : Prop :=
  (∀ (s : State) t0 c low both, s.supply.ok = true → ((s.ch c).armed = false ∨ (s.ch c).diag = true) →
      Completes (.gateOnCommand t0 c low both) s (fun t => t = { s with now := max s.now t0 }))
  ∧ (∀ (s : State) t0 c low both, s.supply.ok = true → s.up dCtrl = true → c < 134 → (s.ch c).armed = true →
      (s.ch c).diag = false →
      Completes (.gateOnCommand t0 c low both) s (fun t =>
        (chOther c = none →
          t.ch c = { s.ch c with on := true, onTick := max s.now t0, live := true, soft := none } ∧ t.evr = s.evr)
        ∧ (∀ o, chOther c = some o → both = true → (s.ch o).armed = true →
            t.ch c = { s.ch c with on := false, shootSeen := true, shootCnt := satInc 255 (s.ch c).shootCnt }
            ∧ t.ch o = { s.ch o with on := false, shootSeen := true, shootCnt := satInc 255 (s.ch o).shootCnt }
            ∧ (getD s.gdv.ev32 (chLeg c) 0 ≠ s.periodMark → Raises [(32, [chLeg c, 255])] s t)
            ∧ (getD s.gdv.ev32 (chLeg c) 0 = s.periodMark → t.evr = s.evr))
        ∧ (∀ o, chOther c = some o → (both = false ∨ (s.ch o).armed = false) → (s.ch o).live = true →
            (low = none ∨ ∃ l, low = some l ∧ (l < (s.ch o).onTick ∨ max s.now t0 < l + s.fld 0x3380 7 0)) →
            t.ch c = { s.ch c with on := false, shootSeen := true, shootCnt := satInc 255 (s.ch c).shootCnt } ∧ t.ch o = s.ch o
            ∧ (getD s.gdv.ev32 (chLeg c) 0 ≠ s.periodMark → Raises [(32, [chLeg c, c])] s t)
            ∧ (getD s.gdv.ev32 (chLeg c) 0 = s.periodMark → t.evr = s.evr))
        ∧ (∀ o, chOther c = some o → (both = false ∨ (s.ch o).armed = false) →
            ((s.ch o).live = false ∨ ∃ l, low = some l ∧ (s.ch o).onTick ≤ l ∧ l + s.fld 0x3380 7 0 ≤ max s.now t0) →
            t.ch c = { s.ch c with on := true, onTick := max s.now t0, live := true, soft := none }
            ∧ t.ch o = { s.ch o with on := false, live := false }
            ∧ t.evr = s.evr)
        ∧ (∀ k, k ≠ c → chOther c ≠ some k → t.ch k = s.ch k)
        ∧ t = { s with now := max s.now t0, gdv := { s.gdv with chs := t.gdv.chs, ev32 := t.gdv.ev32 }
                       hif := t.hif, evr := t.evr } ∧ HostTold s t))
  ∧ (∀ (s : State) t0 c, s.supply.ok = true → s.up dCtrl = true → c < 134 → s.tbu.running = true → s.shlHolds c = false →
      (s.ch c).bad = false → (s.ch c).armed = false →
      Completes (.gateArmed t0 c) s (fun t =>
        t.ch c = { s.ch c with armed := true, uv := [], uvOk := true, removed := false, on := false }
        ∧ ((s.ch c).removed = true → Raises [(35, [c])] s t) ∧ ((s.ch c).removed = false → t.evr = s.evr)
        ∧ (∀ k, k ≠ c → t.ch k = s.ch k)
        ∧ t = { s with now := max s.now t0, gdv := { s.gdv with chs := t.gdv.chs }, hif := t.hif, evr := t.evr }
        ∧ HostTold s t))
  ∧ (∀ (s : State) t0 c, s.supply.ok = true → (s.shlHolds c = true ∨ (s.ch c).bad = true) →
      Completes (.gateArmed t0 c) s (fun t => t = { s with now := max s.now t0 }))

/-- R113, R126 to R129, Table 5.13.  A desaturation counts on an armed channel with dsat_en, in an on-time of which blank
ticks and 60 ns have passed; it is held until 5 microseconds after the gate voltage fell below 2.0 V.  An under-voltage of a rail
that the channel has is reported unless SHL holds the supply off or the channel has not armed again since, and is held
until its monitor releases.  EV33 and EV34 follow at most once per channel and clapper period.  GDV changes no output for
either: the gate's own state stays.
R119, R121, R122, R124.  At a carrier start of a leg, an isolated adaptive channel with a valid turn-on time above its
target by more than the band drives one step stronger, below it by more than the band one step weaker, never beyond
step_max and step_min, and otherwise keeps its step.  Without a valid measurement of a direction the step is frozen. -/
def Obligations.GateMonitors : Prop :=
  ((∀ (s : State) t0 c, s.supply.ok = true → s.up dCtrl = true → c < 134 → s.rb (0x2A04 + 0x10 * c) 31 = true →
      (s.ch c).armed = true → (s.ch c).on = true → s.chOut c (max s.now t0 * 32 - 1) = true →
      (s.ch c).onTick + s.fld (0x2A04 + 0x10 * c) 11 0 + 24 ≤ max s.now t0 →
      Completes (.desatDetect t0 c) s (fun t =>
        t.ch c = { s.ch c with dsat := true, dsatSeen := true, ev33 := s.periodMark }
        ∧ ((s.ch c).ev33 ≠ s.periodMark → Raises [(33, [c])] s t) ∧ ((s.ch c).ev33 = s.periodMark → t.evr = s.evr)
        ∧ (∀ k, k ≠ c → t.ch k = s.ch k)
        ∧ t.leg (chLeg c) = { s.leg (chLeg c) with spoilt := true } ∧ (∀ k, k ≠ chLeg c → t.leg k = s.leg k)
        ∧ t = { s with now := max s.now t0, mod := { s.mod with legs := t.mod.legs }
                       gdv := { s.gdv with chs := t.gdv.chs }, hif := t.hif, evr := t.evr }
        ∧ HostTold s t))
  ∧ (∀ (s : State) t0 c, s.supply.ok = true →
      (s.rb (0x2A04 + 0x10 * c) 31 = false ∨ s.chOut c (max s.now t0 * 32 - 1) = false
        ∨ max s.now t0 < (s.ch c).onTick + s.fld (0x2A04 + 0x10 * c) 11 0 + 24) →
      Completes (.desatDetect t0 c) s (fun t => t = { s with now := max s.now t0 }))
  ∧ (∀ (s : State) t0 c low, s.supply.ok = true → s.up dCtrl = true → (s.ch c).dsat = true →
      Completes (.desatRelease t0 c low) s (fun t =>
        (low + 5 * ticksPerUs ≤ max s.now t0 →
          t.ch c = { s.ch c with dsat := false, live := (s.ch c).live && decide (low < (s.ch c).onTick) })
        ∧ (max s.now t0 < low + 5 * ticksPerUs → t.ch c = s.ch c)
        ∧ (∀ k, k ≠ c → t.ch k = s.ch k)
        ∧ t = { s with now := max s.now t0, gdv := { s.gdv with chs := t.gdv.chs } }))
  ∧ (∀ (s : State) t0 c rail, s.supply.ok = true → s.up dCtrl = true → c < 134 → s.tbu.running = true →
      s.shlHolds c = false → ((s.ch c).removed = false ∨ (s.ch c).armed = true) →
      ((c < 62 ∧ rail < 2) ∨ (62 ≤ c ∧ chIsHi c = true ∧ rail = 2) ∨ (62 ≤ c ∧ chIsHi c = false ∧ rail = 3)) →
      Completes (.uvloDetect t0 c rail) s (fun t =>
        t.ch c = { s.ch c with uv := insN (s.ch c).uv rail, uvSeen := true, ev34 := s.periodMark }
        ∧ ((s.ch c).ev34 ≠ s.periodMark → Raises [(34, [c, rail])] s t) ∧ ((s.ch c).ev34 = s.periodMark → t.evr = s.evr)
        ∧ (∀ k, k ≠ c → t.ch k = s.ch k)
        ∧ t = { s with now := max s.now t0, gdv := { s.gdv with chs := t.gdv.chs }, hif := t.hif, evr := t.evr }
        ∧ HostTold s t))
  ∧ (∀ (s : State) t0 c rail, s.supply.ok = true →
      (s.shlHolds c = true ∨ ((s.ch c).removed = true ∧ (s.ch c).armed = false)) →
      Completes (.uvloDetect t0 c rail) s (fun t => t = { s with now := max s.now t0 }))
  ∧ (∀ (s : State) t0 c rail, s.supply.ok = true → s.up dCtrl = true → rail ∈ (s.ch c).uv →
      Completes (.uvloRelease t0 c rail) s (fun t =>
        rail ∉ (t.ch c).uv ∧ (∀ r, r ≠ rail → (r ∈ (t.ch c).uv ↔ r ∈ (s.ch c).uv))
        ∧ t.ch c = { s.ch c with uv := (t.ch c).uv, uvOk := (t.ch c).uvOk }
        ∧ (∀ k, k ≠ c → t.ch k = s.ch k)
        ∧ t = { s with now := max s.now t0, gdv := { s.gdv with chs := t.gdv.chs } })))
  ∧ (∀ (s : State) t0 n m, s.supply.ok = true → s.up dCtrl = true → n < 14 → (s.leg n).carrier = true →
    (s.leg n).next / 32 ≤ max s.now t0 → s.carrierWaits n = false → s.hif.takes = [] →
    (∀ g, s.legGroup n = some g → (s.grp g).cbcHold = false ∧ (s.grp g).forced = false) →
    s.rb (0x2A00 + 0x10 * chHi n) 31 = true →
    Completes (.legCarrierStart t0 n m) s (fun t =>
      let c := chHi n
      let tgt := s.fld (0x2A08 + 0x10 * c) 31 24
      let band := s.fld (0x2A08 + 0x10 * c) 15 11
      let hi := s.fld (0x2A00 + 0x10 * c) 9 5
      let lo := s.fld (0x2A00 + 0x10 * c) 4 0
      (m.hiOn = none → (t.ch c).src = (s.ch c).src ∧ (t.ch c).frozen = true)
      ∧ (∀ x, m.hiOn = some x → s.tswValid c x tgt = false → (t.ch c).src = (s.ch c).src ∧ (t.ch c).frozen = true
            ∧ (t.ch c).tOn = (s.ch c).tOn)
      ∧ (∀ x, m.hiOn = some x → s.tswValid c x tgt = true → (t.ch c).tOn = min 0xFFFE x
          ∧ ((tgt + band) * 1000000 < x * 78125 → s.srcNow c < hi → (t.ch c).src = some (s.srcNow c + 1))
          ∧ ((tgt + band) * 1000000 < x * 78125 → hi ≤ s.srcNow c → (t.ch c).src = some (s.srcNow c) ∧ (t.ch c).limSeen = true)
          ∧ (x * 78125 + band * 1000000 < tgt * 1000000 → lo < s.srcNow c → (t.ch c).src = some (s.srcNow c - 1))
          ∧ (x * 78125 + band * 1000000 < tgt * 1000000 → s.srcNow c ≤ lo → (t.ch c).src = some (s.srcNow c) ∧ (t.ch c).limSeen = true)
          ∧ (x * 78125 ≤ (tgt + band) * 1000000 → tgt * 1000000 ≤ x * 78125 + band * 1000000 →
              (t.ch c).src = some (s.srcNow c) ∧ (t.ch c).limSrc = 0))
      ∧ (∀ k, k ∉ legChs n → t.ch k = s.ch k)))

/-- R131 to R135, Tables 5.8 to 5.11.  When settle has passed with less than 20 V on the bus, every phase reports NO_BUS and
the diagnosis ends.  Otherwise the samples of step 1 are held and step 3 begins, or, after step 3, the phase's outcome
follows Table 5.8 or 5.9 and the next phase begins, its gates still held; after the last phase the channels are given back
to MOD.  An OPEN_LOAD or a short on a fitted leg raises EV39. -/
def Obligations.OffStateDiagnosis : Prop :=
  (∀ (s : State) t0 v g, s.supply.ok = true → s.up dCtrl = true → s.gdv.diag = some g → g.dl ≤ max s.now t0 →
      Completes (.diagSettleExpired t0 () v) s (fun t =>
        let vb := s.busVolt (g.legs.headD 0)
        (vb < 200 → t.gdv.diag = none ∧ t.evr = s.evr ∧ (∀ n ∈ g.legs, getD t.gdv.res n 0 = 6 ∧
            ∀ c ∈ legChs n, (t.ch c).diag = false) ∧ (∀ n, n ∉ g.legs → getD t.gdv.res n 0 = getD s.gdv.res n 0))
        ∧ (200 ≤ vb → g.up = false →
            t.gdv = { s.gdv with diag := some { g with up := true, dn := v, vDn := vb
                                                       dl := max s.now t0 + s.fld 0x3384 6 0 * ticksPerMs } }
            ∧ t.evr = s.evr)
        ∧ (200 ≤ vb → g.up = true →
            let n := g.legs.getD g.idx 0
            let out := s.diagOutcome g.legs { vb := g.vDn, v := g.dn } { vb := vb, v := v } g.idx
            getD t.gdv.res n 0 = out ∧ (∀ k, k ≠ n → getD t.gdv.res k 0 = getD s.gdv.res k 0)
            ∧ (s.legFitted n = true → (out = 2 ∨ out = 3 ∨ out = 4) → Raises [(39, [n, out])] s t)
            ∧ (s.legFitted n = false ∨ out = 1 ∨ out = 5 → t.evr = s.evr)
            ∧ (g.idx + 1 < g.legs.length → t.gdv.chs = s.gdv.chs ∧ t.gdv.diag = some { g with
                 idx := g.idx + 1, up := false, dn := [], vDn := 0, dl := max s.now t0 + s.fld 0x3384 6 0 * ticksPerMs })
            ∧ (g.legs.length ≤ g.idx + 1 → t.gdv.diag = none ∧
                 ∀ k ∈ g.legs, ∀ c ∈ legChs k, (t.ch c).diag = false ∧ (t.ch c).on = (s.ch c).on))
        ∧ t = { s with now := max s.now t0, gdv := t.gdv, hif := t.hif, evr := t.evr } ∧ HostTold s t))
  ∧ (∀ (s : State) legs dn up i, legs.getD i 0 ≠ 12 → legs.getD i 0 ≠ 13 →
      (85 * dn.vb ≤ 100 * dn.at' i → 85 * up.vb ≤ 100 * up.at' i → s.diagOutcome legs dn up i = 2)
      ∧ (100 * dn.at' i ≤ 15 * dn.vb → 100 * up.at' i ≤ 15 * up.vb → 200 ≤ dn.vb → 200 ≤ up.vb →
          s.diagOutcome legs dn up i = 3)
      ∧ (100 * dn.at' i ≤ 15 * dn.vb → 85 * up.vb ≤ 100 * up.at' i → 200 ≤ dn.vb → 200 ≤ up.vb →
          (legs.getD i 0 = 27 → (∀ j < legs.length, j ≠ i → legs.getD j 0 < 68 ∧ legs.getD j 0 ≠ 27) → s.diagOutcome legs dn up i = 1)
          ∧ (s.diagOutcome legs dn up i = 1 ↔ ∀ j < legs.length, j ≠ i → diagSet (legs.getD j 0) = diagSet (legs.getD i 0) →
              s.legFitted (legs.getD j 0) = true →
              10 * (dn.at' j - dn.at' i + (dn.at' i - dn.at' j)) ≤ dn.vb
              ∧ 10 * (up.at' j - up.at' i + (up.at' i - up.at' j)) ≤ up.vb)))
  ∧ (∀ (s : State) legs dn up i, legs.getD i 0 = 12 ∨ legs.getD i 0 = 13 → 200 ≤ dn.vb → 200 ≤ up.vb →
      (s.diagOutcome legs dn up i = 1 ↔ 85 * dn.vb ≤ 100 * dn.at' i ∧ 85 * up.vb ≤ 100 * up.at' i)
      ∧ (s.diagOutcome legs dn up i = 4 ↔ 100 * dn.at' i ≤ 15 * dn.vb ∧ 85 * up.vb ≤ 100 * up.at' i)
      ∧ (s.diagOutcome legs dn up i = 3 ↔ 100 * dn.at' i ≤ 15 * dn.vb ∧ 100 * up.at' i ≤ 15 * up.vb))

/-! ### Position and speed feedback (chapter 06) -/

/-- R148, R151, R155, Tables 6.10, 6.11.  FB_ENABLE is REFUSED while the clapper is not running and on a channel or output
that is enabled, and REFUSED with EV76 on illegal fields; otherwise a channel is enabled, to start at the first boundary
above the command's tick, a resolver starts to converge, and an output is enabled.  FB_DISABLE is REFUSED on what is
disabled, and stops or disables the rest.  CMP_SET is REFUSED where the loop engine writes the value; otherwise it arms:
with d = (val - pos) mod 2^32 a value behind in the permitted direction is not armed and raises EV75, d = 0 fires at once,
and any other value is armed. -/
def Obligations.FeedbackCommands : Prop :=
  (∀ (s : State) d, Accepts 0x0300 d s →
      (s.tbu.running = false ∨ (d.target < 16 ∧ (s.pfi d.target).en = true)
        ∨ (16 ≤ d.target ∧ d.target < 20 ∧ (s.rsv (d.target - 16)).en = true)
        ∨ (20 ≤ d.target ∧ (s.cmp (d.target - 32)).en = true)) →
      Completes (.fbEnable d) s (fun t => Finishes 0x0300 d .refused 0 s t
        ∧ t = { s with now := max s.now d.t, hif := { s.hif with flights := t.hif.flights } }))
  ∧ (∀ (s : State) d, Accepts 0x0300 d s → s.tbu.running = true →
      ((d.target < 16 ∧ (s.pfi d.target).en = false ∧ s.pfiOk d.target = false)
        ∨ (16 ≤ d.target ∧ d.target < 20 ∧ (s.rsv (d.target - 16)).en = false ∧ s.rsvOk (d.target - 16) = false)
        ∨ (20 ≤ d.target ∧ (s.cmp (d.target - 32)).en = false ∧ s.cmpOk (d.target - 32) = false)) →
      Completes (.fbEnable d) s (fun t => Finishes 0x0300 d .refused 0 s t
        ∧ ((if d.target < 16 then getD (s.pfi d.target).evs 76 0 else if d.target < 20 then getD (s.rsv (d.target - 16)).evs 76 0
              else getD (s.cmp (d.target - 32)).evs 76 0) ≠ s.periodMark →
            Raises [(76, [if d.target < 16 then d.target + 4 else if d.target < 20 then d.target - 16 else d.target])] s t)
        ∧ (∀ k, t.pfi k = { s.pfi k with evs := (t.pfi k).evs }) ∧ (∀ k, t.rsv k = { s.rsv k with evs := (t.rsv k).evs })
        ∧ (∀ k, t.cmp k = { s.cmp k with evs := (t.cmp k).evs })
        ∧ t = { s with now := max s.now d.t, fb := t.fb, hif := t.hif, evr := t.evr }))
  ∧ (∀ (s : State) d, Accepts 0x0300 d s → s.tbu.running = true → d.target < 16 → (s.pfi d.target).en = false →
      s.pfiOk d.target = true →
      Completes (.fbEnable d) s (fun t => Finishes 0x0300 d .ok 0 s t
        ∧ (t.pfi d.target).en = true ∧ (t.pfi d.target).running = false ∧ (t.pfi d.target).enTick = max s.now d.t
        ∧ (t.pfi d.target).cnt = (s.pfi d.target).cnt ∧ (∀ k, k ≠ d.target → t.pfi k = s.pfi k)
        ∧ t = { s with now := max s.now d.t, fb := { s.fb with pfis := t.fb.pfis }
                       hif := { s.hif with flights := t.hif.flights } }))
  ∧ (∀ (s : State) d, Accepts 0x0300 d s → s.tbu.running = true → 16 ≤ d.target → d.target < 20 →
      (s.rsv (d.target - 16)).en = false → s.rsvOk (d.target - 16) = true →
      Completes (.fbEnable d) s (fun t => Finishes 0x0300 d .ok 0 s t
        ∧ (t.rsv (d.target - 16)).en = true ∧ (t.rsv (d.target - 16)).conv = false ∧ (t.rsv (d.target - 16)).fault = false
        ∧ t.srcValid (d.target - 16) = false ∧ (∀ k, k ≠ d.target - 16 → t.rsv k = s.rsv k)
        ∧ t = { s with now := max s.now d.t, fb := { s.fb with rsvs := t.fb.rsvs }
                       hif := { s.hif with flights := t.hif.flights } }))
  ∧ (∀ (s : State) d, Accepts 0x0300 d s → s.tbu.running = true → 20 ≤ d.target → (s.cmp (d.target - 32)).en = false →
      s.cmpOk (d.target - 32) = true →
      Completes (.fbEnable d) s (fun t => Finishes 0x0300 d .ok 0 s t
        ∧ t.cmp (d.target - 32) = { s.cmp (d.target - 32) with en := true }
        ∧ (∀ k, k ≠ d.target - 32 → t.cmp k = s.cmp k)
        ∧ t = { s with now := max s.now d.t, fb := { s.fb with cmps := t.fb.cmps }
                       hif := { s.hif with flights := t.hif.flights } }))
  ∧ (∀ (s : State) d, Accepts 0x0301 d s →
      Completes (.fbDisable d) s (fun t =>
        (d.target < 16 → Finishes 0x0301 d (if (s.pfi d.target).en then .ok else .refused) 0 s t
          ∧ ((s.pfi d.target).en = true →
              t.pfi d.target = { s.pfi d.target with en := false, running := false, valid := false, invSince := none
                                                     xfer := none })
          ∧ ((s.pfi d.target).en = false → t.fb = s.fb))
        ∧ (16 ≤ d.target → d.target < 20 →
            Finishes 0x0301 d (if (s.rsv (d.target - 16)).en then .ok else .refused) 0 s t
            ∧ (t.rsv (d.target - 16)).en = false ∧ t.srcValid (d.target - 16) = false)
        ∧ (20 ≤ d.target → Finishes 0x0301 d (if (s.cmp (d.target - 32)).en then .ok else .refused) 0 s t
            ∧ (t.cmp (d.target - 32)).level = false)
        ∧ (∀ k, k ≠ d.target → t.pfi k = s.pfi k) ∧ (∀ k, k + 16 ≠ d.target → t.rsv k = s.rsv k)
        ∧ (∀ k, k + 32 ≠ d.target → t.cmp k = s.cmp k)
        ∧ t = { s with now := max s.now d.t, fb := t.fb, hif := { s.hif with flights := t.hif.flights } }))
  ∧ (∀ (s : State) d, Accepts 0x0302 d s → s.rb (cmpBase d.target) 20 = true →
      Completes (.cmpSet d) s (fun t => Finishes 0x0302 d .refused 0 s t
        ∧ t = { s with now := max s.now d.t, hif := { s.hif with flights := t.hif.flights } }))
  ∧ (∀ (s : State) d, Accepts 0x0302 d s → s.rb (cmpBase d.target) 20 = false →
      Completes (.cmpSet d) s (fun t => Finishes 0x0302 d .ok 0 s t
        ∧ (let pos := s.livePos (s.fld (cmpBase d.target) 30 26)
           let off := (d.par 0 + 2 ^ 32 - pos % 2 ^ 32) % 2 ^ 32
           let dir := s.fld (cmpBase d.target) 22 21
           (t.cmp d.target).val = d.par 0 ∧ (t.cmp d.target).en = (s.cmp d.target).en
           ∧ ((dir = 0 ∧ 2 ^ 31 ≤ off ∨ dir = 1 ∧ 1 ≤ off ∧ off ≤ 2 ^ 31) →
               (t.cmp d.target).armed = false ∧ (t.cmp d.target).pin = (s.cmp d.target).pin
               ∧ (getD (s.cmp d.target).evs 75 0 ≠ s.periodMark → Raises [(75, [d.target, d.par 0, pos])] s t))
           ∧ (off = 0 → (t.cmp d.target).armed = false ∧ t.evr = s.evr
               ∧ (s.fld (cmpBase d.target) 24 23 = 0 → (t.cmp d.target).pin = true)
               ∧ (s.fld (cmpBase d.target) 24 23 = 1 → (t.cmp d.target).pin = false)
               ∧ (s.fld (cmpBase d.target) 24 23 = 2 → (t.cmp d.target).pin = !(s.cmp d.target).pin)
               ∧ (s.fld (cmpBase d.target) 24 23 = 3 → (t.cmp d.target).pin = true ∧
                   (t.cmp d.target).pulseEnd = some (max s.now d.t + s.fld (cmpBase d.target) 11 0 * 40)))
           ∧ (off ≠ 0 → ¬ (dir = 0 ∧ 2 ^ 31 ≤ off ∨ dir = 1 ∧ 1 ≤ off ∧ off ≤ 2 ^ 31) →
               (t.cmp d.target).armed = true ∧ (t.cmp d.target).pin = (s.cmp d.target).pin ∧ t.evr = s.evr))
        ∧ (∀ k, k ≠ d.target → t.cmp k = s.cmp k)
        ∧ t = { s with now := max s.now d.t, fb := { s.fb with cmps := t.fb.cmps }, hif := t.hif, evr := t.evr }))

/-- R137, R138, R140 to R142, R146, R147, Tables 6.1, 6.2.  What accepted levels of A, B and Z bring to a running channel, a
change of a line less than filt ticks after its last being none.  QUAD: an edge
of A or of B counts one by the quadrature phase, both in one tick count an error and EV64.  STEPDIR counts a rising A by the
level B had before; UPDOWN counts +1 for A and -1 for B; FREQ counts rising edges of A.  HALL counts a valid state by its
distance from the last in the forward sequence, two steps and three steps with EV67 and an error, three without a count and
with the window invalid; an invalid state holds the counter.  rev reverses every count, and the counter wraps at 32 bits.  A rising Z captures
the counter with the counts of its own tick and the device time; with z_mode = 2 the counter is then 0, and a count since
the last index of one direction that differs from cpr sets idx_err.  No other channel changes. -/
def Obligations.PfiCounting : Prop :=
  (∀ (s : State) t0 fine i a b z, s.supply.ok = true → s.up dCtrl = true → i < 16 → (s.pfi i).running = true →
      (s.advance t0).pastBound = false →
      (a = (s.pfi i).a ∨ (s.pfi i).aT + s.fld (pfiBase i) 23 16 ≤ max s.now t0) →
      (b = (s.pfi i).b ∨ (s.pfi i).bT + s.fld (pfiBase i) 23 16 ≤ max s.now t0) →
      (z = (s.pfi i).z ∨ (s.pfi i).zT + s.fld (pfiBase i) 23 16 ≤ max s.now t0) →
      Completes (.pfiInputEdge t0 fine i a b z) s (fun t =>
        let p := s.pfi i
        let q := t.pfi i
        let sg : Int → Int := fun x => if s.rb (pfiBase i) 27 then -x else x
        let counts : Int → Nat → Prop := fun x n => q.cnt = toBits 32 ((p.cnt : Int) + sg x) ∧ q.wNet = p.wNet + sg x
          ∧ q.wEdges = p.wEdges + n ∧ q.edge = t0 * 32 + fine % 32
        let holds : Prop := q.cnt = p.cnt ∧ q.wNet = p.wNet ∧ q.wEdges = p.wEdges ∧ q.edge = p.edge
        q.a = a ∧ q.b = b ∧ q.z = z
        ∧ (s.pfiMode i = 0 → z = p.z →
            (a ≠ p.a → b ≠ p.b → holds ∧ q.errCnt = satInc 255 p.errCnt
              ∧ (getD p.evs 64 0 ≠ s.periodMark → Raises [(64, [i])] s t))
            ∧ (a ≠ p.a → b = p.b → counts (if a = b then -1 else 1) 1 ∧ t.evr = s.evr)
            ∧ (a = p.a → b ≠ p.b → counts (if a = b then 1 else -1) 1 ∧ t.evr = s.evr)
            ∧ (a = p.a → b = p.b → holds ∧ t.evr = s.evr))
        ∧ (s.pfiMode i = 2 → z = p.z →
            (a = true → p.a = false → counts (if p.b then 1 else -1) 1) ∧ (a = false ∨ p.a = true → holds))
        ∧ (s.pfiMode i = 3 → z = p.z → b = p.b →
            (a = true → p.a = false → counts 1 1) ∧ (a = false ∨ p.a = true → holds))
        ∧ (s.pfiMode i = 3 → z = p.z → a = p.a → b = true → p.b = false → counts (-1) 1)
        ∧ (s.pfiMode i = 3 → z = p.z → a = true → p.a = false → b = true → p.b = false →
            q.wNet = p.wNet ∧ q.wEdges = p.wEdges + 2 ∧ q.wFwd = true ∧ q.wRev = true)
        ∧ (s.pfiMode i = 6 → z = p.z →
            (a = true → p.a = false → counts 1 1) ∧ (a = false ∨ p.a = true → holds))
        ∧ (s.pfiMode i = 1 → (a ≠ p.a ∨ b ≠ p.b ∨ z ≠ p.z) →
            (hallStep (b2n a + 2 * b2n b + 4 * b2n z) = none → holds ∧ q.invSince ≠ none)
            ∧ (∀ k o, hallStep (b2n a + 2 * b2n b + 4 * b2n z) = some k → p.hall = some o → o < 6 →
                q.hall = some k ∧ q.hallInv = false ∧ q.fault = false
                ∧ ((k + 6 - o) % 6 = 0 → holds) ∧ ((k + 6 - o) % 6 = 1 → counts 1 1) ∧ ((k + 6 - o) % 6 = 5 → counts (-1) 1)
                ∧ ((k + 6 - o) % 6 = 2 → counts 2 2) ∧ ((k + 6 - o) % 6 = 4 → counts (-2) 2)
                ∧ ((k + 6 - o) % 6 = 3 → holds ∧ q.wBad = true)
                ∧ (2 ≤ (k + 6 - o) % 6 → (k + 6 - o) % 6 ≤ 4 → p.invSince = none → p.fault = false →
                    q.errCnt = satInc 255 p.errCnt ∧ (getD p.evs 67 0 ≠ s.periodMark →
                      Raises [(67, [i, if (k + 6 - o) % 6 = 3 then 3 else 2])] s t))))
        ∧ (s.pfiMode i ≠ 1 → s.zMode i ≠ 0 → z = true → p.z = false → a = p.a → b = p.b →
            q.capPos = p.cnt ∧ q.capTs = (max s.now t0) % 2 ^ 32 ∧ q.capNew = true ∧ (q.capOvr = true ↔ p.capOvr = true ∨ p.capNew = true)
            ∧ (s.zMode i = 2 → q.cnt = 0 ∧ q.idxSeen = true
                ∧ (q.idxErr = true ↔ p.idxErr = true ∨ (p.idxSeen = true ∧ p.idxFwd ≠ p.idxRev ∧ p.idxNet.natAbs ≠ s.pfiCpr i)))
            ∧ (s.zMode i ≠ 2 → q.cnt = p.cnt))
        ∧ (∀ k, k ≠ i → t.pfi k = s.pfi k)
        ∧ t = { s with now := max s.now t0, fb := { s.fb with pfis := t.fb.pfis, cmps := t.fb.cmps }
                       hif := t.hif, evr := t.evr } ∧ HostTold s t))
  ∧ (∀ (s : State) t0 fine i a b z, s.supply.ok = true → s.up dCtrl = true → i < 16 → (s.advance t0).pastBound = false →
      max s.now t0 < (s.pfi i).aT + s.fld (pfiBase i) 23 16 → max s.now t0 < (s.pfi i).bT + s.fld (pfiBase i) 23 16 →
      max s.now t0 < (s.pfi i).zT + s.fld (pfiBase i) 23 16 →
      Completes (.pfiInputEdge t0 fine i a b z) s (fun t => (∀ k, t.pfi k = s.pfi k) ∧ t.evr = s.evr
        ∧ t = { s with now := max s.now t0, fb := { s.fb with pfis := t.fb.pfis } }))
  ∧ (∀ (s : State) t0 i x, s.supply.ok = true → s.up dCtrl = true → (s.pfi i).invSince = some x → (s.pfi i).hallInv = false →
      (s.pfi i).running = true → (s.advance t0).pastBound = false →
      x + s.fld (pfiBase i) 15 8 * ticksPerUs ≤ max s.now t0 →
      Completes (.hallInvalid t0 i) s (fun t =>
        (t.pfi i).hallInv = true ∧ (t.pfi i).fault = true ∧ (t.pfi i).wBad = true ∧ (t.pfi i).cnt = (s.pfi i).cnt
        ∧ (getD (s.pfi i).evs 66 0 ≠ s.periodMark →
            Raised 66 [i, b2n (s.pfi i).a + 2 * b2n (s.pfi i).b + 4 * b2n (s.pfi i).z] s t)
        ∧ (getD (s.pfi i).evs 69 0 ≠ s.periodMark → (s.pfi i).fault = false → Raised 69 [i + 4] s t)
        ∧ (∀ k, k ≠ i → t.pfi k = s.pfi k)
        ∧ t = { s with now := max s.now t0, fb := { s.fb with pfis := t.fb.pfis }, hif := t.hif, evr := t.evr }))

/-- R143 to R145, R148, R149, Table 6.11.  A serial channel takes a frame only for the transfer that a boundary has started,
once that transfer's bits have been clocked, and a transfer that the next boundary meets is a bad frame.  A bad frame of a serial channel holds the counter and counts; at the third in a row the
channel is in fault.  A good frame ends the fault; the first sets the counter to the raw position, each later one adds the
difference taken into the range of pbits.  A window that closes reports its net count, whether it held no edge, one to
three edges or counts of both signs, and a speed of trunc(net x 9.6e10 / (cpr x win x P)), 0 when the window is invalid. -/
def Obligations.SerialFramesAndWindows : Prop :=
  (∀ (s : State) t0 i w crc fail x, s.supply.ok = true → s.up dCtrl = true → (s.pfi i).running = true →
      (s.advance t0).pastBound = false → (s.pfi i).xfer = some x →
      ((s.pfiMode i = 4 ∧ fail = 1) ∨ (s.pfiMode i = 5 ∧ fail = 2 ∧ x + 20 * ticksPerUs ≤ max s.now t0)
        ∨ (s.pfiMode i = 5 ∧ fail = 0
            ∧ x + 2 * s.fld (pfiBase i + 0xC) 31 21 * s.fld (pfiBase i + 0xC) 20 15 ≤ max s.now t0
            ∧ (crc % 64 ≠ crc6 w (s.fld (pfiBase i + 0xC) 20 15) ^^^ 63 ∨ bitAt w 1 = false))) →
      Completes (.serialFrameDone t0 i w crc fail) s (fun t =>
        (t.pfi i).cnt = (s.pfi i).cnt ∧ (t.pfi i).errCnt = satInc 255 (s.pfi i).errCnt ∧ (t.pfi i).xfer = none
        ∧ (t.pfi i).badRun = (s.pfi i).badRun + 1 ∧ (2 ≤ (s.pfi i).badRun → (t.pfi i).fault = true)
        ∧ ((s.pfi i).badRun < 2 → (t.pfi i).fault = (s.pfi i).fault)
        ∧ (getD (s.pfi i).evs 68 0 ≠ s.periodMark →
            (fail ≠ 0 → Raised 68 [i, fail + 1] s t)
            ∧ (fail = 0 → crc % 64 ≠ crc6 w (s.fld (pfiBase i + 0xC) 20 15) ^^^ 63 → Raised 68 [i, 0] s t)
            ∧ (fail = 0 → crc % 64 = crc6 w (s.fld (pfiBase i + 0xC) 20 15) ^^^ 63 → Raised 68 [i, 1] s t))
        ∧ (∀ k, k ≠ i → t.pfi k = s.pfi k)
        ∧ t = { s with now := max s.now t0, fb := { s.fb with pfis := t.fb.pfis }, hif := t.hif, evr := t.evr }))
  ∧ (∀ (s : State) t0 i w crc fail, s.supply.ok = true → (s.advance t0).pastBound = false →
      ((s.pfi i).xfer = none ∨ 3 ≤ fail ∨ ∃ x, (s.pfi i).xfer = some x ∧ fail = 0
        ∧ max s.now t0 < x + 2 * s.fld (pfiBase i + 0xC) 31 21 * s.fld (pfiBase i + 0xC) 20 15) →
      Completes (.serialFrameDone t0 i w crc fail) s (fun t => t = { s with now := max s.now t0 }))
  ∧ (∀ (s : State) t0 i w crc x, s.supply.ok = true → s.up dCtrl = true → (s.pfi i).running = true →
      (s.advance t0).pastBound = false → (s.pfi i).xfer = some x →
      x + 2 * s.fld (pfiBase i + 0xC) 31 21 * s.fld (pfiBase i + 0xC) 20 15 ≤ max s.now t0 →
      (s.pfiMode i = 4 ∨ (s.pfiMode i = 5 ∧ crc % 64 = crc6 w (s.fld (pfiBase i + 0xC) 20 15) ^^^ 63 ∧ bitAt w 1 = true)) →
      Completes (.serialFrameDone t0 i w crc 0) s (fun t =>
        let r := s.framePos i w
        let pb := s.fld (pfiBase i + 0xC) 14 9
        (t.pfi i).raw = some r ∧ (t.pfi i).badRun = 0 ∧ (t.pfi i).fault = false
        ∧ (t.pfi i).edge = x * 32 ∧ (t.pfi i).xfer = none ∧ (t.pfi i).pos = (t.pfi i).cnt
        ∧ ((s.pfi i).raw = none → (t.pfi i).cnt = r % 2 ^ 32)
        ∧ (∀ o, (s.pfi i).raw = some o → s.rb (pfiBase i) 27 = false →
            (t.pfi i).cnt = toBits 32 ((s.pfi i).cnt + sx pb (r + 2 ^ pb - o)) ∨ (sx pb (r + 2 ^ pb - o) = 0 ∧
              (t.pfi i).cnt = (s.pfi i).cnt))
        ∧ (∀ o, (s.pfi i).raw = some o →
            (t.pfi i).wEdges = (s.pfi i).wEdges + (sx pb (r + 2 ^ pb - o)).natAbs)
        ∧ (∀ k, k ≠ i → t.pfi k = s.pfi k)
        ∧ t = { s with now := max s.now t0, fb := { s.fb with pfis := t.fb.pfis, cmps := t.fb.cmps }
                       hif := t.hif, evr := t.evr } ∧ HostTold s t))
  ∧ (∀ (s : State) b i, (s.pfi i).en = true → (s.pfi i).running = true → s.pfiSerial i = true →
      let q := (s.pfiBoundary b i).pfi i
      q.xfer = some b ∧ q.cnt = (s.pfi i).cnt ∧ q.pos = (s.pfi i).cnt
      ∧ ((s.pfi i).xfer ≠ none → q.badRun = (s.pfi i).badRun + 1 ∧ q.errCnt = satInc 255 (s.pfi i).errCnt)
      ∧ ((s.pfi i).xfer = none → q.badRun = (s.pfi i).badRun ∧ q.errCnt = (s.pfi i).errCnt))
  ∧ (∀ (s : State) b i, (s.pfi i).en = true → (s.pfi i).running = true → s.pfiSerial i = false →
      ((s.pfi i).wB + 1 < s.pfiWin i → (s.pfiBoundary b i).pfi i = { s.pfi i with
          pos := (s.pfi i).cnt, edgeL := (s.pfi i).edge, wB := (s.pfi i).wB + 1 })
      ∧ (s.pfiWin i ≤ (s.pfi i).wB + 1 →
          let q := (s.pfiBoundary b i).pfi i
          q.pos = (s.pfi i).cnt ∧ q.net = (s.pfi i).wNet ∧ (q.valid = true ↔ (s.pfi i).wBad = false ∧ (s.pfi i).fault = false)
          ∧ (q.still = true ↔ (s.pfi i).wEdges = 0) ∧ (q.low = true ↔ 1 ≤ (s.pfi i).wEdges ∧ (s.pfi i).wEdges ≤ 3)
          ∧ (q.dirCh = true ↔ (s.pfi i).wFwd = true ∧ (s.pfi i).wRev = true)
          ∧ (q.valid = true → q.rpm = ((s.pfi i).wNet * 96000000000).tdiv (s.pfiCpr i * s.pfiWin i * s.clapP : Nat))
          ∧ (q.valid = false → q.rpm = 0) ∧ q.wNet = 0 ∧ q.wEdges = 0 ∧ q.wB = 0))

/-- R152 to R154, R156, Table 6.7.  A resolver converges when its tracking error has been below trk_thr for ten excitation periods,
and sets no fault before.  From then on a loss or an over-range of two periods, a tracking error of ten and an excitation error of
two set the channel's fault, and position and speed hold; after ten clean periods the fault clears and pos_lost is set.  A
tracking update gives the angle plus ofs and the mechanical speed.  An armed compare output fires when pos - val reaches or
crosses 0 in a permitted direction and disarms; a pulse ends after its width. -/
def Obligations.ResolversAndCompares : Prop :=
  (∀ (s : State) t0 r amp err exc, s.supply.ok = true → s.up dCtrl = true → r < 4 → (s.rsv r).en = true →
      Completes (.resolverCheck t0 r amp err exc) s (fun t =>
        let v := s.rsv r
        let w := t.rsv r
        let cl := amp < s.fld (rsvBase r + 4) 31 24
        let cd := 2 * s.fld (rsvBase r + 4) 23 16 < amp
        let ct := s.fld (rsvBase r + 4) 15 0 < err
        let ce := exc.i < 50 ∨ 1500 < exc.i ∨ 100 * exc.v < 80 * (1000 + 100 * s.fld (rsvBase r) 21 16)
        w.amp = amp ∧ w.pos = v.pos ∧ w.rpm = v.rpm
        ∧ (w.los = true ↔ cl ∧ 1 ≤ v.nLos) ∧ (w.dos = true ↔ cd ∧ 1 ≤ v.nDos) ∧ (w.trk = true ↔ ct ∧ 9 ≤ v.nTrk)
        ∧ (w.exc = true ↔ ce ∧ 1 ≤ v.nExc)
        ∧ (w.conv = true ↔ v.conv = true ∨ (err < s.fld (rsvBase r + 4) 15 0 ∧ 9 ≤ v.nConv))
        ∧ (w.conv = false → w.fault = v.fault ∧ t.evr = s.evr)
        ∧ (w.conv = true →
            ((w.los = true ∨ w.dos = true ∨ w.trk = true ∨ w.exc = true) → w.fault = true ∧ t.srcValid r = false)
            ∧ (w.los = true → (v.los = false ∨ v.conv = false) → getD v.evs 71 0 ≠ s.periodMark → Raised 71 [r, amp] s t)
            ∧ (w.dos = true → (v.dos = false ∨ v.conv = false) → getD v.evs 72 0 ≠ s.periodMark → Raised 72 [r, amp] s t)
            ∧ (w.trk = true → (v.trk = false ∨ v.conv = false) → getD v.evs 73 0 ≠ s.periodMark → Raised 73 [r, amp] s t)
            ∧ (w.exc = true → (v.exc = false ∨ v.conv = false) → getD v.evs 74 0 ≠ s.periodMark → Raised 74 [r, amp] s t)
            ∧ (w.fault = true → v.fault = false → getD v.evs 69 0 ≠ s.periodMark → Raised 69 [r] s t)
            ∧ (v.fault = true → ¬ cl → ¬ cd → ¬ ct → ¬ ce → 9 ≤ v.clean → err < s.fld (rsvBase r + 4) 15 0 →
                w.fault = false ∧ w.posLost = true ∧ (getD v.evs 70 0 ≠ s.periodMark → Raised 70 [r] s t))
            ∧ (v.fault = true → v.clean < 9 → w.fault = true))
        ∧ (∀ k, k ≠ r → t.rsv k = s.rsv k)
        ∧ t = { s with now := max s.now t0, fb := { s.fb with rsvs := t.fb.rsvs }, hif := t.hif, evr := t.evr }))
  ∧ (∀ (s : State) t0 r raw speed, s.supply.ok = true → s.up dCtrl = true → r < 4 → (s.rsv r).en = true →
      (s.rsv r).fault = false → (s.advance t0).pastBound = false →
      Completes (.resolverTrackUpdate t0 r raw speed) s (fun t =>
        t.rsv r = { s.rsv r with pos := (raw + s.fld (rsvBase r) 15 0) % 2 ^ 32
                                 rpm := divOpen speed (s.fld (rsvBase r) 30 28) }
        ∧ (∀ k, k ≠ r → t.rsv k = s.rsv k)
        ∧ t = { s with now := max s.now t0, fb := { s.fb with rsvs := t.fb.rsvs, cmps := t.fb.cmps } }))
  ∧ (∀ (s : State) t0 r raw speed, s.supply.ok = true → (s.rsv r).fault = true →
      Completes (.resolverTrackUpdate t0 r raw speed) s (fun t => t = { s with now := max s.now t0 }))
  ∧ (∀ (s : State) src old new j, j < 16 →
      let t := s.cmpPass src old new
      let dir := s.fld (cmpBase j) 22 21
      let hit := (crosses old new (s.cmp j).val true = true ∧ dir ≠ 1) ∨ (crosses old new (s.cmp j).val false = true ∧ dir ≠ 0)
      ((s.cmp j).armed = true → s.fld (cmpBase j) 30 26 = src → hit → t.cmp j = (s.cmpFire j).cmp j)
      ∧ (((s.cmp j).armed = false ∨ s.fld (cmpBase j) 30 26 ≠ src ∨ ¬ hit) → t.cmp j = s.cmp j))
  ∧ (∀ old k val : Nat, old < 2 ^ 32 → val < 2 ^ 32 → 0 < k → k < 2 ^ 31 →
      (crosses old ((old + k) % 2 ^ 32) val true = true ↔ ∃ j, 1 ≤ j ∧ j ≤ k ∧ (old + j) % 2 ^ 32 = val)
      ∧ (crosses old ((old + 2 ^ 32 - k) % 2 ^ 32) val false = true ↔ ∃ j, 1 ≤ j ∧ j ≤ k ∧ (old + 2 ^ 32 - j) % 2 ^ 32 = val))
  ∧ (∀ (s : State) j, ((s.cmpFire j).cmp j).armed = false
      ∧ (s.fld (cmpBase j) 24 23 = 0 → ((s.cmpFire j).cmp j).pin = true)
      ∧ (s.fld (cmpBase j) 24 23 = 1 → ((s.cmpFire j).cmp j).pin = false)
      ∧ (s.fld (cmpBase j) 24 23 = 2 → ((s.cmpFire j).cmp j).pin = !(s.cmp j).pin)
      ∧ (s.fld (cmpBase j) 24 23 = 3 → ((s.cmpFire j).cmp j).pin = true
          ∧ ((s.cmpFire j).cmp j).pulseEnd = some (s.now + s.fld (cmpBase j) 11 0 * 40)))
  ∧ (∀ (s : State) t0 j e, s.supply.ok = true → s.up dCtrl = true → (s.cmp j).pulseEnd = some e → e ≤ max s.now t0 →
      Completes (.cmpPulseEnd t0 j) s (fun t => t.cmp j = { s.cmp j with pin := false, pulseEnd := none }
        ∧ (∀ k, k ≠ j → t.cmp k = s.cmp k) ∧ t = { s with now := max s.now t0, fb := { s.fb with cmps := t.fb.cmps } }))

/-! ### The loop engine (chapters 07 and 08) -/

/-- R161, R163, R182 to R184, R188, Table 7.11.  CTX_START is REFUSED on an ACTIVE context, and with EV103 or EV102 on one that
fails its check or its lane's admission alone; otherwise the start waits for the context's next boundary.  CTX_STOP is
REFUSED on an IDLE context and otherwise waits likewise.  SET_TARGET is REFUSED for a slot or a unit that does not take its
target from the host, and PGN_LIMITS with a zero limit; otherwise the value waits for the boundary that uses it. -/
def Obligations.LoopCommands : Prop :=
  (∀ (s : State) d, Accepts 0x0400 d s → (s.ctx d.target).st = .active →
      Completes (.ctxStart d) s (fun t => Finishes 0x0400 d .refused 0 s t
        ∧ t = { s with now := max s.now d.t, hif := { s.hif with flights := t.hif.flights } }))
  ∧ (∀ (s : State) d, Accepts 0x0400 d s → (s.ctx d.target).st ≠ .active →
      Completes (.ctxStart d) s (fun t =>
        let c := d.target
        let s1 := s.setCtx c { s.ctx c with wcOps := s.ctxWc c, tIn := s.ctxTin c }
        let lane := (s1.laneCtxs (s.ctxLane c)).filter (fun x => x != c) ++ [c]
        t.ctx c = s1.ctx c ∧ (∀ k, k ≠ c → t.ctx k = s.ctx k)
        ∧ (s1.ctxFault c ≠ 0 → Finishes 0x0400 d .refused 0 s t ∧ Raises [(103, [c, s1.ctxFault c])] s t)
        ∧ (s1.ctxFault c = 0 → s1.admits s.selMode lane = false → Finishes 0x0400 d .refused 0 s t
            ∧ Raises [(102, [s.ctxLane c, densWord (s1.density s.selMode lane)])] s t)
        ∧ (s1.ctxFault c = 0 → s1.admits s.selMode lane = true → Waits 0x0400 d (.ctxStart c) s t ∧ t.evr = s.evr)
        ∧ t = { s with now := max s.now d.t, lpe := { s.lpe with ctxs := t.lpe.ctxs }, hif := t.hif, evr := t.evr }))
  ∧ (∀ (s : State) d, Accepts 0x0401 d s → (s.ctx d.target).st = .idle →
      Completes (.ctxStop d) s (fun t => Finishes 0x0401 d .refused 0 s t
        ∧ t = { s with now := max s.now d.t, hif := { s.hif with flights := t.hif.flights } }))
  ∧ (∀ (s : State) d, Accepts 0x0401 d s → (s.ctx d.target).st ≠ .idle →
      Completes (.ctxStop d) s (fun t => Waits 0x0401 d (.ctxStop d.target) s t
        ∧ t = { s with now := max s.now d.t, hif := { s.hif with flights := t.hif.flights, pend := t.hif.pend } }))
  ∧ (∀ (s : State) d, Accepts 0x0402 d s →
      ((d.target < 256 ∧ ((s.bind d.target false d.count).en = false ∨ (s.bind d.target false d.count).kind ≠ 4))
        ∨ (256 ≤ d.target ∧ s.rb (pgnBase (d.target - 256)) 29 = true)) →
      Completes (.setTarget d) s (fun t => Finishes 0x0402 d .refused 0 s t
        ∧ t = { s with now := max s.now d.t, hif := { s.hif with flights := t.hif.flights } }))
  ∧ (∀ (s : State) d, Accepts 0x0402 d s → d.target < 256 → s.slotHost d.target d.count = true →
      Completes (.setTarget d) s (fun t => Waits 0x0402 d (.setSlot d.target d.count (d.par 0)) s t
        ∧ t = { s with now := max s.now d.t, hif := { s.hif with flights := t.hif.flights, pend := t.hif.pend } }))
  ∧ (∀ (s : State) d, Accepts 0x0402 d s → 256 ≤ d.target → s.pgnHost (d.target - 256) = true →
      Completes (.setTarget d) s (fun t => Waits 0x0402 d (.setPgn (d.target - 256) (sx 32 (d.par 0))) s t
        ∧ t = { s with now := max s.now d.t, hif := { s.hif with flights := t.hif.flights, pend := t.hif.pend } }))
  ∧ (∀ (s : State) d, Accepts 0x0403 d s → (d.par 0 = 0 ∨ d.par 1 = 0 ∨ d.par 2 = 0) →
      Completes (.pgnLimits d) s (fun t => Finishes 0x0403 d .refused 0 s t
        ∧ t = { s with now := max s.now d.t, hif := { s.hif with flights := t.hif.flights } }))
  ∧ (∀ (s : State) d, Accepts 0x0403 d s → d.par 0 ≠ 0 → d.par 1 ≠ 0 → d.par 2 ≠ 0 →
      Completes (.pgnLimits d) s (fun t => Waits 0x0403 d (.pgnLimits d.target (d.par 0) (d.par 1) (d.par 2)) s t
        ∧ t = { s with now := max s.now d.t, hif := { s.hif with flights := t.hif.flights, pend := t.hif.pend } }))

/-- R169, R172 to R174, R176, R180, R181.  A run is released once its inputs' time has passed, and its lane turns to it when the
lane is free or its deadline is the earlier; an invalid input raises EV99 at most once a second.  The run that its lane is at
completes.  At END the run's outputs and state words wait: nothing reaches a target or the context's state, the overrun count
is 0, and the run's sat flag shows.  At its boundary a complete run's words join the state and its output reaches its leg.
A run that reaches its deadline incomplete is dropped whole, counted and reported with EV96; at ovr_max the context is
STOPPED, with EV97. -/
def Obligations.LoopRuns : Prop :=
  (∀ (s : State) t0 c r, s.supply.ok = true → s.up dCtrl = true → (s.ctx c).run = some r → r.released = false →
      r.tick + (s.ctx c).tIn ≤ max s.now t0 → (s.tbu.count < r.due ∨ max s.now t0 < s.tbu.nextB) →
      Completes (.ctxRunRelease t0 c) s (fun t => ∃ r', (t.ctx c).run = some r' ∧ r'.released = true ∧ r'.k = r.k
        ∧ r'.tick = r.tick ∧ r'.due = r.due ∧ r'.done = r.done
        ∧ ((∀ x ∈ s.binds c false, x.2.kind ≠ 2) → r'.ins = r.ins ∧ r'.inv = r.inv)
        ∧ (r'.inv = 0 → t.evr = s.evr)
        ∧ (r'.inv ≠ 0 → (s.ctx c).ev99 = 0 → ∃ j, Raises [(99, [c, j])] s t)
        ∧ (t.ctx c).words = (s.ctx c).words ∧ (t.ctx c).outs = (s.ctx c).outs ∧ (∀ k, k ≠ c → t.ctx k = s.ctx k)
        ∧ (∀ l, l ≠ s.ctxLane c → getD t.lpe.lanes l (0, none) = getD s.lpe.lanes l (0, none))
        ∧ (s.laneRun (s.ctxLane c) = none → getD t.lpe.lanes (s.ctxLane c) (0, none) = (c, none))
        ∧ (∀ y, s.laneRun (s.ctxLane c) = some y → r.due < y.2.due →
            getD t.lpe.lanes (s.ctxLane c) (0, none) = (c, some y.1))
        ∧ (∀ y, s.laneRun (s.ctxLane c) = some y → y.2.due < r.due → (getD t.lpe.lanes (s.ctxLane c) (0, none)).1 = y.1)
        ∧ t = { s with now := max s.now t0, lpe := { s.lpe with ctxs := t.lpe.ctxs, lanes := t.lpe.lanes }
                       hif := t.hif, evr := t.evr }))
  ∧ (∀ (s : State) t0 c busy r, s.supply.ok = true → s.up dCtrl = true → (s.ctx c).run = some r → r.released = true →
      r.abandoned = false → r.done = none → (s.tbu.count < r.due ∨ max s.now t0 < s.tbu.nextB) →
      (∃ y, s.laneRun (s.ctxLane c) = some y ∧ y.1 = c) →
      Completes (.ctxRunComplete t0 c busy) s (fun t =>
        let p := s.runProgram c r
        let sat := p.sat || s.runLimits c p
        t.ctx c = { s.ctx c with
          run := some { r with done := some { tick := max s.now t0, outs := p.outW, words := p.wordW, sat := sat } }
          sat := sat, inBad := r.inv != 0, ovrRun := 0, ev98 := (t.ctx c).ev98 }
        ∧ (sat = true → (s.ctx c).ev98 = 0 → Raises [(98, [c])] s t) ∧ (sat = false → t.evr = s.evr)
        ∧ (∀ k, k ≠ c → t.ctx k = s.ctx k)
        ∧ t = { s with now := max s.now t0, lpe := { s.lpe with ctxs := t.lpe.ctxs, busyPk := t.lpe.busyPk }
                       hif := t.hif, evr := t.evr }))
  ∧ (∀ (s : State) t0 c r, s.supply.ok = true → s.up dCtrl = true → (s.ctx c).run = some r → r.done = none →
      r.due ≤ s.tbu.count → s.tbu.nextB ≤ max s.now t0 →
      Completes (.ctxOverrun t0 c) s (fun t =>
        (t.ctx c).run = none ∧ (t.ctx c).ovrRun = satInc 255 (s.ctx c).ovrRun
        ∧ (t.ctx c).ovrCnt = satInc 65535 (s.ctx c).ovrCnt ∧ (t.ctx c).words = (s.ctx c).words
        ∧ Raised 96 [c, s.tbu.nextB % 2 ^ 32, s.tbu.nextB / 2 ^ 32 % 2 ^ 32] s t
        ∧ (satInc 255 (s.ctx c).ovrRun < s.ctxOvrMax c → (t.ctx c).st = (s.ctx c).st ∧ (t.ctx c).outs = (s.ctx c).outs
            ∧ t = { s with now := max s.now t0, lpe := { s.lpe with ctxs := t.lpe.ctxs }, hif := t.hif, evr := t.evr })
        ∧ (s.ctxOvrMax c ≤ satInc 255 (s.ctx c).ovrRun → (t.ctx c).st = .stopped ∧ Raised 97 [c] s t
            ∧ (∀ x ∈ s.binds c true, x.2.kind = 1 → x.2.stop = 2 →
                (t.leg x.2.index).enabled = false ∧ (t.leg x.2.index).active = false)
            ∧ (∀ n, (∀ x ∈ s.binds c true, x.2.stop = 0 ∨ x.2.index ≠ n ∨ x.2.kind ≠ 1) → t.leg n = s.leg n))
        ∧ (∀ k, k ≠ c → t.ctx k = s.ctx k)))
  ∧ (∀ (s : State) c b r d, (s.ctx c).run = some r → r.done = some d →
      let t := s.runEffect c b
      (t.ctx c).run = none ∧ (t.ctx c).words = mergeWords (s.ctx c).words d.words
      ∧ (t.ctx c).slackMin = min (s.ctx c).slackMin (b - d.tick)
      ∧ (∀ x ∈ s.binds c true, x.2.kind = 1 → x.2.sub = 0 →
          (∀ y ∈ s.binds c true, y.2.kind = 1 → y.2.index = x.2.index → y.2.sub = 0 → y = x) →
          (∀ z, d.outs.find? (fun z => z.1 == x.1) = some z →
            (t.leg x.2.index).shadow.tc = (s.outVal x.2 z.2).1.toNat)
          ∧ (d.outs.find? (fun z => z.1 == x.1) = none → (t.leg x.2.index).shadow.tc = (s.leg x.2.index).shadow.tc)))

/-- R171, R197, R202, R204, R205, Tables 8.4, 8.7.  Rounding gives a nearest step, the even one of two as near.  ADD and SUB of
frac16 operands limit to the frac16 range and set sat when they limit; ADDW, SUBW and MULW wrap modulo 2^32 and leave sat;
MUL rounds the product to nearest.  They write their one result and go on to the next instruction.  A PID's output never
exceeds its limit, and its integrator holds while the output is beyond the limit in the direction of its change.  The
result of VLIM never exceeds its limit in magnitude, and a vector within it is unchanged. -/
def Obligations.LoopArithmetic : Prop :=
  (∀ (n : Int) (m : Nat), 0 < m → 2 * (roundEven n m * m - n).natAbs ≤ m
      ∧ (2 * (roundEven n m * m - n).natAbs = m → roundEven n m % 2 = 0))
  ∧ (∀ (r : RunSt) (w : Nat), bits w 25 20 < 16 →
      let d := bits w 25 20
      let a := bits w 19 14
      let b := bits w 13 8
      let t := r.instr w
      (bits w 31 26 = 0x08 → sx 16 (t.rd d) = clampI (-32768) 32767 (r.rf a + r.rf b)
        ∧ (t.sat = true ↔ r.sat = true ∨ r.rf a + r.rf b < -32768 ∨ 32767 < r.rf a + r.rf b))
      ∧ (bits w 31 26 = 0x09 → sx 16 (t.rd d) = clampI (-32768) 32767 (r.rf a - r.rf b)
        ∧ (t.sat = true ↔ r.sat = true ∨ r.rf a - r.rf b < -32768 ∨ 32767 < r.rf a - r.rf b))
      ∧ (bits w 31 26 = 0x0F → sx 16 (t.rd d) = clampI (-32768) 32767 (roundEven (r.rf a * r.rf b) 32768)
        ∧ (t.sat = true ↔ r.sat = true ∨ (r.rf a = -32768 ∧ r.rf b = -32768)))
      ∧ (bits w 31 26 = 0x14 → t.rd d = (r.rd a + r.rd b) % 2 ^ 32 ∧ t.sat = r.sat)
      ∧ (bits w 31 26 = 0x15 → (r.rd b ≤ 2 ^ 32 → (t.rd d + r.rd b) % 2 ^ 32 = r.rd a % 2 ^ 32) ∧ t.sat = r.sat)
      ∧ (bits w 31 26 = 0x16 → t.rd d = (r.rd a * r.rd b) % 2 ^ 32 ∧ t.sat = r.sat)
      ∧ ((bits w 31 26 = 0x08 ∨ bits w 31 26 = 0x09 ∨ bits w 31 26 = 0x0F ∨ bits w 31 26 = 0x14 ∨ bits w 31 26 = 0x15
            ∨ bits w 31 26 = 0x16) →
          t = { r with pc := r.pc + 1, w := t.w, sat := t.sat } ∧ ∀ c, c ≠ d → getD t.w c 0 = getD r.w c 0))
  ∧ (∀ (r : RunSt) (d a m : Nat), d + 1 < 16 →
      let t := r.pid d a m
      let L := clampI (-32768) 32767 ((r.rf d).natAbs : Int)
      let i := r.acc40 (m + 3)
      let g := (satA (coef (r.word (m + 1)) (r.rf a))).1
      let p := (satA (coef (r.word m) (r.rf a))).1
      let q := (satA (coef (r.word (m + 2)) (r.rf a - sx 16 (r.word (m + 5))))).1
      let u := (satA (p + (satA (i + g)).1 + q)).1
      (sx 16 (t.rd d)).natAbs ≤ L.natAbs
      ∧ ((L * 32768 < u ∧ 0 < g ∨ u < -(L * 32768) ∧ g < 0) → t.acc40 (m + 3) = i)
      ∧ (¬ (L * 32768 < u ∧ 0 < g ∨ u < -(L * 32768) ∧ g < 0) → (t.acc40 (m + 3)).natAbs ≤ (L * 32768).natAbs)
      ∧ sx 16 (t.word (m + 5)) = r.rf a)
  ∧ (∀ (r : RunSt) (d a b : Nat), d + 2 < 16 →
      let t := r.vlim d a b
      let L := clampI (-32768) 32767 ((r.rf b).natAbs : Int)
      sx 16 (t.rd d) * sx 16 (t.rd d) + sx 16 (t.rd (d + 1)) * sx 16 (t.rd (d + 1)) ≤ L * L
      ∧ (r.rf a * r.rf a + r.rf (a + 1) * r.rf (a + 1) ≤ L * L →
          sx 16 (t.rd d) = r.rf a ∧ sx 16 (t.rd (d + 1)) = r.rf (a + 1) ∧ t.rd (d + 2) = 0)
      ∧ (L * L < r.rf a * r.rf a + r.rf (a + 1) * r.rf (a + 1) → t.rd (d + 2) = 1))

/-- R209 to R212, Table 8.10.  A load starts only before lock, with the clapper stopped and no other under way; started with the
clapper running it ends with CLAPPER_RUNNING.  A read error, an image that fails a check and a SWAP image end the load with
their result, EV107 and nothing changed.  An accepted image is applied whole: each of its contexts is allocated, IDLE, and
holds the image's initial state; its registers hold its period, phase, set, lane, enable and overrun limit. -/
def Obligations.BootImages : Prop :=
  (∀ (s : State) t0, s.supply.ok = true → s.up dCtrl = true → s.lock.locked = false → s.lpe.imgBusy = false →
      Completes (.imageLoadStart t0) s (fun t =>
        (s.tbu.running = false → t = { s with now := max s.now t0
                                              lpe := { s.lpe with imgBusy := true, imgResult := 0, imgFail := 0 } })
        ∧ (s.tbu.running = true → Raises [(107, [9, 0])] s t
            ∧ t = { s with now := max s.now t0, lpe := { s.lpe with imgBusy := false, imgResult := 9, imgFail := 0 }
                           hif := t.hif, evr := t.evr })))
  ∧ (∀ (s : State) t0, s.supply.ok = true → s.up dCtrl = true → s.lock.locked = true →
      Completes (.imageLoadStart t0) s (fun t => Raises [(251, [0x385C])] s t
        ∧ t = { s with now := max s.now t0, hif := t.hif, evr := t.evr }))
  ∧ (∀ (s : State) t0, s.supply.ok = true → s.lock.locked = false → s.lpe.imgBusy = true →
      Completes (.imageLoadStart t0) s (fun t => t = { s with now := max s.now t0 }))
  ∧ (∀ (s : State) t0 bytes, s.supply.ok = true → s.up dCtrl = true → s.lpe.imgBusy = true →
      Completes (.imageLoadDone t0 bytes true) s (fun t => Raises [(107, [10, 0])] s t
        ∧ t = { s with now := max s.now t0, lpe := { s.lpe with imgBusy := false, imgResult := 10, imgFail := 0 }
                       hif := t.hif, evr := t.evr }))
  ∧ (∀ (s : State) t0 bytes, s.supply.ok = true → s.up dCtrl = true → s.lpe.imgBusy = true →
      Completes (.imageLoadDone t0 bytes false) s (fun t =>
        let l := bytes.take (s.fld 0x3858 20 0)
        (∀ e, (parseImg l = .error e ∨ (∃ g, parseImg l = .ok g ∧ g.kind = 1 ∧ imgSigned (s.keyOk 1) l = some e)
              ∨ ∃ g, parseImg l = .ok g ∧ g.kind = 1 ∧ imgSigned (s.keyOk 1) l = none ∧ s.imgFits g = some e) →
            e.1 ≠ 1 → Raises [(107, [e.1, e.2])] s t
            ∧ t = { s with now := max s.now t0, lpe := { s.lpe with imgBusy := false, imgResult := e.1, imgFail := e.2 }
                           hif := t.hif, evr := t.evr })
        ∧ (∀ g, parseImg l = .ok g → g.kind ≠ 1 → Raises [(107, [11, 6])] s t
            ∧ t = { s with now := max s.now t0, lpe := { s.lpe with imgBusy := false, imgResult := 11, imgFail := 6 }
                           hif := t.hif, evr := t.evr })
        ∧ (∀ g, parseImg l = .ok g → g.kind = 1 → imgSigned (s.keyOk 1) l = none → s.imgFits g = none →
            (g.ctxs.map (fun x => x.c)).Nodup →
            t.lpe.imgBusy = false ∧ t.lpe.imgResult = 1 ∧ t.lpe.imgFail = 0 ∧ t.evr = s.evr
            ∧ (∀ x ∈ g.ctxs, (t.ctx x.c).alloc = true ∧ (t.ctx x.c).st = .idle ∧ (t.ctx x.c).words = x.words)
            ∧ (∀ x ∈ g.ctxs, x.c < 192 → x.n < 8192 → x.phase < 4096 → x.lane < 4 → x.ovrMax < 256 → g.set < 32 →
                t.ctxN x.c = x.n ∧ t.ctxPhase x.c = x.phase ∧ t.ctxSet x.c = g.set ∧ t.ctxLane x.c = x.lane
                ∧ t.ctxEn x.c = x.en ∧ t.ctxOvrMax x.c = x.ovrMax)
            ∧ (∀ k, (∀ x ∈ g.ctxs, x.c ≠ k) → t.ctx k = s.ctx k)
            ∧ (∃ st, t.lpe.sets = s.lpe.sets ++ [(g.set, st)] ∧ st.prog = g.prog ∧ st.ptab = g.ptab ∧ st.consts = g.consts)
            ∧ t = { s with now := max s.now t0, lpe := t.lpe, secu := t.secu, free := t.free })))

/-- R185, R186, R188 to R190, Table 7.12, for one update with the target and limits taken at the last.  acc changes by at most the
jerk limit's step; acc and vel within their limits stay within them; a unit in POS mode at rest on its target stays
there; over_lim is set exactly while a limit is exceeded; at_tgt is set only at the target and at rest. -/
def Obligations.ProfileGenerators : Prop :=
  ∀ (s : State) u tgt vMax aMax jMax,
    let p := s.pgn u
    let q := (s.pgnUpdate u tgt vMax aMax jMax).pgn u
    (q.acc - p.acc).natAbs ≤ s.pgnStep u jMax
    ∧ (p.acc.natAbs ≤ aMax → q.acc.natAbs ≤ aMax) ∧ (p.vel.natAbs ≤ vMax → q.vel.natAbs ≤ vMax)
    ∧ (s.pgnVel u = false → p.pos = tgt → p.vel = 0 → p.acc = 0 → q.pos = tgt ∧ q.vel = 0 ∧ q.acc = 0)
    ∧ (p.taken = some (tgt, vMax, aMax, jMax) → (q.overLim = true ↔ vMax < q.vel.natAbs ∨ aMax < q.acc.natAbs))
    ∧ (q.atTgt = true → p.atTgt = false → q.pos = tgt ∧ q.vel = 0 ∧ q.acc = 0 ∧ tgt = p.tgt)
    ∧ ((q.tgt, q.vMax, q.aMax, q.jMax, q.active, q.cnt) = (p.tgt, p.vMax, p.aMax, p.jMax, p.active, p.cnt))
    ∧ ∀ k, k ≠ u → (s.pgnUpdate u tgt vMax aMax jMax).pgn k = s.pgn k

/-! ### The commutation units (chapter 09) -/

/-- R220, R224, R234, R244, Table 9.12.  CMU_START is REFUSED unless the unit is enabled, passed its check, is OFF or in FAULT,
meets R220 and its group is in RUN; CMU_STOP is REFUSED in OFF, and CMU_SET where LPE gives the command.  An accepted start or
stop waits in the unit for a boundary, since every change of state takes effect at one; an accepted CMU_SET waits with its
value.  No state, bridge or other unit changes. -/
def Obligations.CommutationCommands : Prop :=
  (∀ (s : State) d, Accepts 0x0500 d s →
      let v := s.cmu d.target
      let good := (v.st = .off ∨ v.st = .fault) ∧ s.rb (cmuBase d.target) 31 = true ∧ v.bad = false
        ∧ s.cmuGrpRun d.target = true ∧ s.cmuOk d.target = true
      (¬ good → Completes (.cmuStart d) s (fun t => Finishes 0x0500 d .refused 0 s t
        ∧ t = { s with now := max s.now d.t, hif := { s.hif with flights := t.hif.flights } }))
      ∧ (good → Completes (.cmuStart d) s (fun t => Finishes 0x0500 d .ok 0 s t
        ∧ t.cmu d.target = { v with req := v.req ++ [(1, d.t)] } ∧ (∀ k, k ≠ d.target → t.cmu k = s.cmu k)
        ∧ t = { s with now := max s.now d.t, cmus := t.cmus, hif := { s.hif with flights := t.hif.flights } })))
  ∧ (∀ (s : State) d, Accepts 0x0501 d s →
      let v := s.cmu d.target
      (v.st = .off → Completes (.cmuStop d) s (fun t => Finishes 0x0501 d .refused 0 s t
        ∧ t = { s with now := max s.now d.t, hif := { s.hif with flights := t.hif.flights } }))
      ∧ (v.st ≠ .off → Completes (.cmuStop d) s (fun t => Finishes 0x0501 d .ok 0 s t
        ∧ t.cmu d.target = { v with req := v.req ++ [(2, d.t)] } ∧ (∀ k, k ≠ d.target → t.cmu k = s.cmu k)
        ∧ t = { s with now := max s.now d.t, cmus := t.cmus, hif := { s.hif with flights := t.hif.flights } })))
  ∧ (∀ (s : State) d, Accepts 0x0502 d s →
      (s.rb (cmuBase d.target) 26 = true → Completes (.cmuSet d) s (fun t => Finishes 0x0502 d .refused 0 s t
        ∧ t = { s with now := max s.now d.t, hif := { s.hif with flights := t.hif.flights } }))
      ∧ (s.rb (cmuBase d.target) 26 = false → Completes (.cmuSet d) s (fun t =>
          Waits 0x0502 d (.cmuSet d.target (sx 32 (d.par 0))) s t
          ∧ t = { s with now := max s.now d.t, hif := { s.hif with flights := t.hif.flights, pend := t.hif.pend } })))

/-- R221, R225 to R233, Tables 9.3, 9.4.  When its time has passed at a boundary, LISTEN ends as the measured speed says: below stand_rpm in
PRECHARGE with STANDSTILL; reverse below brk_rpm in BRAKE; reverse from brk_rpm on in WAIT_RETRY with cause REVERSE; forward
in PRECHARGE with CATCH, or in BRAKE for a SENSORLESS unit below catch_rpm; a hall fault ends in FAULT.  A reverse speed of at
least stand_rpm sets rev_seen and raises EV111 in each case.  BRAKE, PRECHARGE, ALIGN, RAMP, WAIT_RETRY and STOPPING end as
Table 9.3 says.  A stall, or NO_SYNC, is kept with those of the last 60 s and leads to WAIT_RETRY, or to FAULT when it is the
stall_max-th.  A driving state has the bridge enabled, or FAULT where a leg fails R72; any other state floats it.  No other
unit or leg changes. -/
def Obligations.CommutationStarts : Prop :=
  (∀ (s : State) t0 u w, s.supply.ok = true → s.up dImpl = true → u < 12 → (s.cmu u).st = .listen →
      (s.cmu u).since + s.fld (cmuBase u + 0x14) 31 24 * ticksPerMs ≤ (s.advance t0).boundNow →
      Completes (.cmuListenEnd t0 u w) s (fun t =>
        let v := if s.cmuMode u = 2 then s.tapRpm u w else (s.advance t0).hallRpm u
        let rev := v ≠ 0 ∧ (decide (0 < v)) ≠ (s.cmu u).fwd
        let a := v.natAbs
        (s.cmuHallFault u = true → CmuRests u .fault 7 t ∧ (t.cmu u).outcome = 5 ∧ (t.cmu u).brakes = 0
          ∧ Raises [(110, [u, 7])] s t)
        ∧ (s.cmuHallFault u = false →
          (a < 4 * s.standRpm u → CmuDrives u .precharge s t ∧ (t.cmu u).outcome = 1 ∧ (t.cmu u).brakes = 0)
          ∧ (rev → 4 * s.standRpm u ≤ a → (t.cmu u).revSeen = true
              ∧ (a < 4 * s.fld (cmuBase u + 0x10) 31 16 → CmuDrives u .brake s t ∧ (t.cmu u).outcome = 3
                  ∧ (t.cmu u).brakes = (s.cmu u).brakes + 1 ∧ Raised 111 [u, toBits 32 v, 3] s t)
              ∧ (4 * s.fld (cmuBase u + 0x10) 31 16 ≤ a → CmuRests u .waitRetry 3 t ∧ (t.cmu u).outcome = 4
                  ∧ (t.cmu u).brakes = 0 ∧ Raises [(111, [u, toBits 32 v, 4])] s t))
          ∧ (¬ rev → 4 * s.standRpm u ≤ a → (t.cmu u).revSeen = (s.cmu u).revSeen
              ∧ (s.cmuMode u = 2 → a < 4 * s.fld (cmuBase u + 0xC) 31 16 →
                  CmuDrives u .brake s t ∧ (t.cmu u).outcome = 3 ∧ (t.cmu u).brakes = (s.cmu u).brakes + 1)
              ∧ (s.cmuMode u ≠ 2 ∨ 4 * s.fld (cmuBase u + 0xC) 31 16 ≤ a →
                  CmuDrives u .precharge s t ∧ (t.cmu u).outcome = 2 ∧ (t.cmu u).brakes = 0 ∧ (t.cmu u).found = v)))
        ∧ CmuFrame u s t))
  ∧ (∀ (s : State) t0 u, s.supply.ok = true → s.up dImpl = true → (s.cmu u).st = .brake →
      (s.cmu u).since + s.fld (cmuBase u + 0x18) 15 0 * ticksPerMs ≤ (s.advance t0).boundNow →
      Completes (.cmuBrakeEnd t0 u) s (fun t =>
        ((s.cmu u).brakes < 3 → CmuRests u .listen (s.cmu u).cause t ∧ t.evr = s.evr)
        ∧ (3 ≤ (s.cmu u).brakes → CmuRests u .fault 4 t ∧ Raises [(115, [u, 4]), (110, [u, 4])] s t)
        ∧ CmuFrame u s t))
  ∧ (∀ (s : State) t0 u, s.supply.ok = true → s.up dImpl = true → (s.cmu u).st = .precharge →
      (s.cmu u).since + s.fld (cmuBase u + 0x14) 23 16 * 40000 ≤ (s.advance t0).boundNow →
      Completes (.cmuPrechargeEnd t0 u) s (fun t =>
        ((s.cmu u).catching = true → CmuDrives u .run s t
          ∧ ((t.cmu u).st = .run → (t.cmu u).target = (s.cmu u).found * 100000000))
        ∧ ((s.cmu u).catching = false → s.cmuMode u = 2 → CmuDrives u .align s t)
        ∧ ((s.cmu u).catching = false → s.cmuMode u ≠ 2 → CmuDrives u .run s t
          ∧ ((t.cmu u).st = .run → (t.cmu u).target = 0))
        ∧ CmuFrame u s t))
  ∧ (∀ (s : State) t0 u, s.supply.ok = true → s.up dImpl = true → (s.cmu u).st = .align →
      (s.cmu u).since + s.fld (cmuBase u + 0x14) 15 0 * ticksPerMs ≤ (s.advance t0).boundNow →
      Completes (.cmuAlignEnd t0 u) s (fun t => CmuDrives u .ramp s t ∧ CmuFrame u s t))
  ∧ (∀ (s : State) t0 u w, s.supply.ok = true → s.up dImpl = true → (s.cmu u).st = .ramp → s.rampReach u ≤ (s.advance t0).boundNow →
      5 * (w - (if (s.cmu u).fwd then (4 * s.handRpm u : Int) else -(4 * s.handRpm u : Int))).natAbs ≤ 4 * s.handRpm u →
      Completes (.cmuHandOver t0 u w) s (fun t => CmuDrives u .run s t
        ∧ ((t.cmu u).st = .run → (t.cmu u).target = w * 100000000 ∧ (t.cmu u).obs = w) ∧ CmuFrame u s t))
  ∧ (∀ (s : State) c u n cause, s.supply.ok = true → s.up dImpl = true →
      ((∃ t0, c = .cmuNoSync t0 u ∧ n = max s.now t0 ∧ cause = 5 ∧ (s.cmu u).st = .ramp
          ∧ s.rampReach u + 200 * ticksPerMs ≤ (s.advance t0).boundNow)
       ∨ (∃ t0, c = .cmuStall t0 u ∧ n = max s.now t0 ∧ cause = (if s.cmuHallFault u then 7 else 6) ∧ (s.cmu u).st = .run
          ∧ (s.cmuHallFault u = true ∨ ∃ k, (s.cmu u).loop.low = some k
              ∧ k + (if s.cmuMode u = 2 then 50 else 500) * ticksPerMs ≤ (s.advance t0).boundNow))) →
      Completes c s (fun t =>
        let recent := (s.cmu u).stalls.filter (fun k => n < k + 60 * ticksPerS)
        t.now = n ∧ (t.cmu u).stalls = n :: recent
        ∧ (recent.length + 1 < s.fld (cmuBase u + 0x24) 11 8 → CmuRests u .waitRetry cause t ∧ Raises [(115, [u, cause])] s t)
        ∧ (s.fld (cmuBase u + 0x24) 11 8 ≤ recent.length + 1 →
            CmuRests u .fault cause t ∧ Raises [(115, [u, cause]), (110, [u, cause])] s t)
        ∧ CmuFrame u s t))
  ∧ (∀ (s : State) t0 u, s.supply.ok = true → s.up dImpl = true → (s.cmu u).st = .waitRetry →
      (s.cmu u).since + s.fld (cmuBase u + 0x18) 31 16 * ticksPerMs ≤ (s.advance t0).boundNow →
      Completes (.cmuRetryEnd t0 u) s (fun t => CmuRests u .listen (s.cmu u).cause t ∧ t.evr = s.evr ∧ CmuFrame u s t))
  ∧ (∀ (s : State) t0 u, s.supply.ok = true → s.up dImpl = true → (s.cmu u).st = .stopping →
      ((s.advance t0).cmuRpm u).natAbs < 4 * s.standRpm u →
      Completes (.cmuStoppingDone t0 u) s (fun t =>
        CmuRests u (if s.cmuKind u = 2 ∧ (s.cmu u).toOff = false then .armed else .off) (s.cmu u).cause t
        ∧ Raises [(110, [u, (s.cmu u).cause])] s t ∧ CmuFrame u s t))

/-! ### The gearbox sequencer (chapter 10) -/

/-- R249, R250, R253 to R256, Tables 10.1, 10.2.  A gearbox command waits for the sequencer's next step; without a running
sequencer it is REFUSED.  At the step GEAR_REF outside IDLE is REFUSED and otherwise sets every actuator's origin, the
reference, the gear, park and pto.  GEAR_SHIFT is BUSY outside IDLE and REFUSED as R253 says, and otherwise moves only the forks
whose detents differ and enters UNLOAD, or DISENGAGE from BETWEEN.  GEAR_STOP is REFUSED in IDLE, reloads from UNLOAD, and from
DISENGAGE, SYNC and ENGAGE sends the forks to N.  Park engages only in IDLE at no more than park_max; PTO_SET is BUSY
while GX3 moves. -/
def Obligations.GearboxCommands : Prop :=
  (∀ (s : State) d code c, ((code, c) = (0x0600, Instr.gearRef d) ∨ (code, c) = (0x0601, .gearShift d)
        ∨ (code, c) = (0x0602, .gearStop d) ∨ (code, c) = (0x0603, .parkSet d) ∨ (code, c) = (0x0604, .ptoSet d)) →
      Accepts code d s → Completes c s (fun t =>
        (s.gbx.run = false → Finishes code d .refused 0 s t
          ∧ t = { s with now := max s.now d.t, hif := { s.hif with flights := t.hif.flights } })
        ∧ (s.gbx.run = true → t = { s with
            now := max s.now d.t
            gbx := { s.gbx with cmds := s.gbx.cmds ++ [{ op := code, sq := d.sq, tick := d.t, p := d.p }] }
            hif := { s.hif with flights := (s.received code d).hif.flights } })))
  ∧ (∀ (s : State) (p : List Nat),
      let g := p.getD 0 0
      let t := (s.gearRef p).1
      (s.gbx.st ≠ .idle → s.gearRef p = (s, .refused))
      ∧ (s.gbx.st = .idle → g ≤ 4 → p.getD 1 0 ≤ 1 → p.getD 2 0 ≤ 1 → (s.gearRef p).2 = .ok ∧ t.gbx.ref = true
          ∧ t.gbx.gear = g ∧ t.gbx.park = p.getD 1 0 ∧ t.gbx.pto = p.getD 2 0 ∧ t.gbx.st = .idle
          ∧ t.gbx.factor = (if 1 ≤ g ∧ p.getD 1 0 = 0 then 0x7FFF else 0) ∧ t.gbx.sync = 0x8000
          ∧ (∀ k < 2, t.actPos k = s.detOfs k (forkDet g k) ∧ (t.act k).at' = [forkDet g k])
          ∧ (∀ k, k = 2 ∨ k = 3 → let e := if p.getD (k - 1) 0 = 1 then 1 else 2
              t.actPos k = s.detOfs k e ∧ (t.act k).at' = [e])
          ∧ t = { s with gbx := t.gbx, lpe := { s.lpe with ctxs := t.lpe.ctxs }, hif := t.hif, evr := t.evr }))
  ∧ (∀ (s : State) tgt,
      let bad := s.gbx.ref = false ∨ s.gbx.park ≠ 0 ∨ s.cmuGrpRun 0 = false ∨ s.cmuGrpRun 1 = false ∨ (s.cmu 0).st ≠ .run
        ∨ (s.cmu 1).st ≠ .run ∨ (0 < tgt ∧ s.fld 0x3F48 31 16 * 16384 < s.outSpd.natAbs * s.ratio tgt)
      let t := (s.gearShift tgt).1
      (s.gbx.st ≠ .idle → s.gearShift tgt = (s, .busy))
      ∧ (s.gbx.st = .idle → bad → s.gearShift tgt = (s, .refused))
      ∧ (s.gbx.st = .idle → ¬ bad → (s.gearShift tgt).2 = .ok ∧ t.gbx.tgt = tgt ∧ t.gbx.old = s.gbx.gear
          ∧ (∀ k, k ∈ t.gbx.movers ↔ k < 2 ∧ (4 < s.gbx.gear ∨ forkDet s.gbx.gear k ≠ forkDet tgt k))
          ∧ (s.gbx.gear ≤ 4 → t.gbx.st = .unload ∧ t.gbx.dl = s.gbxTick + s.fld 0x3F4C 31 16 * ticksPerMs
              ∧ t = { s with gbx := t.gbx })
          ∧ (4 < s.gbx.gear → t.gbx.st = .disengage ∧ t.gbx.dl = s.gbxTick + s.fld 0x3F50 31 16 * ticksPerMs
              ∧ (∀ k ∈ t.gbx.movers, (t.act k).want = some 0) ∧ t.gbx.factor = 0
              ∧ t = { s with gbx := t.gbx, lpe := { s.lpe with ctxs := t.lpe.ctxs, pgns := t.lpe.pgns } })))
  ∧ (∀ (s : State),
      let t := s.gearStop.1
      (s.gbx.st = .idle → s.gearStop = (s, .refused))
      ∧ (s.gbx.st = .unload → s.gearStop.2 = .ok ∧ t.gbx.st = .reload ∧ t.gbx.outcome = 7
          ∧ t.gbx.dl = s.gbxTick + s.fld 0x3F4C 15 0 * ticksPerMs ∧ t = { s with gbx := t.gbx })
      ∧ (s.gbx.st = .disengage ∨ s.gbx.st = .sync ∨ s.gbx.st = .engage → s.gearStop.2 = .ok ∧ t.gbx.st = .disengage
          ∧ t.gbx.toN = true ∧ t.gbx.outcome = 7 ∧ t.gbx.factor = 0 ∧ t.gbx.sync = 0x8000
          ∧ (∀ k ∈ s.gbx.movers, (t.act k).want = some 0)
          ∧ t = { s with gbx := t.gbx, lpe := { s.lpe with ctxs := t.lpe.ctxs, pgns := t.lpe.pgns } }))
  ∧ (∀ (s : State) v, s.gbx.ref = false → s.parkSet v = (s, .refused) ∧ s.ptoSet v = (s, .refused))
  ∧ (∀ (s : State), s.gbx.ref = true →
      (s.gbx.st ≠ .idle ∨ 4 * s.fld 0x3F48 15 0 < s.outSpd.natAbs → s.parkSet 1 = (s, .refused))
      ∧ (s.gbx.st = .idle → s.outSpd.natAbs ≤ 4 * s.fld 0x3F48 15 0 →
          s.parkSet 1 = ({ s with gbx := { s.gbx with parkRamp := some (s.gbxTick, s.gbx.factor) } }, .ok))
      ∧ ((s.parkSet 0).2 = .ok ∧ ((s.parkSet 0).1.act 2).want = some 2 ∧ (s.parkSet 0).1.gbx.parkRamp = none
          ∧ (s.parkSet 0).1 = { s with gbx := (s.parkSet 0).1.gbx, lpe := { s.lpe with pgns := (s.parkSet 0).1.lpe.pgns } })
      ∧ (s.gbx.pto = 2 → ∀ v, s.ptoSet v = (s, .busy))
      ∧ (s.gbx.pto ≠ 2 → ∀ v, (s.ptoSet v).2 = .ok ∧ ((s.ptoSet v).1.act 3).want = some (if v = 1 then 1 else 2)
          ∧ (s.ptoSet v).1 = { s with gbx := (s.ptoSet v).1.gbx, lpe := { s.lpe with pgns := (s.ptoSet v).1.lpe.pgns } }))

/-- R248, R250, R252 to R255, Table 10.2.  A step is due at the first boundary at or after its millisecond.  It moves the
next one to the following whole millisecond, takes the waiting commands of no later tick after the stage exits, and in IDLE
with no park ramp leaves FACTOR as R252 gives it; a moving actuator whose group is not in RUN puts the sequence into HALT with
outcome TRIP and no target written, before any stage exits.  At the end of UNLOAD every moving fork targets N; RELOAD ends
in IDLE, with EV116 or EV117.  A timeout of DISENGAGE reloads with STUCK_IN_GEAR; the first of SYNC goes back to the old gear,
the second ends with SYNC_FAIL; ENGAGE retries eng_retry times through N and then fails.  An actuator that has been within tol
of a detent for settle_ms is at it, and at none that it is not within tol of; when every moving fork is at its own, ENGAGE
goes to RELOAD.  The gear reads BETWEEN exactly when a fork is at no detent. -/
def Obligations.GearboxSteps : Prop :=
  (∀ (s : State) t0, s.supply.ok = true → (s.advance t0).gbxUp = true → s.gbx.next ≤ s.tbu.lastB →
      Completes (.gbxStep t0) s (fun t => ∃ u : State,
        t = ((s.gbx.cmds.filter (fun c => c.tick ≤ s.tbu.lastB)).foldl (fun s c => s.gbxCmd c) u).gbxFactor
        ∧ u.gbx.cmds = s.gbx.cmds.filter (fun c => s.tbu.lastB < c.tick) ∧ u.hif.flights = s.hif.flights
        ∧ u.now = max s.now t0 ∧ s.tbu.lastB < u.gbx.next ∧ u.gbx.next ≤ s.tbu.lastB + ticksPerMs
        ∧ (u.gbx.next - s.gbx.next) % ticksPerMs = 0
        ∧ (s.gbx.st = .idle → s.gbx.parkRamp = none → u.gbx.st = .idle ∧ u.gbx.factor = u.factorRest
            ∧ u.gbx.outcome = s.gbx.outcome)
        ∧ (s.gbx.st ≠ .idle → s.gbx.st ≠ .halt → (∃ k ∈ s.gbx.movers, s.cmuGrpRun k = false) →
            u.gbx.st = .halt ∧ u.gbx.outcome = 6 ∧ (s.gbx.parkRamp = none → u.lpe.pgns = s.lpe.pgns))
        ∧ (s.gbx.st = .halt → (u.gbx.st = .idle ∨ u.gbx.st = .halt)
            ∧ (u.gbx.st = .idle ↔ ∀ i < 4, s.rb (cmuBase i) 31 = true → (s.cmu i).st = .run))
        ∧ (u.gbx.gear = 7 ↔ (u.act 0).at' = [] ∨ (u.act 1).at' = [])
        ∧ u = { s with now := max s.now t0, gbx := u.gbx
                       lpe := { s.lpe with ctxs := u.lpe.ctxs, pgns := u.lpe.pgns }, hif := u.hif, evr := u.evr }))
  ∧ (∀ (s : State) t0 c, (c = .gbxStep t0 ∨ c = .gbxRampEnd t0 ∨ c = .gbxStageTimeout t0 ∨ ∃ k, c = .gbxDetentReached t0 k) →
      s.supply.ok = true → s.tbu.lastB < s.gbx.next → Completes c s (fun t => t = { s with now := max s.now t0 }))
  ∧ (∀ (s : State) t0 c, (c = .gbxRampEnd t0 ∨ c = .gbxStageTimeout t0 ∨ ∃ k < 4, c = .gbxDetentReached t0 k) →
      s.supply.ok = true → (s.advance t0).gbxDue = true → s.gbx.st ≠ .idle → s.gbx.st ≠ .halt →
      (∃ k ∈ s.gbx.movers, s.cmuGrpRun k = false) →
      Completes c s (fun t => t.gbx.st = .halt ∧ t.gbx.outcome = 6 ∧ t.lpe.pgns = s.lpe.pgns))
  ∧ (∀ (s : State) t0, s.supply.ok = true → (s.advance t0).gbxDue = true → s.gbx.st ≠ .halt →
      (s.gbx.st = .idle ∨ ∀ k ∈ s.gbx.movers, s.cmuGrpRun k = true) →
      Completes (.gbxRampEnd t0) s (fun t =>
        (s.tbu.lastB < s.gbx.dl ∨ (s.gbx.st ≠ .unload ∧ s.gbx.st ≠ .reload) → t = { s with now := max s.now t0 })
        ∧ (s.gbx.dl ≤ s.tbu.lastB → s.gbx.st = .unload → t.gbx.st = .disengage ∧ t.gbx.factor = 0
            ∧ t.gbx.dl = s.tbu.lastB + s.fld 0x3F50 31 16 * ticksPerMs ∧ (∀ k ∈ s.gbx.movers, (t.act k).want = some 0)
            ∧ t.evr = s.evr)
        ∧ (s.gbx.dl ≤ s.tbu.lastB → s.gbx.st = .reload → t.gbx.st = .idle ∧ t.gbx.gear = s.gearNow
            ∧ t.gbx.factor = t.factorRest
            ∧ (s.gbx.outcome ≤ 1 → t.gbx.outcome = 1 ∧ Raises [(116, [s.gearNow])] s t)
            ∧ (1 < s.gbx.outcome → t.gbx.outcome = s.gbx.outcome ∧ Raises [(117, [s.gbx.outcome])] s t))
        ∧ t = { s with now := max s.now t0, gbx := t.gbx
                       lpe := { s.lpe with ctxs := t.lpe.ctxs, pgns := t.lpe.pgns }, hif := t.hif, evr := t.evr }))
  ∧ (∀ (s : State) t0, s.supply.ok = true → (s.advance t0).gbxDue = true → s.gbx.st ≠ .halt →
      (s.gbx.st = .idle ∨ ∀ k ∈ s.gbx.movers, s.cmuGrpRun k = true) →
      Completes (.gbxStageTimeout t0) s (fun t =>
        (s.tbu.lastB < s.gbx.dl ∨ (s.gbx.st ≠ .disengage ∧ s.gbx.st ≠ .sync ∧ s.gbx.st ≠ .engage) →
            t = { s with now := max s.now t0 })
        ∧ (s.gbx.dl ≤ s.tbu.lastB →
          (s.gbx.st = .disengage → s.gbx.toN = false → t.gbx.st = .reload ∧ t.gbx.outcome = 2 ∧ t.evr = s.evr
              ∧ t.gbx.dl = s.tbu.lastB + s.fld 0x3F4C 15 0 * ticksPerMs
              ∧ (s.gbx.old ≤ 4 → ∀ k ∈ s.gbx.movers, (t.act k).want = some (forkDet s.gbx.old k)))
          ∧ (s.gbx.st = .sync → s.gbx.reverted = false → 1 ≤ s.gbx.old → s.gbx.old ≤ 4 → t.gbx.st = .sync
              ∧ t.gbx.reverted = true ∧ t.gbx.outcome = 3 ∧ t.syncGear = s.gbx.old ∧ t.evr = s.evr
              ∧ t.gbx.dl = s.tbu.lastB + s.fld 0x3F54 31 16 * ticksPerMs)
          ∧ (s.gbx.st = .sync → s.gbx.reverted = true → t.gbx.st = .idle ∧ t.gbx.outcome = 4 ∧ t.gbx.sync = 0x8000
              ∧ Raises [(117, [4])] s t)
          ∧ (s.gbx.st = .engage → s.gbx.retries < s.fld 0x3F40 11 8 → t.gbx.st = .disengage ∧ t.gbx.nudge = true
              ∧ t.gbx.retries = s.gbx.retries + 1 ∧ (∀ k ∈ s.gbx.movers, (t.act k).want = some 0) ∧ t.evr = s.evr)
          ∧ (s.gbx.st = .engage → s.fld 0x3F40 11 8 ≤ s.gbx.retries → t.gbx.st = .idle ∧ t.gbx.outcome = 5
              ∧ (∀ k ∈ s.gbx.movers, (t.act k).want = some 0) ∧ Raises [(117, [5])] s t))
        ∧ t = { s with now := max s.now t0, gbx := t.gbx
                       lpe := { s.lpe with ctxs := t.lpe.ctxs, pgns := t.lpe.pgns }, hif := t.hif, evr := t.evr }))
  ∧ (∀ (s : State) t0 k, s.supply.ok = true → (s.advance t0).gbxDue = true → k < 4 → s.gbx.st ≠ .halt →
      (s.gbx.st = .idle ∨ ∀ k ∈ s.gbx.movers, s.cmuGrpRun k = true) →
      Completes (.gbxDetentReached t0 k) s (fun t =>
        let a := (s.advance t0).actLook k
        (∀ d ∈ detsOf k, s.actNear k d = true →
            getD (s.act k).near d s.tbu.lastB + s.settleMs k * ticksPerMs ≤ s.tbu.lastB → d ∈ (t.act k).at')
        ∧ (∀ d, s.actNear k d = false ∨ d ∉ detsOf k → d ∉ (t.act k).at')
        ∧ (∀ j, j ≠ k → (t.act j).at' = (s.act j).at')
        ∧ (s.gbx.st = .engage → s.tbu.lastB < s.gbx.dl → a.forksThere = true → t.gbx.st = .reload ∧ t.gbx.sync = 0x8000
            ∧ t.gbx.dl = s.tbu.lastB + s.fld 0x3F4C 15 0 * ticksPerMs)
        ∧ (s.gbx.st = .idle ∨ s.gbx.dl ≤ s.tbu.lastB → t.gbx.st = s.gbx.st)
        ∧ (t.gbx.gear = 7 ↔ (t.act 0).at' = [] ∨ (t.act 1).at' = [])
        ∧ t = { s with now := max s.now t0, gbx := t.gbx
                       lpe := { s.lpe with ctxs := t.lpe.ctxs, pgns := t.lpe.pgns }, hif := t.hif, evr := t.evr }))

/-! ### The section engine and the cue memory (chapters 11 and 12) -/

/-- R279, R295, R296, R298, R299, R306, Table 12.7.  SEC_BASE, SEC_GATE and CUE_FLUSH are REFUSED, changing nothing, while SXE is
not running, on a count of 0, past section 159, on a disabled section and, SEC_BASE, on a value above 65,536; otherwise they
wait for the boundary.  CUE_APPEND is accepted whole or refused whole: beyond the limit or shared_free it is REFUSED with
EV130; accepted, it takes its entries from the pool at once, answers the entries pending after it, and joins the end of
the sheet at a boundary.  A flush empties the sheet, returns and counts its entries and, with CLOSE, closes the gate. -/
def Obligations.SectionCommands : Prop :=
  (∀ (s : State) d code c (ok : Bool) act, ((code = 0x0700 ∧ c = Instr.secBase d ∧ act = .secBase d.target d.count (d.par 0)
          ∧ ok = (s.secRange d.target d.count && decide (d.par 0 ≤ 65536)))
        ∨ (code = 0x0701 ∧ c = .secGate d ∧ act = .secGate d.target d.count (d.par 0 == 1) ∧ ok = s.secRange d.target d.count)
        ∨ (code = 0x0703 ∧ c = .cueFlush d ∧ act = .cueFlush d.target d.count (d.par 0 == 1)
          ∧ ok = s.secRange d.target d.count)) → Accepts code d s →
      Completes c s (fun t =>
        (ok = false → Finishes code d .refused 0 s t
          ∧ t = { s with now := max s.now d.t, hif := { s.hif with flights := t.hif.flights } })
        ∧ (ok = true → Waits code d act s t
          ∧ t = { s with now := max s.now d.t, hif := { s.hif with flights := t.hif.flights, pend := t.hif.pend } })))
  ∧ (∀ (s : State) d, Accepts 0x0702 d s → Completes (.cueAppend d) s (fun t =>
      let k := d.target
      let bad := s.sxe.running = false ∨ s.secEn k = false ∨ d.count = 0 ∨ 256 < d.count ∨ ∃ w ∈ cueWords d, cueLegal w = false
      let tooMany := s.secLimit k < (s.sec k).used + d.count
        ∨ s.sharedFree < (s.sec k).used + d.count - s.secReserve k - ((s.sec k).used - s.secReserve k)
      (bad → Finishes 0x0702 d .refused 0 s t
        ∧ t = { s with now := max s.now d.t, hif := { s.hif with flights := t.hif.flights } })
      ∧ (¬ bad → tooMany → Finishes 0x0702 d .refused 0 s t ∧ Raises [(130, [k, d.count])] s t
        ∧ t = { s with now := max s.now d.t, hif := t.hif, evr := t.evr })
      ∧ (¬ bad → ¬ tooMany →
        t.hif.flights = flightsDone 0x0702 d s .ok ((s.sec k).used + d.count) (max s.now d.t)
        ∧ t.hif.pend = s.hif.pend ++ [{ sq := d.sq, op := 0x0702, tick := d.t, act := .cueAppend k (cueWords d), decided := true }]
        ∧ t.sec k = { s.sec k with used := (s.sec k).used + d.count } ∧ (∀ j, j ≠ k → t.sec j = s.sec j)
        ∧ t = { s with now := max s.now d.t, sxe := { s.sxe with core := { s.sxe.core with
                          secs := t.sxe.core.secs, poolLow := t.sxe.core.poolLow } }, hif := t.hif, evr := t.evr })))
  ∧ (∀ (s : State) B k ws, let t := s.cueJoin B k ws
      (t.sec k).cues = (s.sec k).cues ++ ws.map (cueOf B) ∧ (∀ j, j ≠ k → t.sec j = s.sec j)
      ∧ t = { s with sxe := { s.sxe with core := { s.sxe.core with secs := t.sxe.core.secs } } })
  ∧ (∀ (s : State) k cl, let t := s.cueFlush k cl
      (t.sec k).cues = [] ∧ (t.sec k).armed = false ∧ (t.sec k).used = (s.sec k).used - (s.sec k).cues.length
      ∧ (t.sec k).cons = ((s.sec k).cons + (s.sec k).cues.length) % 2 ^ 32
      ∧ (t.sec k).gate = ((s.sec k).gate && !cl) ∧ (t.sec k).base = (s.sec k).base ∧ (t.sec k).d = (s.sec k).d
      ∧ (∀ j, j ≠ k → t.sec j = s.sec j)
      ∧ t = { s with sxe := { s.sxe with core := { s.sxe.core with secs := t.sxe.core.secs } } })

/-- R265, R268 to R272, R276, R302, R304, for one section in one update.  Its distance grows by exactly its lateral part of its
odometers' changes; its direction turns only at v_dir, and a change disarms the head cue.  In REV with HOLD_OFF its output
is off; its value never exceeds 65,536, and is base at ratio 1.  A cue pass takes cues from the head of the sheet alone, in
sheet order, counts each one and never more than cue_max, and changes no other section. -/
def Obligations.SectionUpdate : Prop :=
  (∀ (s : State) B k, let x := s.sec k
      let y := (s.secUpdate B k).sec k
      let l := s.odo (s.odoL (s.secAr k))
      let g := s.odo (s.odoR (s.secAr k))
      let vdir : Int := (s.fld (arBase (s.secAr k) + 4) 15 0 * 256 : Nat)
      y.d = x.d + 4096 * (l.d - l.was) + s.secF k * ((g.d - g.was) - (l.d - l.was))
      ∧ (y.rev = true ↔ (x.rev = false ∧ y.v ≤ -vdir) ∨ (x.rev = true ∧ y.v < vdir))
      ∧ (y.rev ≠ x.rev → y.armed = false ∧ (Raised 146 [k, if y.rev then 1 else 0] s (s.secUpdate B k) ∨ x.ev146 = B + 1))
      ∧ (y.rev = x.rev → y.armed = x.armed) ∧ y.r ≤ 65535 ∧ y.gate = x.gate ∧ y.cues = x.cues ∧ y.base = x.base
      ∧ (∀ j, j ≠ k → (s.secUpdate B k).sec j = s.sec j))
  ∧ (∀ (s : State) k, (s.secOut k).2 ≤ 65536
      ∧ ((s.sec k).rev = true → s.revPol k = 0 → (s.secOut k).1 = false)
      ∧ ((s.sec k).rev = false ∨ s.revPol k ≠ 0 → (s.secOut k).1 = (s.sec k).gate)
      ∧ (s.rb (secKey k) 26 = false ∨ (s.sec k).r = 4096 → (s.secOut k).2 = min 65536 (s.baseNow k))
      ∧ (s.rb (secKey k) 26 = true → (s.sec k).r = 0 → (s.secOut k).2 = 0))
  ∧ (∀ (s : State) B k fuel n, n ≤ s.cueMax → let t := (s.cueSec B k fuel n).1
      let m := (s.cueSec B k fuel n).2.1
      n ≤ m ∧ m ≤ s.cueMax ∧ (t.sec k).cues = (s.sec k).cues.drop (m - n) ∧ (t.sec k).gone = (s.sec k).gone + (m - n)
      ∧ (t.sec k).used = (s.sec k).used ∧ (t.sec k).gate = (s.sec k).gate ∧ (t.sec k).base = (s.sec k).base
      ∧ (∃ l, (t.sec k).acts = (s.sec k).acts ++ l ∧ l.length ≤ m - n
          ∧ l.Sublist (((s.sec k).cues.take (m - n)).map (fun c => (c.action, c.arg, c.pos))))
      ∧ (∀ j, j ≠ k → t.sec j = s.sec j)
      ∧ t = { s with sxe := { s.sxe with core := { s.sxe.core with secs := t.sxe.core.secs, rot := t.sxe.core.rot } }
                     hif := t.hif, evr := t.evr })

/-- R260, R275, R280, R282, R285, Tables 11.2, 11.7, 11.8.  An overrun abandons the update: every distance, sheet, gate and decided
action is as before it, entries taken since stay taken, ovr_cnt counts it and EV149 reports it.  A refresh queues for its
node a frame of the length of R280 with the next number, REFRESH set and the boundary plus apply_us as its apply time; with every
send object full it replaces the latest, counted, with EV148.  A sync frame of 24 bytes with the next number is queued on each
controller that serves a node, and on no other.  A read of ODO0_DIST captures all four odometers. -/
def Obligations.SectionEvents : Prop :=
  (∀ (s : State) t0, s.supply.ok = true → s.up dImpl = true → s.sxe.running = true → s.sxe.updated = true →
      s.sxe.overrun = false → s.tbu.lastB < max s.now t0 →
      Completes (.sxeOverrun t0) s (fun t =>
        t.sxe.overrun = true ∧ t.sxe.ovrCnt = satInc 65535 s.sxe.ovrCnt ∧ t.sxe.core.odos = s.sxe.prev.odos
        ∧ t.sxe.core.rot = s.sxe.prev.rot
        ∧ (∀ k, (∃ x, (k, x) ∈ s.sxe.core.secs) → (t.sec k).used = (s.sec k).used
            ∧ (t.sec k).cues = (getD s.sxe.prev.secs k {} : Sec).cues ∧ (t.sec k).d = (getD s.sxe.prev.secs k {} : Sec).d
            ∧ (t.sec k).acts = (getD s.sxe.prev.secs k {} : Sec).acts ∧ (t.sec k).gate = (getD s.sxe.prev.secs k {} : Sec).gate
            ∧ (t.sec k).on = (getD s.sxe.prev.secs k {} : Sec).on ∧ (t.sec k).out = (getD s.sxe.prev.secs k {} : Sec).out)
        ∧ Raises [(149, [s.boundary])] s t
        ∧ t = { s with now := max s.now t0, hif := t.hif, evr := t.evr, sxe := { s.sxe with
                          core := t.sxe.core, overrun := true, ovrCnt := t.sxe.ovrCnt } }))
  ∧ (∀ (s : State) t0 j, s.supply.ok = true → s.up dImpl = true → s.sxe.running = true → j < 16 → s.rnEn j = true →
      (s.rn j).next ≤ s.tbu.lastB →
      Completes (.rnRefresh t0 j) s (fun t =>
        let x := s.rn j
        let seq := (x.seq + 1) % 256
        let full := s.rnDepth j ≤ x.queue.length
        (t.rn j).seq = seq ∧ (t.rn j).lastQ = x.lastQ ∧ (t.rn j).next = nextMultiple s.sxe.startTick (s.rnRep j) s.tbu.lastB
        ∧ (∃ f, (t.rn j).queue = (if full then x.queue.dropLast else x.queue) ++ [f] ∧ f.seq = seq
            ∧ f.apply = s.tbu.lastB + s.rnApply j ∧ f.bytes.take 4 = [1, seq, s.rnCount j, if full then 3 else 1]
            ∧ (s.rnCount j ≤ 24 → f.bytes.length = fdLen (16 + 2 * s.rnCount j)))
        ∧ (full → (t.rn j).mergeCnt = satInc 255 x.mergeCnt ∧ Raises [(148, [j, seq])] s t)
        ∧ (¬ full → (t.rn j).mergeCnt = x.mergeCnt ∧ t.evr = s.evr) ∧ (∀ i, i ≠ j → t.rn i = s.rn i)
        ∧ t = { s with now := max s.now t0, sxe := { s.sxe with rns := t.sxe.rns }, hif := t.hif, evr := t.evr }))
  ∧ (∀ (s : State) t0, s.supply.ok = true → s.up dImpl = true → s.sxe.running = true → s.rb 0x4280 31 = true →
      s.sxe.syncNext ≤ max s.tbu.lastB s.sxe.startTick →
      Completes (.sxeSyncFrame t0) s (fun t =>
        (∀ i ∈ s.rnCans, (getD t.sxe.syncs i {} : SyncCan).seq = ((getD s.sxe.syncs i {} : SyncCan).seq + 1) % 256
          ∧ (getD t.sxe.syncs i {} : SyncCan).prevSof = (getD s.sxe.syncs i {} : SyncCan).prevSof
          ∧ ∃ f, (getD t.sxe.syncs i {} : SyncCan).frame = some f ∧ f.length = 24
            ∧ f.take 4 = [2, ((getD s.sxe.syncs i {} : SyncCan).seq + 1) % 256, 0, 0])
        ∧ (∀ i, i ∉ s.rnCans → (getD t.sxe.syncs i {} : SyncCan) = getD s.sxe.syncs i {})
        ∧ t.sxe.syncNext = nextMultiple s.sxe.startTick (s.fld 0x4280 15 0 * ticksPerMs) (max s.tbu.lastB s.sxe.startTick)
        ∧ t = { s with now := max s.now t0, sxe := { s.sxe with syncs := t.sxe.syncs, syncNext := t.sxe.syncNext } }))
  ∧ (∀ (s : State) t0, s.supply.ok = true → s.up dImpl = true →
      Completes (.odoDistRead t0) s (fun t => t.readout = toBits 32 ((s.odo 0).d / 256) ∧ t.sxe.snap.length = 4
        ∧ (∀ o < 4, t.sxe.snap[o]? = some (toBits 32 ((s.odo o).d / 256), toBits 8 (s.odo o).d, (s.odo o).v))
        ∧ t = { s with now := max s.now t0, readout := t.readout, sxe := { s.sxe with snap := t.sxe.snap } }))

/-! ### The implement power rails and the voltage command link (chapter 13) -/

/-- R313, R320, R327, R328, R330, R337, Table 13.10.  RAIL_START is REFUSED unless the rail is enabled, in OFF or LATCHED and its
group in RUN or RECOVERY; RAIL_STOP is REFUSED in OFF; RAIL_SET unless the host commands and the voltage is 0 or within
v_min to v_max.  Accepted, they wait for the boundary, and a RAIL_SET that changes the voltage or starts the rail opens a
transition at once.  RAIL_RETIRE is REFUSED for a phase that is not active and for the last one; otherwise the phase's leg is
disabled, the remaining phases get the offsets of R313 and EV164 reports it. -/
def Obligations.RailCommands : Prop :=
  (∀ (s : State) d, Accepts 0x0800 d s → Completes (.railStart d) s (fun t =>
      let x := s.rail d.target
      let g := (s.grp (railGrp d.target)).st
      let good := x.armed = true ∧ (x.st = .off ∨ x.st = .latched) ∧ (g = .run ∨ g = .recovery)
      (¬ good → Finishes 0x0800 d .refused 0 s t
        ∧ t = { s with now := max s.now d.t, hif := { s.hif with flights := t.hif.flights } })
      ∧ (good → Waits 0x0800 d (.railStart d.target) s t
        ∧ t = { s with now := max s.now d.t, hif := { s.hif with flights := t.hif.flights, pend := t.hif.pend } })))
  ∧ (∀ (s : State) d, Accepts 0x0801 d s → Completes (.railStop d) s (fun t =>
      ((s.rail d.target).st = .off → Finishes 0x0801 d .refused 0 s t
        ∧ t = { s with now := max s.now d.t, hif := { s.hif with flights := t.hif.flights } })
      ∧ ((s.rail d.target).st ≠ .off → Waits 0x0801 d (.railStop d.target) s t
        ∧ t = { s with now := max s.now d.t, hif := { s.hif with flights := t.hif.flights, pend := t.hif.pend } })))
  ∧ (∀ (s : State) d, Accepts 0x0802 d s → Completes (.railSet d) s (fun t =>
      let r := d.target
      let v := d.par 0
      let x := s.rail r
      let good := s.cmdHost r = true ∧ (v = 0 ∨ (s.vMin r ≤ v ∧ v ≤ s.vMax r))
      let opens := v ≠ 0 ∧ x.st ≠ .off ∧ x.st ≠ .latched ∧ (v ≠ s.vLast r ∨ x.st = .ready)
      (¬ good → Finishes 0x0802 d .refused 0 s t
        ∧ t = { s with now := max s.now d.t, hif := { s.hif with flights := t.hif.flights } })
      ∧ (good → Waits 0x0802 d (.railSet r (v != 0) v (d.par 1)) s t
        ∧ (opens → (t.rail r).trans = some (0, max s.now d.t + s.fld (rgcBase r + 0x2C) 15 0 * ticksPerMs)
            ∧ ∀ q dl, x.trans = some (q, dl) → Raises [(166, [r, q, 2])] s t)
        ∧ (¬ opens → t.rail r = x ∧ t.evr = s.evr)
        ∧ ((t.rail r).st, (t.rail r).vTgt, (t.rail r).vCmd, (t.rail r).phases) = (x.st, x.vTgt, x.vCmd, x.phases)
        ∧ (∀ k, k ≠ r → t.rail k = s.rail k)
        ∧ t = { s with now := max s.now d.t, rails := t.rails, hif := t.hif, evr := t.evr })))
  ∧ (∀ (s : State) d, Accepts 0x0803 d s → Completes (.railRetire d) s (fun t =>
      let r := d.target
      let p := d.par 0
      let good := p ∈ s.activePhases r ∧ (s.activePhases r).length ≠ 1
      (¬ good → Finishes 0x0803 d .refused 0 s t
        ∧ t = { s with now := max s.now d.t, hif := { s.hif with flights := t.hif.flights } })
      ∧ (good → Finishes 0x0803 d .ok 0 s t ∧ (t.phase r p).retired = true ∧ (t.phase r p).retCause = 3
        ∧ t.activePhases r = (s.activePhases r).filter (fun q => q != p) ∧ (t.leg (railLeg r p)).enabled = false
        ∧ (∀ q ∈ t.activePhases r, (t.leg (railLeg r q)).shadow.ph
            = (rankOf q (t.activePhases r) * (s.leg (railLeg r q)).shadow.period / (t.activePhases r).length) * 32
            ∧ (t.leg (railLeg r q)).enabled = (s.leg (railLeg r q)).enabled)
        ∧ Raises [(164, [r, p, 3])] s t ∧ (t.rail r).st = (s.rail r).st ∧ (∀ k, k ≠ r → t.rail k = s.rail k)
        ∧ t = { s with now := max s.now d.t, rails := t.rails, mod := { s.mod with legs := t.mod.legs }, hif := t.hif
                       evr := t.evr })))

/-- R317, R321 to R325, R327, R329, R337, Tables 13.2, 13.4.  At its ramp's end a rail enters RUN, or below 0.3 of the target
detects a short.  A short leads to HICCUP, counted, with EV162, or past hic_max to LATCHED with cause SHORT and EV163; hic_ms later
soft start begins again from the measured voltage.  A second without a short clears the count.  b_cyc low periods lead to
BURST, a packet longer than b_max back to RUN, each with EV172.  A phase at ret_cyc that is not the last is retired and advises
replacement.  A voltage out of its band for settle_ms sets oob; a transition closes with IN_BAND or, from its deadline on, with
TIMEOUT. -/
def Obligations.RailEvents : Prop :=
  ∀ (s : State) t0 r, s.supply.ok = true → s.up dConv = true → r < 2 → (s.rail r).armed = true →
  let x := s.rail r
  let b := s.tbu.lastB
  let n := max s.now t0
  let short := fun (kind : Nat) (t : State) =>
    (x.hicCnt + 1 ≤ s.fld (rgcBase r) 5 2 → RailEnters r .hiccup 0 s t ∧ (t.rail r).hicCnt = x.hicCnt + 1
        ∧ Raised 162 [r, x.hicCnt + 1, kind] s t)
    ∧ (s.fld (rgcBase r) 5 2 < x.hicCnt + 1 → RailEnters r .latched 4 s t ∧ (t.rail r).hicCnt = x.hicCnt ∧ Raised 163 [r] s t)
  (x.st = .softstart → x.rampEnd ≤ b → Completes (.railSoftstartEnd t0 r) s (fun t => t.now = n ∧ RailFrame r s t
      ∧ (3 * x.vTgt ≤ 10 * x.vAvg → RailEnters r .run 0 s t ∧ (t.rail r).vCmd = x.vTgt * 400000)
      ∧ (10 * x.vAvg < 3 * x.vTgt → short 1 t)))
  ∧ (x.st = .softstart ∨ x.st = .run → s.fld (rgcBase r) 13 6 ≤ x.limRun → x.limAt ≤ b →
      Completes (.railShortDetect t0 r) s (fun t => t.now = n ∧ RailFrame r s t ∧ short 0 t))
  ∧ (x.st = .hiccup → x.since + s.fld (rgcBase r + 0xC) 15 0 * ticksPerMs ≤ b →
      Completes (.railHiccupEnd t0 r) s (fun t => t.now = n ∧ RailFrame r s t ∧ RailEnters r .softstart 0 s t
        ∧ (t.rail r).vTgt = x.vTgt ∧ (t.rail r).hicCnt = x.hicCnt ∧ (t.rail r).trans = x.trans
        ∧ (x.vAvg < x.vTgt → (t.rail r).vCmd = x.vAvg * 400000
            ∧ (t.rail r).rampEnd = b + s.fld (rgcBase r + 0xC) 31 16 * ticksPerMs)
        ∧ (x.vTgt ≤ x.vAvg → (t.rail r).vCmd = x.vTgt * 400000 ∧ (t.rail r).rampEnd = b)))
  ∧ (x.st = .run ∨ x.st = .burst → x.calm + ticksPerS ≤ n → Completes (.railHiccupReset t0 r) s (fun t =>
      t.rail r = { x with hicCnt := 0 } ∧ (∀ k, k ≠ r → t.rail k = s.rail k) ∧ t = { s with now := n, rails := t.rails }))
  ∧ (x.st = .run → s.fld (rgcBase r + 0x20) 23 12 ≤ x.bRun → x.bAt ≤ b → Completes (.railBurstEnter t0 r) s (fun t =>
      t.now = n ∧ RailFrame r s t ∧ RailEnters r .burst 0 s t ∧ (t.rail r).awake = false
      ∧ Raises [(160, [r, 4, 0]), (172, [r, 0])] s t))
  ∧ (x.st = .burst → x.awake = true → x.packet + s.fld (rgcBase r + 0x24) 15 0 * ticksPerUs < b →
      Completes (.railBurstPacketTimeout t0 r) s (fun t => t.now = n ∧ RailFrame r s t ∧ RailEnters r .run 0 s t
        ∧ Raises [(160, [r, 3, 0]), (172, [r, 1])] s t))
  ∧ (∀ p, p ∈ s.activePhases r → 1 < (s.activePhases r).length → (s.phase r p).fltKind ≠ 0 →
      s.fld (rgcBase r + 0x1C) 31 20 ≤ (s.phase r p).fltRun → Completes (.phaseRetired t0 r p) s (fun t =>
        t.now = n ∧ (t.phase r p).retired = true ∧ (t.phase r p).retCause = (s.phase r p).fltKind
        ∧ t.activePhases r = (s.activePhases r).filter (fun q => q != p) ∧ (t.leg (railLeg r p)).enabled = false
        ∧ Raised 164 [r, p, (s.phase r p).fltKind] s t ∧ (t.rail r).st = x.st ∧ (∀ k, k ≠ r → t.rail k = s.rail k)
        ∧ ((s.phase r p).fltKind ≠ 3 → t.rpl.any (fun y => y.1 == 1) = true)
        ∧ t = { s with now := n, rails := t.rails, mod := { s.mod with legs := t.mod.legs }, rpl := t.rpl
                       rplLast := t.rplLast, hif := t.hif, evr := t.evr }))
  ∧ (∀ o, x.oob = false → x.outSince = some o → o + s.settle10 r ≤ b → Completes (.railOutOfBand t0 r) s (fun t =>
      t.rail r = { x with oob := true } ∧ Raises [(165, [r, x.vAvg])] s t ∧ (∀ k, k ≠ r → t.rail k = s.rail k)
      ∧ t = { s with now := n, rails := t.rails, hif := t.hif, evr := t.evr }))
  ∧ (∀ q dl c res, x.trans = some (q, dl) →
      ((∃ o, c = Instr.railTransitionDone t0 r ∧ x.okSince = some o ∧ o + s.settle10 r ≤ b ∧ res = (if dl ≤ b then 1 else 0))
        ∨ (c = .railTransitionTimeout t0 r ∧ dl ≤ n ∧ res = 1)) →
      Completes c s (fun t => (t.rail r).trans = none ∧ (t.rail r).st = x.st ∧ (t.rail r).vCmd = x.vCmd
        ∧ Raises [(166, [r, q, res])] s t ∧ (s.cmdHost r = true → (t.rail r).sent = x.sent)
        ∧ (s.cmdHost r = false → ∃ f, (t.rail r).sent = f :: x.sent ∧ f.length = 16 ∧ f.take 4 = [0x23, q, res, 0])
        ∧ (∀ k, k ≠ r → t.rail k = s.rail k) ∧ t = { s with now := n, rails := t.rails, hif := t.hif, evr := t.evr }))

/-- R333 to R336, R338, Table 13.5.  Every frame sent is 16 bytes with its check value.  A bad frame is counted and changes nothing
but that count and its event.  A good CMD on a link that is UP and not late restarts the watchdog; one whose seq is the last
accepted does no more; a new one is acknowledged with its result: accepted, it is the last accepted and waits for the
boundary; rejected, it is counted and EV171 reports it.  At D the link enters HOLD with EV167 and at D + hold_ms DOWN with EV168,
where hold_act STOP makes the rail stop.  A STATUS frame carries the next count and the state. -/
def Obligations.VoltageLink : Prop :=
  (∀ (s : State) r l, l.length = 14 → (∀ v ∈ l, v < 256) → ∃ f, ((s.vclSend r l).rail r).sent = f :: (s.rail r).sent
      ∧ f.length = 16 ∧ f.take 14 = l ∧ crc16 (f.take 14) = field f 14 2)
  ∧ ∀ (s : State) t0 r, s.supply.ok = true → s.up dConv = true → r < 2 → (s.rail r).armed = true →
  let x := s.rail r
  let n := max s.now t0
  let D' := n + 40000 * s.fld (rgcBase r + 0x28) 31 16
  let only := fun (t : State) => (∀ k, k ≠ r → t.rail k = s.rail k)
    ∧ t = { s with now := n, rails := t.rails, hif := t.hif, evr := t.evr }
  (∀ l fr, x.link = .up → n < x.dl → frameBadKind l fr ≠ 0 → Completes (.vclCmdFrame t0 r l fr) s (fun t =>
      t.rail r = { x with badCnt := satInc 255 x.badCnt, ev170 := (t.rail r).ev170 }
      ∧ (x.ev170 = 0 → Raises [(170, [r, frameBadKind l fr])] s t) ∧ only t))
  ∧ (∀ l, s.cmdHost r = false → x.link = .up → n < x.dl → frameBadKind l false = 0 → l.getD 1 0 = x.lastSeq →
      Completes (.vclCmdFrame t0 r l false) s (fun t => t.rail r = { x with dl := D' } ∧ t.evr = s.evr ∧ only t))
  ∧ (∀ l, s.cmdHost r = false → x.link = .up → n < x.dl → frameBadKind l false = 0 → l.getD 1 0 ≠ x.lastSeq →
      Completes (.vclCmdFrame t0 r l false) s (fun t =>
        let seq := l.getD 1 0
        let mode := l.getD 2 0
        let v := field l 4 2
        let res := if x.st = .off ∨ x.st = .latched ∨ x.doom ≠ 0 then 2
          else if 1 < mode ∨ (mode = 1 ∧ ¬ (s.vMin r ≤ v ∧ v ≤ s.vMax r)) then 1 else 0
        (t.rail r).dl = D' ∧ (t.rail r).link = .up ∧ (t.rail r).st = x.st ∧ (t.rail r).vTgt = x.vTgt
        ∧ (∃ f, f ∈ (t.rail r).sent ∧ f.take 6 = [0x21, seq, res, 0] ++ leBytes 2 x.vTgt)
        ∧ (res = 0 → (t.rail r).lastSeq = seq ∧ (t.rail r).cmds = x.cmds ++ [(n, mode == 1, v, field l 6 2)]
            ∧ (t.rail r).rejCnt = x.rejCnt)
        ∧ (res ≠ 0 → (t.rail r).lastSeq = x.lastSeq ∧ (t.rail r).cmds = x.cmds ∧ (t.rail r).rejCnt = satInc 255 x.rejCnt
            ∧ Raises [(171, [r, seq, res])] s t)
        ∧ only t))
  ∧ (s.cmdHost r = false → x.link = .up → x.dl ≤ n → n < x.dl + s.fld (rgcBase r + 0x28) 15 0 * ticksPerMs →
      Completes (.vclLinkLost t0 r) s (fun t => t.rail r = { x with link := .hold } ∧ Raises [(167, [r])] s t ∧ only t))
  ∧ (s.cmdHost r = false → x.link = .hold → x.dl + s.fld (rgcBase r + 0x28) 15 0 * ticksPerMs ≤ n →
      Completes (.vclHoldExpired t0 r) s (fun t =>
        t.rail r = { x with link := .down, drop := x.drop || !s.rb (rgcBase r) 28 } ∧ Raises [(168, [r])] s t ∧ only t))
  ∧ (x.statNext ≤ s.tbu.lastB → Completes (.vclStatusSend t0 r) s (fun t =>
        ∃ f, (t.rail r).sent = f :: x.sent ∧ f.length = 16 ∧ f.take 3 = [0x22, (x.statCnt + 1) % 256, x.st.code]
        ∧ (t.rail r).statCnt = (x.statCnt + 1) % 256 ∧ (t.rail r).st = x.st
        ∧ (20 ≤ s.fld (rgcBase r + 0x2C) 31 16 → s.tbu.lastB < (t.rail r).statNext) ∧ t.evr = s.evr ∧ only t))

/-! ### The charger, the power path and the DC link (chapters 14 and 15) -/

/-- R344, R354, R358, R359, R361, R364, Table 14.10.  PATH_SET is REFUSED while PPM does not run, and otherwise waits for
PPM's next step.  CHG_START is REFUSED as R354, R358 and R359 say; accepted, it opens a record in QUALIFY with its limits and a
full safety timer, and a follow-on counts.  CHG_STOP is REFUSED without a charge and otherwise sends it to ENDING with
STOP.  RSUP_START outside R361's ranges is BAD_DESC (the model's choice, notes/assumptions/74.md), REFUSED unless R361 holds, and
otherwise opens a supply.  RSUP_STOP is REFUSED without a supply and otherwise ends it, both stages off. -/
def Obligations.ChargerCommands : Prop :=
  (∀ (s : State) d, Accepts 0x0900 d s → Completes (.pathSet d) s (fun t =>
      (s.ppm.run = false → Finishes 0x0900 d .refused 0 s t
        ∧ t = { s with now := max s.now d.t, hif := { s.hif with flights := t.hif.flights } })
      ∧ (s.ppm.run = true → t = { s with
          now := max s.now d.t
          ppm := { s.ppm with cmds := s.ppm.cmds ++ [{ sq := d.sq, tick := d.t, op := d.par 0, vFed := d.par 1 }] }
          hif := { s.hif with flights := (s.received 0x0900 d).hif.flights } })))
  ∧ (∀ (s : State) d, Accepts 0x0901 d s → Completes (.chgStart d) s (fun t =>
      let p := s.ppm
      let n := max s.now d.t
      let good := p.run = true ∧ p.obcArmed = true ∧ p.path = .battery ∧ p.ses.st = .idle ∧ s.aon.pxAc = true
        ∧ d.par 0 ≤ s.fld 0x4828 15 0 ∧ d.par 1 ≤ s.fld 0x4828 31 16 ∧ (s.grp 7).st = .run ∧ (s.grp 8).st = .run
        ∧ p.blocked = false ∧ (if d.par 3 = 1 then p.heat = true ∧ p.followCnt < 2 else p.heat = false)
      (¬ good → Finishes 0x0901 d .refused 0 s t
        ∧ t = { s with now := n, hif := { s.hif with flights := t.hif.flights } })
      ∧ (good → Finishes 0x0901 d .ok 0 s t ∧ Raises [(179, [1])] s t
        ∧ t = { s with
            now := n
            ppm := { p with followCnt := if d.par 3 = 1 then p.followCnt + 1 else p.followCnt, heat := false
                            ses := { kind := 1, st := .qualify, iCc := d.par 0, vCv := d.par 1, allow := d.par 2, startT := n
                                     since := n, safeDl := n + s.fld 0x4830 31 16 * 60 * ticksPerS } }
            hif := t.hif, evr := t.evr })))
  ∧ (∀ (s : State) d, Accepts 0x0902 d s → Completes (.chgStop d) s (fun t =>
      let x := s.ppm.ses
      (x.kind ≠ 1 ∨ x.st = .idle → Finishes 0x0902 d .refused 0 s t
        ∧ t = { s with now := max s.now d.t, hif := { s.hif with flights := t.hif.flights } })
      ∧ (x.kind = 1 → x.st ≠ .idle → Finishes 0x0902 d .ok 0 s t ∧ t.ppm.ses.st = .ending
        ∧ (x.st ≠ .ending → t.ppm.ses.cause = 4 ∧ Raises [(179, [6])] s t)
        ∧ (x.st = .ending → t.ppm.ses = x ∧ t.evr = s.evr) ∧ t.ppm.blocked = s.ppm.blocked ∧ t.ppm.path = s.ppm.path
        ∧ t = { s with now := max s.now d.t, ppm := t.ppm, hif := t.hif, evr := t.evr })))
  ∧ (∀ (s : State) d, Accepts 0x0903 d s → Completes (.rsupStart d) s (fun t =>
      let bad := if d.par 0 = 2 then d.par 1 < 2000 ∨ 7500 < d.par 1 ∨ 320 < d.par 2 else d.par 1 ≠ 50 ∧ d.par 1 ≠ 60
      let good := s.ppm.run = true ∧ s.ppm.obcArmed = true ∧ s.ppm.path = .battery ∧ s.ppm.ses.st = .idle ∧ s.aon.pxAc = true
        ∧ (s.grp 7).st = .run ∧ (s.grp 8).st = .run ∧ ∃ k, s.ppm.quiet = some k ∧ k + ticksPerS ≤ max s.now d.t
      (bad → Finishes 0x0903 d .badDesc 0 s t
        ∧ t = { s with now := max s.now d.t, hif := { s.hif with flights := t.hif.flights } })
      ∧ (¬ bad → ¬ good → Finishes 0x0903 d .refused 0 s t
        ∧ t = { s with now := max s.now d.t, hif := { s.hif with flights := t.hif.flights } })
      ∧ (¬ bad → good → Finishes 0x0903 d .ok 0 s t ∧ Raises [(179, [7])] s t
        ∧ t.ppm.ses = { kind := if d.par 0 = 2 then 4 else 3, st := .supply, rk := d.par 0, rv := d.par 1, ri := d.par 2
                        startT := max s.now d.t, since := max s.now d.t }
        ∧ (∀ n ∈ [24, 27, 28, 29, 30, 31], s.legOk n = true → (t.leg n).enabled = true)
        ∧ (d.par 0 = 2 → (t.leg 25).enabled = (s.leg 25).enabled ∧ (t.leg 26).enabled = (s.leg 26).enabled)
        ∧ t.now = max s.now d.t ∧ PpmFrame s t)))
  ∧ (∀ (s : State) d, Accepts 0x0904 d s → Completes (.rsupStop d) s (fun t =>
      let x := s.ppm.ses
      let on := x.st ≠ .idle ∧ (x.kind = 3 ∨ x.kind = 4)
      (¬ on → Finishes 0x0904 d .refused 0 s t
        ∧ t = { s with now := max s.now d.t, hif := { s.hif with flights := t.hif.flights } })
      ∧ (on → x.st ≠ .ending → Finishes 0x0904 d .ok 0 s t ∧ t.ppm.ses.st = .idle ∧ t.ppm.ses.cause = 4
        ∧ (∀ n, 24 ≤ n → n < 32 → (t.leg n).enabled = false)
        ∧ Raises [(179, [0]), (180, [x.kind, 4, x.intr])] s t ∧ t.now = max s.now d.t ∧ PpmFrame s t)))

/-- R17, R344 to R350, R365, Tables 14.2, 14.3.  A PPM step schedules the next one at the following whole millisecond, judges every
waiting PATH_SET unless PD_APP is down, takes the inputs, and writes 0 to the inhibit slot of each named context exactly while R365 says so.  An
accepted PATH_SET closes or opens the contactors and enters the state that its rule names; one that its rule refuses changes
nothing.  CTR_MP closes, in precharge and in a hand-over, only when the link has equalised before the deadline. -/
def Obligations.PathSteps : Prop :=
  (∀ (s : State) t0 m, s.supply.ok = true → s.ppmOn = true → s.ppm.next ≤ s.tbu.lastB →
      Completes (.ppmStep t0 m) s (fun t =>
        t.now = max s.now t0 ∧ s.tbu.lastB < t.ppm.next ∧ t.ppm.next ≤ s.tbu.lastB + ticksPerMs
        ∧ (t.ppm.next - s.ppm.next) % ticksPerMs = 0 ∧ t.ppm.last = s.tbu.lastB ∧ t.ppm.fb = m.fb
        ∧ t.ppm.vAc = min m.l1 (min m.l2 m.l3) ∧ (s.up dApp = true → t.ppm.cmds = [])
        ∧ t.ppm.inhibit = t.inhibitWant
        ∧ (∀ c ∈ s.inhCtxs, t.hostRaw c s.inhSlot = if t.inhibitWant then 0 else 0x7FFF)
        ∧ (s.up dApp = false ∨ (s.ppm.cmds = [] ∧ s.ppm.doing = .rest) → t.ppm.cmds = s.ppm.cmds ∧ t.ppm.path = s.ppm.path ∧ t.aon.drive = s.aon.drive
            ∧ t.hif.flights = s.hif.flights)
        ∧ PpmFrame s t))
  ∧ (∀ (s : State) c, s.ppm.cmds = [c] → s.pathOk c.op = false →
      s.pathCmds = (({ s with ppm := { s.ppm with cmds := [] } } : State).decide c.sq c.tick .refused 0 s.now))
  ∧ (∀ (s : State) c, s.ppm.cmds = [c] → s.pathOk c.op = true →
      s.pathCmds = (({ s with ppm := { s.ppm with cmds := [] } } : State).pathSet c).decide c.sq c.tick .ok 0 s.now)
  ∧ (∀ (s : State) c, let t := s.pathSet c
      (c.op = 0 → s.ppm.path = .fault → t.ppm.path = .opn ∧ (∀ k < 5, t.driven k = false) ∧ t.driven 5 = s.driven 5)
      ∧ (c.op = 0 → s.ppm.path = .battery → t.ppm.path = .battery ∧ t.ppm.doing = .opMp ∧ t.driven 0 = false
          ∧ t.driven 1 = s.driven 1)
      ∧ (c.op = 1 → s.ppm.path = .opn → t.ppm.path = .precharge ∧ t.ppm.doing = .pcMn ∧ t.driven 1 = true
          ∧ t.driven 0 = s.driven 0 ∧ t.driven 2 = s.driven 2)
      ∧ (c.op = 1 → s.ppm.path = .sourceFed → t.ppm.path = .handover ∧ t.ppm.byHost = true
          ∧ t.ppm.doing = .hoEq ∧ t.aon.drive = s.aon.drive ∧ t.ppm.dl = s.now + s.fld 0x4804 15 0 * ticksPerMs
          ∧ (s.ppm.qualified = false → ∀ n, 24 ≤ n → n < 32 → (t.leg n).enabled = false))
      ∧ (c.op = 1 → s.ppm.path = .dcCharge → t.ppm.path = .dcCharge ∧ t.ppm.doing = .dcOut ∧ t.aon.drive = s.aon.drive
          ∧ t.ppm.dl = s.now + 5 * ticksPerS)
      ∧ (c.op = 2 → t.ppm.path = .sourceFed ∧ t.driven 1 = true ∧ t.driven 2 = true ∧ t.ppm.ses.kind = 2
          ∧ t.ppm.ses.st = .fed ∧ t.ppm.vFed = c.vFed)
      ∧ (c.op = 3 → t.driven 4 = true ∧ t.ppm.doing = .dcDn ∧ t.ppm.path = s.ppm.path)
      ∧ (c.op = 4 → t.driven 5 = true ∧ t.ppm.path = s.ppm.path)
      ∧ (c.op = 5 → t.driven 5 = false ∧ t.ppm.path = s.ppm.path))
  ∧ (∀ (s : State), s.pathEqualise.driven 0 = true → s.driven 0 = false →
      (s.ppm.doing = .pcEq ∨ s.ppm.doing = .hoEq) ∧ s.ppm.last < s.ppm.dl
      ∧ s.vLink ≤ s.vBat + s.fld 0x4800 21 12 ∧ s.vBat ≤ s.vLink + s.fld 0x4800 21 12)
  ∧ (∀ (s : State), s.equalised = true → s.ppm.last < s.ppm.dl →
      (s.ppm.doing = .hoEq → s.pathEqualise.driven 0 = true ∧ s.pathEqualise.ppm.doing = .hoMp)
      ∧ (s.ppm.doing = .pcEq → s.pathEqualise.driven 0 = true ∧ s.pathEqualise.ppm.doing = .pcMp))
  ∧ (∀ (s : State), (s.pathOk 0 = true ↔ (s.ppm.path = .fault ∧ s.ppm.fb = 0) ∨ (s.ppm.path = .battery ∧ s.ppm.doing = .rest
          ∧ (∀ g < 4, (s.grp g).st ≠ .run ∧ (s.grp g).st ≠ .recovery) ∧ (∀ r < 2, (s.rail r).st.runs = false)
          ∧ s.ppm.ses.st = .idle))
      ∧ (s.pathOk 2 = true ↔ s.ppm.path = .opn ∧ s.ppm.doing = .rest ∧ s.ppm.qualified = true ∧ s.ppm.ses.st = .idle)
      ∧ (s.pathOk 3 = true ↔ s.ppm.path = .battery ∧ s.ppm.doing = .rest ∧ s.rb 0x4800 30 = true ∧ s.aon.pxDc = true
          ∧ s.aon.latch = true))

/-- R344, R346, R348, R350, R352, R353, R360, Tables 14.1 to 14.3.  A contactor whose wired feedback disagrees at its check time
sets the path to FAULT, opens every other output and raises EV175; one that agrees lets the sequence go on.  A failed precharge
opens CTR_PC and CTR_MN and raises EV174.  A hand-over past pc_ms sheds both rails and every unit and equalises for a further
pc_ms.  DC-charge contactors open when the current has fallen, or after 5 s with EV175, and at once when CHG_PX_DC is lost.  A
qualified source raises EV177 and starts a waiting charge; its loss raises EV178, pauses a running charge and starts the
hand-over of a source-fed path. -/
def Obligations.PathEvents : Prop :=
  (∀ (s : State) t0 k closed on dl, s.supply.ok = true → s.ppmOn = true → k < 6 →
      s.ppm.chks.find? (fun c => c.1 == k) = some (k, on, dl) → dl ≤ s.ppm.last →
      Completes (.contactorCheck t0 k closed) s (fun t =>
        (s.rb 0x4800 (22 + k) = true → closed ≠ on → t.ppm.path = .fault ∧ (∀ j < 6, j ≠ k → t.driven j = false)
          ∧ Raised 175 [k, if on then 0 else 1] s t ∧ (s.ppm.ses.st ≠ .idle → t.ppm.ses.st = .idle ∨ t.ppm.ses.st = .ending))
        ∧ (s.rb 0x4800 (22 + k) = false ∨ closed = on → s.up dApp = false → t = { s with now := max s.now t0 })
        ∧ (s.rb 0x4800 (22 + k) = false ∨ closed = on → s.up dApp = true →
          (s.ppm.doing = .pcMn → k = 1 → on = true → t.driven 2 = true ∧ t.ppm.doing = .pcEq
              ∧ t.ppm.dl = max s.now t0 + s.fld 0x4804 15 0 * ticksPerMs ∧ t.ppm.path = s.ppm.path)
          ∧ (s.ppm.doing = .pcMp → k = 0 → on = true → t.driven 2 = false ∧ t.ppm.doing = .pcPc ∧ t.ppm.path = s.ppm.path)
          ∧ (s.ppm.doing = .pcPc → k = 2 → on = false → t.ppm.path = .battery ∧ t.ppm.doing = .rest)
          ∧ (s.ppm.doing = .hoMp → k = 0 → on = true → t.driven 2 = false ∧ t.ppm.doing = .hoPc
              ∧ ∀ n, 24 ≤ n → n < 32 → (t.leg n).enabled = false)
          ∧ (s.ppm.doing = .hoPc → k = 2 → on = false → t.ppm.path = .battery ∧ t.ppm.doing = .rest
              ∧ Raised 176 [if s.ppm.byHost then 1 else 0] s t)
          ∧ (s.ppm.doing = .opMp → k = 0 → on = false → t.ppm.path = .opn ∧ t.driven 1 = false)
          ∧ (s.ppm.doing = .rest → t.ppm.path = s.ppm.path ∧ t.aon = s.aon ∧ t.evr = s.evr))
        ∧ t.now = max s.now t0 ∧ PpmFrame s t))
  ∧ (∀ (s : State) t0, s.supply.ok = true → s.ppmOn = true → s.up dApp = true → s.ppm.dl ≤ s.ppm.last →
      (s.ppm.doing = .pcEq ∨ (s.ppm.doing = .hoEq ∧ s.ppm.shed = true)) → Completes (.prechargeFail t0) s (fun t =>
        t.ppm.path = .opn ∧ t.ppm.doing = .rest ∧ t.driven 1 = false ∧ t.driven 2 = false
        ∧ Raised 174 [s.vLink, s.vBat] s t ∧ t.now = max s.now t0 ∧ PpmFrame s t))
  ∧ (∀ (s : State) t0, s.supply.ok = true → s.ppmOn = true → s.up dApp = true → s.ppm.dl ≤ s.ppm.last → s.ppm.doing = .hoEq →
      s.ppm.shed = false → Completes (.handoverShed t0) s (fun t =>
        t.ppm = { s.ppm with shed := true, dl := s.ppm.dl + s.fld 0x4804 15 0 * ticksPerMs } ∧ t.aon = s.aon
        ∧ (∀ r < 2, (s.rail r).st ≠ .off → (t.rail r).stop = true) ∧ (∀ u, (t.cmu u).st = .off)
        ∧ (8, 0) ∈ t.prec.on ∧ ((8, 0) ∉ s.prec.on → Raised 230 [2, 40, 8, 0] s t)
        ∧ t = { s with now := max s.now t0, ppm := t.ppm, rails := t.rails, cmus := t.cmus
                       mod := { s.mod with legs := t.mod.legs }, prec := t.prec, hif := t.hif, evr := t.evr }))
  ∧ (∀ (s : State) t0, s.supply.ok = true → s.ppmOn = true → s.up dApp = true → s.ppm.doing = .dcOut →
      (s.iDc.natAbs < 20 ∨ s.ppm.dl ≤ s.ppm.last) → Completes (.dcChargeOpen t0) s (fun t =>
        t.ppm.path = .battery ∧ t.driven 3 = false ∧ t.driven 4 = false ∧ t.driven 0 = s.driven 0 ∧ t.driven 1 = s.driven 1
        ∧ (s.ppm.dl ≤ s.ppm.last → Raised 175 [3, 2] s t) ∧ t.now = max s.now t0 ∧ PpmFrame s t))
  ∧ (∀ (s : State) t0 ac dc la, s.supply.ok = true → Completes (.plugState t0 ac dc la) s (fun t =>
        (t.aon.pxAc, t.aon.pxDc, t.aon.latch) = (ac, dc, la) ∧ t.now = max s.now t0
        ∧ (s.aon.pxAc = ac → s.aon.pxDc = dc → s.aon.latch = la → t = { s with now := max s.now t0 })
        ∧ (¬ (s.aon.pxAc = ac ∧ s.aon.pxDc = dc ∧ s.aon.latch = la) →
            Raised 188 [if ac then 1 else 0, if dc then 1 else 0, if la then 1 else 0] s t
            ∧ t.ppm.inhibit = s.ppm.inhibit
            ∧ (s.aon.pxAc = false → ac = true → t.aon.acHere = t.now) ∧ (s.aon.pxAc = true → ac = false → t.aon.acGone = t.now)
            ∧ (s.ppmOn = true →
                (s.aon.pxDc = true → dc = false → s.ppm.path = .dcCharge → t.ppm.path = .battery ∧ t.driven 3 = false
                    ∧ t.driven 4 = false)
                ∧ (s.aon.pxAc = true → ac = false → t.ppm.qualified = false ∧ t.ppm.heat = false)
                ∧ (s.aon.pxAc = true → ac = false → s.ppm.qualified = true → Raised 178 [1] s t)))
        ∧ t = { s with now := t.now, ppm := t.ppm, aon := t.aon, mod := { s.mod with legs := t.mod.legs }
                       prec := t.prec, hif := t.hif, evr := t.evr }))
  ∧ (∀ (s : State) t0 kind f60 k, s.supply.ok = true → s.ppmOn = true → s.ppm.qualified = false → s.aon.pxAc = true →
      (kind = 1 ∨ kind = 2) → s.ppm.srcKind = kind → s.ppm.srcF60 = f60 → s.ppm.srcSince = some k →
      max k s.aon.acHere + 3 * ticksPerS ≤ s.ppm.last → Completes (.sourceQualified t0 kind f60) s (fun t =>
        t.ppm.qualified = true ∧ t.ppm.acKind = kind ∧ t.ppm.f60 = f60 ∧ t.ppm.path = s.ppm.path ∧ Raised 177 [kind] s t
        ∧ (s.up dApp = true → s.ppm.ses.kind = 1 → s.ppm.ses.st = .qualify → t.ppm.ses.st = .start)
        ∧ (s.ppm.ses.kind ≠ 1 → t.ppm.ses = s.ppm.ses) ∧ t.aon = s.aon ∧ t.now = max s.now t0 ∧ PpmFrame s t))
  ∧ (∀ (s : State) t0 cause k, s.supply.ok = true → s.ppmOn = true → s.ppm.qualified = true → s.ppm.srcBad = some k →
      k + 20 * ticksPerMs ≤ s.ppm.last →
      Completes (.sourceLost t0 cause) s (fun t =>
        t.ppm.qualified = false ∧ t.ppm.acKind = 0 ∧ Raised 178 [cause] s t
        ∧ (s.ppm.path = .sourceFed → t.ppm.path = .handover ∧ t.ppm.byHost = false)
        ∧ (s.ppm.path ≠ .sourceFed → t.ppm.path = s.ppm.path ∧ t.aon = s.aon)
        ∧ (s.ppm.ses.kind = 1 → (s.ppm.ses.st = .start ∨ s.ppm.ses.st = .cc ∨ s.ppm.ses.st = .cv) → s.ppm.path = .battery →
            t.ppm.ses.st = .paused ∧ t.ppm.ses.intr = satInc 255 s.ppm.ses.intr
            ∧ ∀ n, 24 ≤ n → n < 32 → (t.leg n).enabled = false)
        ∧ t.now = max s.now t0 ∧ PpmFrame s t))

/-- R354, R356 to R358, R362, R364, Table 14.5.  An active session that meets its condition ends with the cause of its rule, a
charge through ENDING and a supply at once with both stages off: START for 2 s with FAULT, PAUSED for resume_s with
SOURCE_LOST, a full dwell with EOC or, from the safety deadline on, with the timeout's cause, the deadline with THERMAL_TIMEOUT
when the thermally limited time is an eighth of it and TIMEOUT otherwise, an overload, a live inlet.  A TIMEOUT blocks;
THERMAL_TIMEOUT blocks from the second follow-on.  ENDING ends in IDLE with EV180.  An inlet empty for 1 s unblocks. -/
def Obligations.SessionEvents : Prop :=
  ∀ (s : State) t0, s.supply.ok = true → s.ppmOn = true →
  let x := s.ppm.ses
  let n := max s.now t0
  let l := s.ppm.last
  let timeout := if s.fld 0x4830 31 16 * 15 * ticksPerS ≤ 2 * x.thermT then 3 else 2
  let ends := fun (cause : Nat) (t : State) => t.ppm.ses.cause = cause ∧ t.ppm.path = s.ppm.path ∧ t.aon = s.aon
    ∧ (x.kind = 1 → t.ppm.ses.st = .ending ∧ Raised 179 [6] s t ∧ t.ppm.heat = (cause == 3)
        ∧ (t.ppm.blocked = true ↔ s.ppm.blocked = true ∨ cause = 2 ∨ (cause = 3 ∧ 2 ≤ s.ppm.followCnt)))
    ∧ (x.kind ≠ 1 → t.ppm.ses.st = .idle ∧ Raised 180 [x.kind, cause, x.intr] s t
        ∧ (∀ l, 24 ≤ l → l < 32 → (t.leg l).enabled = false) ∧ t.ppm.blocked = s.ppm.blocked)
    ∧ t.now = n ∧ PpmFrame s t
  (x.st = .start → x.since + 2 * ticksPerS ≤ l → Completes (.chgStartTimeout t0) s (ends 6))
  ∧ (x.st = .paused → x.since + s.fld 0x4830 15 0 * ticksPerS ≤ l → Completes (.chgPauseExpired t0) s (ends 5))
  ∧ (∀ b, x.st = .cv → x.dwell = some b → b + s.fld 0x482C 15 0 * ticksPerS ≤ l →
      Completes (.chgEocDwell t0) s (ends (if x.safeDl ≤ l then timeout else 1)))
  ∧ (x.kind = 1 → x.st ≠ .idle → x.st ≠ .ending → x.safeDl ≤ l → Completes (.chgSafetyTimer t0) s (ends timeout))
  ∧ (∀ i k, x.kind = 3 → x.st = .supply → s.ppm.lowSince = some k → k + s.fld 0x4834 15 0 * ticksPerMs ≤ l → Completes (.rsupOverload t0 i) s (fun t => ends 7 t ∧ Raised 182 [i] s t))
  ∧ (∀ k, x.kind = 3 ∨ x.kind = 4 → x.st = .supply → s.ppm.alienSince = some k → k + 20 * ticksPerMs ≤ l → Completes (.rsupLiveInlet t0) s (ends 8))
  ∧ (x.st = .ending → Completes (.chgEndingDone t0) s (fun t => t.ppm.ses.st = .idle ∧ t.ppm.ses.cause = x.cause
      ∧ (∀ l, 24 ≤ l → l < 32 → (t.leg l).enabled = false) ∧ Raises [(179, [0]), (180, [x.kind, x.cause, x.intr])] s t
      ∧ t.ppm.path = s.ppm.path ∧ t.aon = s.aon ∧ t.now = n ∧ PpmFrame s t))
  ∧ (s.aon.pxAc = false → s.aon.acGone + ticksPerS ≤ l → Completes (.chgPlugAbsent t0) s (fun t =>
      t.ppm.blocked = false ∧ t.ppm.followCnt = 0 ∧ t.ppm.heat = false
      ∧ (x.kind = 1 → x.st ≠ .idle → x.st ≠ .ending → t.ppm.ses.st = .ending ∧ t.ppm.ses.cause = 11)
      ∧ (x.kind ≠ 1 ∨ x.st = .idle ∨ x.st = .ending → t.ppm.ses = x) ∧ t.ppm.path = s.ppm.path ∧ t.aon = s.aon
      ∧ t.now = n ∧ PpmFrame s t))

/-- R375 to R377, R380 to R382, R387, Table 15.5.  DCL_LIMIT with an i_span of 0 or with DCL disabled is REFUSED, with a word of
more than 16 bits BAD_DESC (the model's choice, notes/assumptions/75.md), and otherwise waits for the boundary.  DCL_CLEAR is
REFUSED from v_reg on and otherwise clears chop_flt.  A chopper leg on without current for chk_ms sets it with EV190.  The factor
is 32,767 up to v_reg and the accepted current, 0 from v_reg + reg_span on, and never more; at every boundary it stands in the
named contexts' slots.  An absorbing rail's command never passes v_max, and a rail not in RUN or BURST has no offset. -/
def Obligations.DcLink : Prop :=
  (∀ (s : State) d, Accepts 0x0905 d s → Completes (.dclLimit d) s (fun t =>
      let big := 65535 < d.par 0 ∨ 65535 < d.par 1
      let no := d.par 1 = 0 ∨ s.rb 0x4880 31 = false
      (big → Finishes 0x0905 d .badDesc 0 s t
        ∧ t = { s with now := max s.now d.t, hif := { s.hif with flights := t.hif.flights } })
      ∧ (¬ big → no → Finishes 0x0905 d .refused 0 s t
        ∧ t = { s with now := max s.now d.t, hif := { s.hif with flights := t.hif.flights } })
      ∧ (¬ big → ¬ no → Waits 0x0905 d (.dclLimit (d.par 0) (d.par 1)) s t
        ∧ t = { s with now := max s.now d.t, hif := { s.hif with flights := t.hif.flights, pend := t.hif.pend } })))
  ∧ (∀ (s : State) d, Accepts 0x0906 d s → Completes (.dclClear d) s (fun t =>
      (s.fld 0x4884 31 16 ≤ s.vLink → Finishes 0x0906 d .refused 0 s t
        ∧ t = { s with now := max s.now d.t, hif := { s.hif with flights := t.hif.flights } })
      ∧ (s.vLink < s.fld 0x4884 31 16 → Finishes 0x0906 d .ok 0 s t
        ∧ t = { s with now := max s.now d.t, dcl := { s.dcl with chopFlt := false, noCur := none }
                       hif := { s.hif with flights := t.hif.flights } })))
  ∧ (∀ (s : State) t0 b, s.supply.ok = true → s.up dConv = true → s.dcl.run = true → s.dcl.chopFlt = false →
      s.dcl.noCur = some b → b + s.fld 0x4890 15 8 * ticksPerMs ≤ s.tbu.lastB →
      Completes (.chopperFault t0) s (fun t =>
        (s.chopBad = true → Raises [(190, [toBits 32 (Config.amps 26 (s.afeCode 26))])] s t ∧ t.chopAvail = false
          ∧ t = { s with now := max s.now t0, dcl := { s.dcl with chopFlt := true }, hif := t.hif, evr := t.evr })
        ∧ (s.chopBad = false → t = { s with now := max s.now t0 })))
  ∧ (∀ (s : State), let ir := (s.dcl.iReg.getD (s.fld 0x488C 31 16, s.fld 0x488C 15 0)).1
      let isp := (s.dcl.iReg.getD (s.fld 0x488C 31 16, s.fld 0x488C 15 0)).2
      s.regenFactor ≤ 32767
      ∧ (0 < s.fld 0x4884 15 0 → 0 < isp → s.vLink ≤ s.fld 0x4884 31 16 → s.iBat ≤ ir → s.regenFactor = 32767)
      ∧ (s.fld 0x4884 31 16 + s.fld 0x4884 15 0 ≤ s.vLink ∨ (ir + isp : Int) ≤ s.iBat → s.regenFactor = 0))
  ∧ (∀ (s : State) b, s.dcl.run = true → s.up dConv = true → let t := s.dclBoundary b
      t.dcl.factor = s.regenFactor ∧ (∀ c ∈ s.inhCtxs, t.hostRaw c s.regSlot = s.regenFactor)
      ∧ t.dcl.stage = t.dclStage ∧ t.rails = s.rails)
  ∧ (∀ (s : State) r dt, (s.rail r).vCmd ≤ s.vMax r * 400000 → s.railAbsorb r dt + (s.rail r).vCmd ≤ s.vMax r * 400000
        ∨ (if r = 0 then s.dcl.ofsA else s.dcl.ofsB) + (s.rail r).vCmd > s.vMax r * 400000)
  ∧ (∀ (s : State) r dt, (s.rail r).st ≠ .run → (s.rail r).st ≠ .burst → s.railAbsorb r dt = 0)
  ∧ (∀ (s : State) r dt, s.chopAvail = true → s.railAbsorb r dt ≤ (if r = 0 then s.dcl.ofsA else s.dcl.ofsB))

/-! ### Takes (chapter 19) -/

/-- R480 to R483, Tables 19.11 and 19.12.  TAKE_START is BUSY with no handle free or ended, and while another take holds one
of its objects, and REFUSED where a precondition does not hold; otherwise it returns the handle, the take runs from there
with its deadline, and its groups are in TEST.  TAKE_SUSPEND waits, on a running take only.  TAKE_RESUME runs a suspended
take on, with EV235.  TAKE_CANCEL is REFUSED on a take that is not under way or past its commit point or its last step;
otherwise the take is CANCELLING, to end with CANCELLED. -/
def Obligations.TakeCommands : Prop :=
  (∀ (s : State) d, Accepts 0x0010 d s → (s.takeHandle = none ∨ ∃ o ∈ s.takeHolds (takeOf d), o ∈ s.held) →
      Completes (.takeStart d) s (fun t => Answered d .busy 0 s t ∧ t.trm = s.trm ∧ TrmFrame s t))
  ∧ (∀ (s : State) d, Accepts 0x0010 d s → s.takeHandle ≠ none → (∀ o ∈ s.takeHolds (takeOf d), o ∉ s.held) →
      s.takeMay (takeOf d) = false →
      Completes (.takeStart d) s (fun t => Answered d .refused 0 s t ∧ t.trm = s.trm ∧ TrmFrame s t))
  ∧ (∀ (s : State) d, Accepts 0x0010 d s → s.takeHandle ≠ none → (∀ o ∈ s.takeHolds (takeOf d), o ∉ s.held) →
      s.takeMay (takeOf d) = true → d.target = 2 → s.swapRefusal (takeOf d) ≠ 0 →
      Completes (.takeStart d) s (fun t => Answered d .refused 0 s t ∧ t.trm = s.trm
        ∧ Raised 103 [d.par 4, s.swapRefusal (takeOf d)] s t ∧ TrmFrame s t))
  ∧ (∀ (s : State) d h, Accepts 0x0010 d s → s.takeHandle = some h → (∀ o ∈ s.takeHolds (takeOf d), o ∉ s.held) →
      s.takeMay (takeOf d) = true → (d.target = 2 → s.swapRefusal (takeOf d) = 0) →
      Completes (.takeStart d) s (fun t => Answered d .ok h s t
        ∧ (t.take h).st = .running ∧ (t.take h).no = d.target ∧ (t.take h).sq = d.sq ∧ (t.take h).start = max s.now d.t
        ∧ (t.take h).deadline
            = max s.now d.t + (if d.par 3 = 0 then takeDefault d.target else d.par 3) * ticksPerMs
        ∧ (t.take h).resAddr = d.par 0 + 2 ^ 32 * d.par 1 ∧ (t.take h).resLen = d.par 2 ∧ (t.take h).input = d.data
        ∧ (t.take h).committed = false ∧ (t.take h).prog = 0 ∧ (t.take h).step = 0
        ∧ (∀ g ∈ s.takeGroups (takeOf d), (s.grp g).st = .startup ∧ (t.grp g).st = .test)
        ∧ (∀ g, g ∉ s.takeGroups (takeOf d) → t.grp g = s.grp g) ∧ t.trm.srcs = s.trm.srcs ∧ TrmFrame s t))
  ∧ (∀ (s : State) h, s.takeHandle = some h → h < 16
      ∧ ((s.take h).st = .free ∧ (∀ k < h, (s.take k).st ≠ .free)
         ∨ (∀ k < 16, (s.take k).st ≠ .free) ∧ (s.take h).st = .ended ∧ ∀ k < h, (s.take k).st ≠ .ended))
  ∧ (∀ (s : State) d, Accepts 0x0011 d s → (s.take d.target).st ≠ .running →
      Completes (.takeSuspend d) s (fun t => Finishes 0x0011 d .refused 0 s t
        ∧ t = { s with now := max s.now d.t, hif := { s.hif with flights := t.hif.flights } }))
  ∧ (∀ (s : State) d, Accepts 0x0011 d s → (s.take d.target).st = .running →
      Completes (.takeSuspend d) s (fun t => t.hif.flights = (s.received 0x0011 d).hif.flights
        ∧ t.take d.target = { s.take d.target with st := .suspending, waiting := some (d.sq, d.t), atPoint := false }
        ∧ (∀ k, k ≠ d.target → t.take k = s.take k)
        ∧ t = { s with now := max s.now d.t, hif := { s.hif with flights := t.hif.flights, takes := t.hif.takes } }))
  ∧ (∀ (s : State) d, Accepts 0x0012 d s → (s.take d.target).st ≠ .suspended →
      Completes (.takeResume d) s (fun t => Answered d .refused 0 s t ∧ t.trm = s.trm ∧ TrmFrame s t))
  ∧ (∀ (s : State) d, Accepts 0x0012 d s → (s.take d.target).st = .suspended →
      (∀ g ∈ s.takeGroups (s.take d.target), (s.grp g).st = .test) → s.takeKeeps (s.take d.target) = true →
      Completes (.takeResume d) s (fun t => Answered d .ok 0 s t ∧ (t.take d.target).st = .running
        ∧ (t.take d.target).deadline = (s.take d.target).deadline
        ∧ Raised 235 [d.target, (s.take d.target).no, 1] s t ∧ t.trm = s.trm ∧ TrmFrame s t))
  ∧ (∀ (s : State) d, Accepts 0x0013 d s →
      ((s.take d.target).st = .free ∨ (s.take d.target).st = .ended ∨ (s.take d.target).st = .cancelling
        ∨ (s.take d.target).committed = true ∨ (s.take d.target).todo = []) →
      Completes (.takeCancel d) s (fun t => Answered d .refused 0 s t ∧ t.trm = s.trm ∧ TrmFrame s t))
  ∧ (∀ (s : State) d, Accepts 0x0013 d s →
      ((s.take d.target).st = .running ∨ (s.take d.target).st = .suspending ∨ (s.take d.target).st = .suspended) →
      (s.take d.target).committed = false → (s.take d.target).todo ≠ [] →
      Completes (.takeCancel d) s (fun t => (t.take d.target).st = .cancelling ∧ (t.take d.target).endStatus = .cancelled
        ∧ (t.take d.target).cause = 1 ∧ (t.take d.target).waiting = some (d.sq, d.t) ∧ t.trm = s.trm ∧ TrmFrame s t))

/-- R482 to R484, R486, R487, Tables 19.11 and 19.12.  A suspending take at a suspend point is SUSPENDED, its TAKE_SUSPEND
completes with OK, and EV235 is raised.  A unit that TK3 has wiped counts 64 KiB blocks of 4,096 bytes; a unit of TK8
writes its estimate's coefficients; a measurement that has failed leaves nothing to do and the take FAILED.  A take with
nothing left to do, or whose cancel result is complete, is ENDED with its status, EV236 and its result header, its waiting
command answered and its groups back in STARTUP.  At its deadline a take that has not ended is CANCELLING, to end with
TIMED_OUT, even where its last step is done in that tick (R39). -/
def Obligations.TakeEvents : Prop :=
  (∀ (s : State) t0 h, s.supply.ok = true → (s.take h).st = .suspending → (s.take h).atPoint = true →
      Completes (.takeSuspendPoint t0 h) s (fun t =>
        t.take h = { s.take h with st := .suspended, waiting := none, atPoint := false }
        ∧ Raises [(235, [h, (s.take h).no, 3])] s t ∧ (∀ k, k ≠ h → t.take k = s.take k)
        ∧ (∀ sq tick, (s.take h).waiting = some (sq, tick) →
            t.hif.flights = decideFirst sq tick { status := .ok, result := 0, done := max s.now t0 } s.hif.flights)
        ∧ t = { s with now := max s.now t0, hif := t.hif, evr := t.evr }))
  ∧ (∀ (s : State) t0 h bytes u r, s.supply.ok = true → (s.take h).st = .running → (s.take h).start ≤ max s.now t0 →
      max s.now t0 < (s.take h).deadline →
      (s.take h).no = 3 → (s.take h).committed = false → (s.take h).todo = u :: r →
      Completes (.takeStepDone t0 h bytes true) s (fun t =>
        (t.take h).todo = r ∧ (t.take h).prog = (s.take h).prog + u * 4096 ∧ (t.take h).st = .running
        ∧ (r ≠ [] → (t.take h).step = min 4095 ((s.take h).step + 1)) ∧ t.regs = s.regs ∧ t.trm = s.trm))
  ∧ (∀ (s : State) t0 h bytes u r, s.supply.ok = true → (s.take h).st = .running → (s.take h).start ≤ max s.now t0 →
      max s.now t0 < (s.take h).deadline → (s.take h).no = 8 → (s.take h).committed = false → (s.take h).todo = u :: r → u < 98 →
      (∀ g ∈ s.takeGroups (s.take h), (s.grp g).st = .test) → s.takeKeeps (s.take h) = true →
      Completes (.takeStepDone t0 h bytes true) s (fun t =>
        (t.take h).todo = r ∧ (t.take h).prog = (s.take h).prog + 1
        ∧ (∀ i < 5, t.reg (estKey u + 0x14 + 4 * i) = (field bytes (4 * i) 2 * 2 ^ 16 + field bytes (4 * i + 2) 2) % 2 ^ 32)
        ∧ (∀ key, (∀ i < 5, key ≠ estKey u + 0x14 + 4 * i) → t.reg key = s.reg key)
        ∧ t.trm = s.trm))
  ∧ (∀ (s : State) t0 h bytes, s.supply.ok = true → (s.take h).st = .running → (s.take h).start ≤ max s.now t0 →
      max s.now t0 < (s.take h).deadline →
      ((s.take h).no = 3 ∨ (s.take h).no = 4 ∨ (s.take h).no = 6 ∨ (s.take h).no = 7 ∨ (s.take h).no = 8
        ∨ (s.take h).no = 9 ∨ (s.take h).no = 10 ∨ (s.take h).no = 11 ∨ (s.take h).no = 12) → (s.take h).todo ≠ [] →
      Completes (.takeStepDone t0 h bytes false) s (fun t =>
        (t.take h).todo = [] ∧ (t.take h).endStatus = .failed ∧ (t.take h).cause = 5 ∧ (t.take h).st = .running
        ∧ t.regs = s.regs ∧ t.trm = s.trm))
  ∧ (∀ (s : State) t0 h, s.supply.ok = true → (s.take h).lost = false → (s.take h).no ≠ 9 →
      (((s.take h).st = .running ∨ (s.take h).st = .suspending) ∧ (s.take h).todo = []
          ∧ (max s.now t0 < (s.take h).deadline ∨ (s.take h).committed = true) ∨ (s.take h).st = .cancelling) →
      Completes (.takeEnd t0 h) s (fun t =>
        (t.take h).st = .ended ∧ (t.take h).status = (s.take h).endStatus ∧ (t.take h).waiting = none
        ∧ Raised 236 [h, (s.take h).no, (s.take h).endStatus.code, (s.take h).cause] s t
        ∧ ((s.take h).endStatus = .ok ∨ ((s.take h).no ≠ 7 ∧ (s.take h).no ≠ 10) →
            ∃ len data, HostMsg.result (s.take h).resAddr (s.take h).no (s.take h).endStatus.code (s.take h).cause
              (s.take h).step (s.take h).start (max s.now t0) len data ∈ t.hif.sent
              ∧ data.length ≤ (s.take h).resLen ∧ data.length ≤ len)
        ∧ (s.trm.srcs = [] → ∀ g ∈ s.takeGroups (s.take h), (s.grp g).st = .test →
            (t.grp g).st = .startup ∧ (t.grp g).forced = false ∧ Raised 12 [g] s t)))
  ∧ (∀ (s : State) t0 h, s.supply.ok = true →
      ((s.take h).st = .running ∨ (s.take h).st = .suspending ∨ (s.take h).st = .suspended) → (s.take h).committed = false →
      (s.take h).deadline ≤ max s.now t0 →
      Completes (.takeTimeout t0 h) s (fun t =>
        (t.take h).st = .cancelling ∧ (t.take h).endStatus = .timedOut ∧ (t.take h).cause = 2
        ∧ (t.take h).waiting = none ∧ t.trm = s.trm)
      ∧ Completes (.takeEnd t0 h) s (fun t =>
        (t.take h).st = .cancelling ∧ (t.take h).endStatus = .timedOut ∧ (t.take h).cause = 2 ∧ t.trm = s.trm))

/-! ### Thermal estimation (chapter 16) -/

/-- R393 to R399, R401, Table 16.1.  THM_UPDATE holds the die temperatures, with EV22 where the VLV die gets hot and EV23 where
the control die does.  A due estimate is at most 12 / 1,024 K from the rounded terms of R394, with its energy spent; it has
the factor, the sd flag and the warning that its T_j demands, with EV18, EV19 and EV16; where sd has changed, THM_SD of its
group is asserted exactly while an estimate of the group has sd, and a group that runs latches.  Every other estimate and,
without a change of sd, the trip matrix is as before.  The factor falls as T_j rises, and a derating channel holds the least
factor over its active estimates.  A sensor's fault and recovery change its flag alone, with EV20 for the fault. -/
def Obligations.ThermalEstimates : Prop :=
  (∀ (s : State) t0 e m, s.supply.ok = true → s.up dCtrl = true → Completes (.thmUpdate t0 e m) s (fun t =>
      let v := s.est e
      let w := t.est e
      let n := max s.now t0
      let due := (s.advance t0).estDue e
      t.thm.dieV = m.dieV ∧ t.thm.dieC = m.dieC ∧ t.thm.flt = s.thm.flt ∧ t.thm.run = s.thm.run
      ∧ (1700 ≤ m.dieV → t.thm.vlvHot = true ∧ (s.thm.vlvHot = false → Raised 22 [toBits 16 m.dieV] s t))
      ∧ (m.dieV < 1500 → t.thm.vlvHot = false) ∧ (1500 ≤ m.dieV → m.dieV < 1700 → t.thm.vlvHot = s.thm.vlvHot)
      ∧ (1250 ≤ m.dieC → s.thm.ctlHot = false → Raised 23 [toBits 16 m.dieC] s t)
      ∧ (∀ k, k ≠ e → t.est k = s.est k) ∧ (due = false → w = v ∧ t.trm = s.trm ∧ t.free = s.free)
      ∧ (due = true →
          let tS := s.estThr e 0x2C 31 16
          let tR := s.estThr e 0x2C 15 0
          let tW := s.estThr e 0x28 31 16
          let hys : Int := (s.fld 0x4C00 23 19 * 10 : Nat)
          let node := fun (i : Nat) => nodeStep (v.nodes.getD i 0) (s.fld (estKey e + 0x18 + 4 * i) 31 16)
            (max 1 (s.fld (estKey e + 0x18 + 4 * i) 15 0)) v.energy (n - v.last)
          w.energy = 0 ∧ w.last = n ∧ w.nodes.length = 4
          ∧ (∀ i < 4, (w.nodes.getD i 0 - node i).natAbs ≤ 10)
          ∧ (w.tj - (roundEven (t.tRef e * 1024) 10 + node 0 + node 1 + node 2 + node 3)).natAbs ≤ 12
          ∧ w.factor = estFactor w.tj (s.estThr e 0x28 15 0) tS
          ∧ (tR + 50 ≤ tS →
              (tS * 1024 ≤ w.tj * 10 → w.sd = true) ∧ (w.tj * 10 < tR * 1024 → w.sd = false)
              ∧ (w.tj * 10 < tS * 1024 → tR * 1024 ≤ w.tj * 10 → w.sd = v.sd))
          ∧ (w.sd = true → v.sd = false → Raised 18 [e, (s.legGroup (estLeg e)).getD 255, toBits 16 (tj10 w.tj)] s t)
          ∧ (w.sd = false → v.sd = true → Raised 19 [e] s t)
          ∧ (tW * 1024 ≤ w.tj * 10 → v.warned = false → w.warned = true ∧ Raised 16 [e, toBits 16 (tj10 w.tj)] s t)
          ∧ (w.tj * 10 < (tW - hys) * 1024 → w.tj * 10 < tW * 1024 → w.warned = false)
          ∧ (w.sd = v.sd → t.trm = s.trm)
          ∧ (w.sd ≠ v.sd → ∀ g, s.legGroup (estLeg e) = some g →
              (312 + g ∈ t.trm.srcs ↔ ∃ x ∈ t.thm.ests, x.2.sd = true ∧ s.legGroup (estLeg x.1) = some g))
          ∧ (w.sd = true → v.sd = false → ∀ g, s.legGroup (estLeg e) = some g → 312 + g ∉ s.trm.srcs →
              (s.grp g).st = .run → (t.grp g).st = .latched ∧ (t.grp g).forced = true))
      ∧ t = { s with now := n, thm := t.thm, free := t.free, trm := t.trm, mod := t.mod, gdv := t.gdv, cmus := t.cmus
                     rails := t.rails, ppm := t.ppm, prec := t.prec, dcl := t.dcl, lpe := t.lpe, hif := t.hif, evr := t.evr }))
  ∧ (∀ tj tj' tDer tSd : Int, tDer < tSd → tj ≤ tj' → estFactor tj' tDer tSd ≤ estFactor tj tDer tSd
      ∧ estFactor tj tDer tSd ≤ 32767 ∧ (tj * 10 ≤ tDer * 1024 → estFactor tj tDer tSd = 32767)
      ∧ (tSd * 1024 ≤ tj * 10 → estFactor tj tDer tSd = 0))
  ∧ (∀ (s : State) d, (∀ e, s.estActive e = true → s.estDch e = d → s.thmFactor d ≤ (s.est e).factor)
      ∧ (s.thmFactor d = 32767 ∨ ∃ x ∈ s.thm.ests, s.estActive x.1 = true ∧ s.estDch x.1 = d ∧ s.thmFactor d = x.2.factor))
  ∧ (∀ (s : State) t0 k, s.supply.ok = true → s.up dCtrl = true → k < 14 → s.snsFlt k = false → 10 ≤ (s.snsSt k).bad →
      Completes (.thmSensorFault t0 k) s (fun t => t.snsFlt k = true ∧ (∀ j, j ≠ k → t.snsFlt j = s.snsFlt j)
        ∧ Raises [(20, [k])] s t
        ∧ (∀ e, s.fld (estKey e + 8) 26 23 = k → t.tRef e = sx 16 (s.fld 0x4C00 15 0))
        ∧ t = { s with now := max s.now t0, thm := { s.thm with flt := t.thm.flt }, hif := t.hif, evr := t.evr }
        ∧ HostTold s t))
  ∧ (∀ (s : State) k, let x := s.snsSt k
      let out := s.snsTemp k < -500 ∨ 1750 < s.snsTemp k
      let y := (s.snsRead k).snsSt k
      (out → y.bad = min 10 (x.bad + 1) ∧ y.okSince = none) ∧ (¬ out → y.bad = 0 ∧ y.okSince = some (x.okSince.getD s.now))
      ∧ ∀ j, j ≠ k → (s.snsRead k).snsSt j = s.snsSt j)
  ∧ (∀ (s : State) t0 k b, s.supply.ok = true → s.up dCtrl = true → s.snsFlt k = true → (s.snsSt k).okSince = some b →
      b + 100 * ticksPerMs ≤ max s.now t0 → Completes (.thmSensorRecover t0 k) s (fun t => t.snsFlt k = false ∧ (∀ j, j ≠ k → t.snsFlt j = s.snsFlt j)
        ∧ t = { s with now := max s.now t0, thm := { s.thm with flt := t.thm.flt } }))

/-! ### The safety functions (chapters 17 and 18) -/

/-- R405, R406, R408, R415, R421, R422, R428, R430, Tables 17.3, 17.9.  SAFE_CFG_LOAD is REFUSED unless every group is DISABLED
and the image passes, and otherwise only writes the inactive bank.  SAFE_CFG_CONFIRM with the right digest confirms the bank
in force.  The self-test lets SHL start or sets SAFE_FAULT with EV30.  A late state word, and a rail that reads back live, set
SAFE_FAULT with EV25 or EV30 and EV26.  The supply-enable lines of a group open for all its high-side channels.  A channel that
demands for a group by its inputs has the demand set; it gives up a demand of its own only when R415 holds. -/
def Obligations.SafetyChannels : Prop :=
  (∀ (s : State) d, Accepts 0x0A00 d s → Completes (.safeCfgLoad d) s (fun t =>
      let off := ∀ g < 16, (s.grp g).st = .disabled
      (¬ off → Finishes 0x0A00 d .refused 0 s t
        ∧ t = { s with now := max s.now d.t, hif := { s.hif with flights := t.hif.flights } })
      ∧ (off → s.safeImage d.data = none → Finishes 0x0A00 d .refused 0 s t ∧ Raises [(29, [s.safeState, 255])] s t
        ∧ t = { s with now := max s.now d.t, hif := t.hif, evr := t.evr })
      ∧ (∀ b n, off → s.safeImage d.data = some b → s.safeBad b.safe b.bsl = some n → Finishes 0x0A00 d .refused 0 s t
        ∧ Raises [(29, [s.safeState, n + 2])] s t ∧ t = { s with now := max s.now d.t, hif := t.hif, evr := t.evr })
      ∧ (∀ b, off → s.safeImage d.data = some b → s.safeBad b.safe b.bsl = none → Finishes 0x0A00 d .ok 0 s t
        ∧ t = { s with now := max s.now d.t, saf := { s.saf with banks := put s.saf.banks (1 - s.saf.cur) b, loaded := true }
                       hif := { s.hif with flights := t.hif.flights } })))
  ∧ (∀ (s : State) d, Accepts 0x0A01 d s → Completes (.safeCfgConfirm d) s (fun t =>
      (∀ b, s.saf.cfg = some b → leNat ((dig64 b.dig).take 8) = d.par 0 + 2 ^ 32 * d.par 1 →
        Answered d .ok 0 s t ∧ t.saf.cfg = some { b with confirmed := true } ∧ (∃ x, Raised 29 [x, 0] s t)
        ∧ getD t.saf.banks s.saf.cur {} = { b with confirmed := true } ∧ t.safeLive = true ∧ t.saf.shl.ins = s.saf.shl.ins
        ∧ t.saf.sfp.ins = s.saf.sfp.ins ∧ (s.saf.match3 ≠ 3 → ∀ k < 6, t.inSto k = true) ∧ SafeFollows t)
      ∧ ((∀ b, s.saf.cfg = some b → leNat ((dig64 b.dig).take 8) ≠ d.par 0 + 2 ^ 32 * d.par 1) →
        Answered d .refused 0 s t ∧ t.saf = s.saf ∧ t.trm = s.trm)
      ∧ t.now = max s.now d.t ∧ ChanFrame s t))
  ∧ (∀ (s : State) t0 ok, s.supply.ok = true → s.up dShl = true → Completes (.shlSelfTestDone t0 ok) s (fun t =>
      (ok = true → t.saf.shl.tested = true ∧ t.saf.shl.fault = s.saf.shl.fault)
      ∧ (ok = false → s.saf.shl.fault = false → SafeFaulted 0 t ∧ t.saf.shl.cause = 9 ∧ Raised 30 [9] s t
          ∧ Raised 26 [0, 9] s t)
      ∧ t.saf.shl.ins = s.saf.shl.ins ∧ t.saf.sfp = s.saf.sfp ∧ t.now = max s.now t0 ∧ SafeFollows t ∧ ChanFrame s t))
  ∧ (∀ (s : State) t0 ch w, s.supply.ok = true → ch < 2 → s.chanUp ch = true → (s.safeCh ch).word = some w →
      w + 2 * s.sfpCyc ≤ max s.now t0 → (s.safeCh ch).fault = false → Completes (.continuityTimeout t0 ch) s (fun t =>
        SafeFaulted ch t ∧ (t.safeCh ch).cause = 1 ∧ t.safeCh (1 - ch) = s.safeCh (1 - ch)
        ∧ Raised 25 [4] s t ∧ Raised 26 [ch, 1] s t ∧ t.now = max s.now t0 ∧ SafeFollows t ∧ ChanFrame s t))
  ∧ (∀ (s : State) t0 k ok x, s.supply.ok = true → k < 6 → s.up dShl = true →
      s.saf.readAt.find? (fun y => y.1 == k) = some x → x.2 ≤ max s.now t0 → Completes (.supplyReadback t0 k ok) s (fun t =>
        (∀ y ∈ t.saf.readAt, y.1 ≠ k) ∧ t.saf.sfp = s.saf.sfp ∧ t.now = max s.now t0 ∧ ChanFrame s t
        ∧ (ok = true → t.saf = { s.saf with readAt := t.saf.readAt } ∧ t.trm = s.trm)
        ∧ (ok = false → s.saf.shl.fault = false → SafeFaulted 0 t ∧ t.saf.shl.cause = 4 ∧ Raised 30 [4] s t
            ∧ Raised 26 [0, 4] s t ∧ SafeFollows t)))
  ∧ (∀ (s : State) t0 k x, s.supply.ok = true → k < 6 → s.up dShl = true →
      s.saf.openAt.find? (fun y => y.1 == k) = some x → x.2 ≤ max s.now t0 → Completes (.shlSupplyOpen t0 k) s (fun t =>
        (∀ c < 134, (chSto c = some k →
            t.ch c = { s.ch c with armed := false, on := false, removed := true, uv := [] })
          ∧ (chSto c ≠ some k → t.ch c = s.ch c))
        ∧ bitAt t.saf.opened k = true ∧ (∀ j < 6, j ≠ k → bitAt t.saf.opened j = bitAt s.saf.opened j)
        ∧ (k, max s.now t0 + 305 * ticksPerUs) ∈ t.saf.readAt ∧ (∀ y ∈ t.saf.openAt, y.1 ≠ k)
        ∧ t = { s with now := max s.now t0, gdv := { s.gdv with chs := t.gdv.chs }
                       saf := { s.saf with opened := t.saf.opened, openAt := t.saf.openAt, readAt := t.saf.readAt } }))
  ∧ (∀ (s : State) ch k, ch < 2 → k < 6 → s.stoDem ch k = true → bitAt ((s.chanUpdate ch).safeCh ch).dem k = true)
  ∧ (∀ (s : State) ch k, ch < 2 → k < 6 → bitAt (s.safeCh ch).own k = true →
      bitAt ((s.chanUpdate ch).safeCh ch).own k = false →
      s.stoDem ch k = false ∧ s.ss1Dem ch k = false ∧ (s.ss1 ch k).st ≠ 1 ∧ s.safeStarted ch = true
      ∧ (∀ w ∈ ((s.chanUpdate ch).safeCh ch).waits, w.1 ≠ k) ∧ (4 ≤ k → ∀ g ∈ s.stoGroups k, s.safeLvl g = 0))
  ∧ (∀ (s : State) (shl0 : SafeCh) f, f ∈ s.wordDiff s.saf.sfp shl0 → s.sf 2 1 ≤ getD s.saf.mis f 0 →
      let t := s.wordExchange shl0
      SafeFaulted 0 t ∧ t.saf.sfp.fault = true ∧ (s.saf.sfp.fault = false → SafeFaulted 1 t))
  ∧ (∀ (s : State) (shl0 : SafeCh), s.wordDiff s.saf.sfp shl0 = [] → let t := s.wordExchange shl0
      t.saf.match3 = satInc 3 s.saf.match3 ∧ t.saf.shl.fault = s.saf.shl.fault ∧ t.saf.sfp.fault = s.saf.sfp.fault
      ∧ t.saf.shl.seen = s.saf.sfp.own ∧ t.saf.sfp.seen = shl0.own
      ∧ ∀ k < 6, bitAt s.saf.sfp.own k = true → bitAt t.saf.shl.dem k = true)

/-- R158, R407, R410 to R414, R418 to R421, Tables 17.3, 17.9.  A line's change is that line's alone in that channel: an STO
input that demands sets the demand of the groups it names, an SS1 input that demands starts SS1 where nothing else does.  Lines
apart for disc, and a line that misses its pulse or follows another, put the input in fault with EV15.  Either STO_REQ pin low,
and a disagreement of 1,000 ms with EV28, demand for the groups of the mask.  A tap window that closes judges a running SS1:
shortfall with EV24, standstill or deadline end it with EV14 and a demand.  Tap edges count.  After each of these and after an
SFP cycle the trip sources, supply-enable lines and STO states follow the demands. -/
def Obligations.SafeInputsAndStops : Prop :=
  (∀ (s : State) t0 ch i lineB level, s.supply.ok = true → ch < 2 → i < 16 → s.chanUp ch = true →
      Completes (.safeInputLineChange t0 ch i lineB level) s (fun t =>
        let n := max s.now t0
        (t.safeIn ch i).a = (if lineB then (s.safeIn ch i).a else level)
        ∧ (t.safeIn ch i).b = (if lineB then level else (s.safeIn ch i).b)
        ∧ (∀ j, j ≠ i → t.safeIn ch j = s.safeIn ch j) ∧ (t.safeCh (1 - ch)) = s.safeCh (1 - ch)
        ∧ (let late := s.siMode i ≠ 0 ∧ ∃ x, (s.safeIn ch i).dis = some x ∧ x + s.siDisc i ≤ n
           (s.safeIn ch i).fault = 0 → ((t.safeIn ch i).fault = 1 ↔ late) ∧ (¬ late → (t.safeIn ch i).fault = 0)
             ∧ (late → (s.safeIn (1 - ch) i).fault = 0 → Raised 15 [i, if s.lineDem ch i 0 then 0 else 1, 1] s t))
        ∧ (t.lineDem ch i 0 = t.lineDem ch i 1 → (t.safeIn ch i).dis = none)
        ∧ (t.lineDem ch i 0 ≠ t.lineDem ch i 1 → (t.safeIn ch i).dis = some (((s.safeIn ch i).dis).getD n))
        ∧ (∀ k < 6, s.siMode i ≠ 0 → s.siFunc i = 0 → bitAt (s.siMask i) k = true →
            (t.lineDem ch i 0 = true ∨ t.lineDem ch i 1 = true) → bitAt (t.safeCh ch).dem k = true)
        ∧ (∀ k < 4, s.siMode i ≠ 0 → s.siFunc i = 1 → bitAt (s.siMask i) k = true → t.siDem ch i = true →
            t.stoDem ch k = false → s.inSto k = false → bitAt (s.safeCh ch).own k = false →
            bitAt (s.safeCh ch).seen k = false → (s.ss1 ch k).st = 0 →
            (t.ss1 ch k).st = 1 ∧ (t.ss1 ch k).start = n ∧ (ch = 0 → (t.ss1 ch k).v0 = (s.tap k).last)
            ∧ (ch = 1 → (t.ss1 ch k).v0 = ((s.advance t0).srcRpm (s.tgRsv k)).natAbs)
            ∧ ((s.ss1 (1 - ch) k).st ≠ 1 → Raised 14 [k, 0] s t))
        ∧ t.now = n ∧ SafeFollows t ∧ ChanFrame s t))
  ∧ (∀ (s : State) t0 ch i x, s.supply.ok = true → ch < 2 → i < 16 → s.chanUp ch = true → s.siMode i ≠ 0 →
      (s.safeIn ch i).dis = some x → x + s.siDisc i ≤ max s.now t0 → (s.safeIn ch i).fault = 0 →
      Completes (.safeInputDiscrepancy t0 ch i) s (fun t =>
        (t.safeIn ch i).fault = 1 ∧ (∀ j, j ≠ i → t.safeIn ch j = s.safeIn ch j)
        ∧ ((s.safeIn (1 - ch) i).fault = 0 → Raised 15 [i, if s.lineDem ch i 0 then 0 else 1, 1] s t)
        ∧ (∀ k < 6, s.siFunc i = 0 → bitAt (s.siMask i) k = true → bitAt (t.safeCh ch).dem k = true)
        ∧ t.safeCh (1 - ch) = s.safeCh (1 - ch) ∧ t.now = max s.now t0 ∧ SafeFollows t ∧ ChanFrame s t))
  ∧ (∀ (s : State) t0 k shlLow sfpLow, s.supply.ok = true → k < 4 → s.saf.cfg.isSome = true →
      Completes (.testPulse t0 k shlLow sfpLow) s (fun t =>
        (∀ ch < 2, (if ch = 0 then s.up dShl else s.chanUp 1) = true →
          let low := if ch = 0 then shlLow else sfpLow
          let fails := fun (i b : Nat) => s.siMode i ≠ 0 ∧ s.siTp i b ≠ 0
            ∧ (if b = 0 then (s.safeIn ch i).a else (s.safeIn ch i).b) = true ∧ ¬(s.siTp i b = k + 1 ↔ 2 * i + b ∈ low)
          k ∈ (t.safeCh ch).tps
          ∧ ∀ i < 16, ((fails i 0 ∨ fails i 1) → (s.safeIn ch i).fault = 0 → (t.safeIn ch i).fault = 2
                ∧ (ch = 0 → (s.safeIn 1 i).fault = 0 → ∃ b < 2, fails i b ∧ Raised 15 [i, b, 2] s t))
            ∧ (¬ fails i 0 → ¬ fails i 1 → t.safeIn ch i = s.safeIn ch i)
            ∧ (t.safeIn ch i).a = (s.safeIn ch i).a ∧ (t.safeIn ch i).b = (s.safeIn ch i).b)
        ∧ t.now = max s.now t0 ∧ SafeFollows t ∧ ChanFrame s t))
  ∧ (∀ (s : State) t0 pin low, s.supply.ok = true → pin < 2 → s.chanUp pin = true →
      Completes (.stoReqChange t0 pin low) s (fun t =>
        (t.safeCh pin).pin = low ∧ (t.safeCh (1 - pin)).pin = (s.safeCh (1 - pin)).pin
        ∧ (low = true → ∀ k < 6, bitAt s.reqMask k = true → bitAt (t.safeCh pin).dem k = true)
        ∧ (t.saf.shl.pin = t.saf.sfp.pin → t.saf.reqDis = none)
        ∧ (t.saf.shl.pin ≠ t.saf.sfp.pin → t.saf.reqDis = some (s.saf.reqDis.getD (max s.now t0)))
        ∧ (s.saf.reqLatch = true → (t.saf.shl.pin = true ∨ t.saf.sfp.pin = true) → t.saf.reqLatch = true)
        ∧ t.saf.shl.ins = s.saf.shl.ins ∧ t.saf.sfp.ins = s.saf.sfp.ins
        ∧ t.now = max s.now t0 ∧ SafeFollows t ∧ ChanFrame s t))
  ∧ (∀ (s : State) t0 pin x, s.supply.ok = true → pin < 2 → s.reqMask ≠ 0 → (s.safeCh pin).pin = true →
      s.saf.reqLatch = false → s.saf.reqDis = some x → x + 1000 * ticksPerMs ≤ max s.now t0 →
      Completes (.stoReqDisc t0 pin) s (fun t =>
        t.saf.reqLatch = true ∧ Raised 28 [pin] s t
        ∧ (∀ ch < 2, ∀ k < 6, bitAt s.reqMask k = true → bitAt (t.safeCh ch).dem k = true)
        ∧ t.saf.shl.ins = s.saf.shl.ins ∧ t.saf.sfp.ins = s.saf.sfp.ins
        ∧ t.now = max s.now t0 ∧ SafeFollows t ∧ ChanFrame s t))
  ∧ (∀ (s : State) t0 g, s.supply.ok = true → g < 4 → s.up dShl = true → s.saf.cfg.isSome = true → s.tgTap g ≠ 255 →
      (s.tap g).next ≤ max s.now t0 → Completes (.shlSs1Window t0 g) s (fun t =>
        let x := s.tap g
        let el := x.next - (s.ss1 0 g).start
        let lim := (s.ss1 0 g).v0 * (s.tgRamp g - el) / s.tgRamp g + s.sf (tgBase g + 8) 2
        let judged := (s.ss1 0 g).st = 1 ∧ (s.ss1 0 g).start ≤ x.next
        let ends := fun (st cause : Nat) => (t.ss1 0 g).st = st ∧ bitAt t.saf.shl.dem g = true ∧ SafeFollows t
          ∧ ((s.ss1 1 g).st < 2 → Raised 14 [g, cause] s t)
        t.tap g = { x with last := x.cnt, cnt := 0, next := x.next + s.tgW g } ∧ (∀ j, j ≠ g → t.tap j = s.tap j)
        ∧ (judged → lim < x.cnt → ends 3 1 ∧ Raised 24 [g, 0, x.cnt, lim] s t)
        ∧ (judged → x.cnt ≤ lim → x.cnt ≤ s.sf (tgBase g + 10) 2 → ends 2 2)
        ∧ (judged → x.cnt ≤ lim → s.sf (tgBase g + 10) 2 < x.cnt → s.tgTmax g ≤ el → ends 2 3)
        ∧ (¬ judged → t.saf = { s.saf with taps := t.saf.taps } ∧ t.trm = s.trm)
        ∧ (judged → x.cnt ≤ lim → s.sf (tgBase g + 10) 2 < x.cnt → el < s.tgTmax g → t.ss1 0 g = s.ss1 0 g)
        ∧ t.saf.sfp = s.saf.sfp ∧ t.saf.shl.ins = s.saf.shl.ins ∧ t.now = max s.now t0 ∧ ChanFrame s t))
  ∧ (∀ (s : State) t0 ch g, s.supply.ok = true → ch < 2 → g < 4 → s.chanUp ch = true → (s.ss1 ch g).st = 1 →
      (s.ss1 ch g).start + s.tgTmax g ≤ max s.now t0 → Completes (.ss1Deadline t0 ch g) s (fun t =>
        (t.ss1 ch g).st = 2 ∧ (∀ h, h ≠ g → t.ss1 ch h = s.ss1 ch h) ∧ bitAt (t.safeCh ch).dem g = true
        ∧ ((s.ss1 (1 - ch) g).st < 2 → Raised 14 [g, 3] s t) ∧ t.safeCh (1 - ch) = s.safeCh (1 - ch)
        ∧ t.now = max s.now t0 ∧ SafeFollows t ∧ ChanFrame s t))
  ∧ (∀ (s : State) t0 i, s.supply.ok = true → s.up dShl = true → s.saf.cfg.isSome = true → s.pfiMode i ≠ 4 → s.pfiMode i ≠ 5 →
      Completes (.shlTapEdge t0 i) s (fun t =>
        (∀ g < 4, (s.tgTap g = i → t.tap g = { s.tap g with cnt := satInc 65535 (s.tap g).cnt })
          ∧ (s.tgTap g ≠ i → t.tap g = s.tap g))
        ∧ t = { s with now := max s.now t0, saf := { s.saf with taps := t.saf.taps } }))
  ∧ (∀ (s : State) t0 diag, s.supply.ok = true → s.chanUp 1 = true → s.saf.next ≤ (s.advance t0).actTick →
      Completes (.sfpCycle t0 diag) s (fun t =>
        t.saf.cycles = (s.saf.cycles + 1) % 65536 ∧ (0 < s.sfpCyc → (s.advance t0).actTick < t.saf.next ∧ t.saf.next ≤ (s.advance t0).actTick + s.sfpCyc)
        ∧ ((diag = 5 ∨ diag = 7 ∨ diag = 8) → s.saf.sfp.fault = false → (s.advance t0).wordLate 1 = false →
            SafeFaulted 1 t ∧ t.saf.sfp.cause = diag ∧ Raised 30 [diag] s t ∧ Raised 26 [1, diag] s t)
        ∧ (s.saf.sfp.fault = true → t.saf.sfp.fault = true) ∧ (s.saf.shl.fault = true → t.saf.shl.fault = true)
        ∧ t.saf.shl.ins = s.saf.shl.ins ∧ t.saf.sfp.ins = s.saf.sfp.ins ∧ t.saf.cfg = s.saf.cfg
        ∧ t.now = max s.now t0 ∧ SafeFollows t ∧ ChanFrame s t))
  ∧ (∀ (s : State) g, s.srcValid (s.tgRsv g) = true →
      let n := (s.srcRpm (s.tgRsv g)).natAbs
      let el := s.now - (s.ss1 1 g).start
      let lim := (s.ss1 1 g).v0 * (s.tgRamp g - el) + 4 * s.sf (tgBase g + 12) 2 * s.tgRamp g
      let t := s.sfpJudge g
      (lim < n * s.tgRamp g → (t.ss1 1 g).st = 3 ∧ bitAt t.saf.sfp.dem g = true)
      ∧ (n * s.tgRamp g ≤ lim → (n ≤ 4 * s.sf (tgBase g + 14) 2 ∨ s.tgTmax g ≤ el) →
          (t.ss1 1 g).st = 2 ∧ bitAt t.saf.sfp.dem g = true)
      ∧ (n * s.tgRamp g ≤ lim → 4 * s.sf (tgBase g + 14) 2 < n → el < s.tgTmax g → t = s))
  ∧ (∀ (s : State) g, s.srcValid (s.tgRsv g) = false →
      ((s.sfpJudge g).ss1 1 g).st = 2 ∧ bitAt (s.sfpJudge g).saf.sfp.dem g = true)

/-! ### The Baronold layer and the mailboxes (chapters 18 and 20) -/

/-- R440, R442 to R446, R448, R449, Tables 18.1, 18.3.  The check value of "123456789" is 0xE306_9283.  On an open IN connection a
good frame that repeats or comes late is only counted, one beyond gap_max puts it into FAULT with SEQUENCE, a stale one is only
counted, and one that passes moves last, the data and the deadline and is answered by one ACK with the next cseq.  A bad frame
never moves the deadline, and too many of them put it into FAULT with CRC.  A watchdog that has passed in a cycle puts the
connection into FAULT with WATCHDOG: an IN connection demands, an OUT connection raises EV218.  An OUT connection queues one
frame with the next seq. -/
def Obligations.BaronoldLayer : Prop :=
  crc32c [0x31, 0x32, 0x33, 0x34, 0x35, 0x36, 0x37, 0x38, 0x39] = 0xE3069283
  ∧ (∀ (s : State) c f, s.bslBad c f = none → s.cnOut c = false → (s.conn c).st = .opn → (s.conn c).begun = true →
      let x := s.conn c
      let q := field f.bytes 2 2
      let d := (q + 65536 - x.last) % 65536
      let t := s.bslJudge c f
      let ok := ∃ n ∈ x.named, n.1 = field f.bytes 4 2 ∧ ∃ b, n.2 = some b ∧ s.now < b + s.cnExp c
      (d = 0 ∨ 32768 ≤ d → t = s.setConn c { x with repCnt := satInc 255 x.repCnt, run := 0 })
      ∧ (0 < d → d < 32768 → s.cnGap c < d → (t.conn c).st = .fault ∧ (t.conn c).cause = 2 ∧ (t.conn c).fltT = s.now
          ∧ Raised 216 [c, 3, 2] s t)
      ∧ (0 < d → d < 32768 → d ≤ s.cnGap c → ¬ ok → t = s.setConn c { x with staleCnt := satInc 255 x.staleCnt, run := 0 })
      ∧ (0 < d → d < 32768 → d ≤ s.cnGap c → ok → x.dl ≤ f.sof → t = s)
      ∧ (0 < d → d < 32768 → d ≤ s.cnGap c → ok → f.sof < x.dl →
          (t.conn c).last = q ∧ (t.conn c).dl = f.sof + s.cnWd c ∧ (t.conn c).cseq = (x.cseq + 1) % 65536
          ∧ (t.conn c).tx = x.tx ++ [s.bslFrame c 2 0 ((x.cseq + 1) % 65536) q 0]
          ∧ (bitAt (field f.bytes 1 1) 1 = false → (t.conn c).st = .opn ∧ (t.conn c).data = field f.bytes 6 2)
          ∧ (bitAt (field f.bytes 1 1) 1 = true → (t.conn c).st = .fault ∧ (t.conn c).cause = 4 ∧ (t.conn c).data = 0)))
  ∧ (∀ (s : State) c f kind, s.bslBad c f = some kind → (s.conn c).st ≠ .closed →
      let bads := f.sof :: (s.conn c).bads.filter (fun t => f.sof ≤ t + ticksPerS)
      let t := s.bslJudge c f
      (t.conn c).dl = (s.conn c).dl ∧ (t.conn c).last = (s.conn c).last ∧ (t.conn c).data = (s.conn c).data
      ∧ (t.conn c).tx = (s.conn c).tx ∧ (t.conn c).crcCnt = satInc 255 (s.conn c).crcCnt
      ∧ (s.cnCrcMax c < bads.length → (s.conn c).st = .opn ∨ (s.conn c).st = .opening →
          (t.conn c).st = .fault ∧ (t.conn c).cause = 3)
      ∧ (bads.length ≤ s.cnCrcMax c → (t.conn c).st = (s.conn c).st))
  ∧ (∀ (s : State) t0 c, s.supply.ok = true → c < 32 → s.chanUp 1 = true → s.safeLive = true → s.saf.sfp.fault = false →
      s.cnEn c = true → s.saf.next ≤ (s.advance t0).actTick → (∀ f ∈ (s.conn c).rx, max s.now t0 ≤ f.fin) → (s.conn c).begun = true →
      ((s.conn c).st = .opn ∨ (s.conn c).st = .opening) →
      Completes (.bslWatchdog t0 c) s (fun t =>
        ((s.conn c).dl ≤ max s.now t0 →
          (t.conn c).st = .fault ∧ (t.conn c).cause = 1 ∧ (t.conn c).fltT = max s.now t0 ∧ Raised 216 [c, 3, 1] s t
          ∧ (s.cnOut c = true → Raised 218 [c] s t)
          ∧ (s.cnOut c = false → ∀ k < 6, bitAt (s.cnSto c) k = true ∨ (k < 4 ∧ bitAt (s.cnSs1 c) k = true) →
              bitAt t.saf.sfp.dem k = true))
        ∧ (max s.now t0 < (s.conn c).dl → t.conn c = s.conn c)
        ∧ (∀ j, j ≠ c → t.conn j = s.conn j) ∧ t.saf.shl = s.saf.shl ∧ t.now = max s.now t0 ∧ SafeFollows t ∧ ChanFrame s t))
  ∧ (∀ (s : State) t0 c, s.supply.ok = true → c < 32 → s.chanUp 1 = true → s.safeLive = true → s.cnEn c = true →
      s.cnOut c = true → (s.conn c).st ≠ .closed → (s.conn c).next ≤ max s.now t0 → s.saf.next ≤ (s.advance t0).actTick →
      0 < s.cnProd c → Completes (.bslDataSend t0 c) s (fun t =>
        let x := s.conn c
        let data := if x.st = .opn then s.outData else 0
        (t.conn c).seq = (x.seq + 1) % 65536 ∧ (t.conn c).st = x.st ∧ (t.conn c).dl = x.dl ∧ (t.conn c).last = x.last
        ∧ (t.conn c).tx = x.tx ++ [s.bslFrame c 1 (if x.st = .opn then 0 else 1) ((x.seq + 1) % 65536) x.echo data]
        ∧ max s.now t0 < (t.conn c).next ∧ ((t.conn c).next - x.next) % s.cnProd c = 0
        ∧ (∀ j, j ≠ c → t.conn j = s.conn j)
        ∧ t = { s with now := max s.now t0, saf := { s.saf with conns := t.saf.conns } }))

/-- R494 to R500.  MBX_POST is REFUSED on a disabled channel, from a sender other than the host and to a domain that is off with
wake 0, BUSY on a PENDING slot, and otherwise places the message, its deadline counted from the post and its status open.
MBX_ACK is REFUSED unless the host receives on the channel and the slot holds a message; below the deadline ACKED becomes
final, and after it the message is consumed with result 1 and EV202.  At the deadline TIMED_OUT becomes final with EV201, and
the waiting post completes with the deadline as its tick.  An internal receiver's acknowledgement completes the waiting post
with ACKED; an internal post fills an empty slot, with EV200 towards the host, and waits behind a PENDING one (the model's choice,
notes/assumptions/70.md). -/
def Obligations.MailboxMessages : Prop :=
  (∀ (s : State) d, Accepts 0x0B00 d s → Completes (.mbxPost d) s (fun t =>
      let c := d.target
      let n := max s.now d.t
      let x := s.mbxCh c
      let no := s.mbxEn c = false ∨ s.mbxSnd c ≠ 0 ∨ (s.mbxTakes c = false ∧ s.mbxWake c = false)
      let live := x.slot = .pending ∧ ∀ dl, x.deadline = some dl → n < dl
      (no → Finishes 0x0B00 d .refused 0 s t
        ∧ t = { s with now := n, hif := { s.hif with flights := t.hif.flights } })
      ∧ (¬ no → live → Finishes 0x0B00 d .busy 0 s t
        ∧ t = { s with now := n, hif := { s.hif with flights := t.hif.flights } })
      ∧ (¬ no → x.slot ≠ .pending → s.mbxTakes c = true → s.mbxRcv c ≠ 0 →
          t.mbxCh c = { x with
            slot := .pending, ptr := d.par 0 + 2 ^ 32 * d.par 1, tag := d.par 2, post := some (d.sq, d.t)
            postCnt := satInc 255 x.postCnt
            deadline := if (if d.par 3 = 0 then s.mbxTo c else d.par 3) = 0 then none
                        else some (n + (if d.par 3 = 0 then s.mbxTo c else d.par 3) * ticksPerUs) }
          ∧ (∀ k, k ≠ c → t.mbxCh k = s.mbxCh k)
          ∧ t = { s with now := n, mbx := t.mbx, hif := { s.hif with flights := (s.received 0x0B00 d).hif.flights } })
      ∧ (¬ no → x.slot ≠ .pending → s.mbxTakes c = false → s.secu.dead.contains 0 = false →
          (t.mbxCh c).slot = .pending ∧ (t.mbxCh c).waking = true ∧ (t.mbxCh c).post = some (d.sq, d.t)
          ∧ ∀ dom, masterDom (s.mbxRcv c) = some dom → Raised 205 [c, dom] s t)))
  ∧ (∀ (s : State) d, Accepts 0x0B01 d s → Completes (.mbxAck d) s (fun t =>
      let c := d.target
      let x := s.mbxCh c
      let no := s.mbxEn c = false ∨ s.mbxRcv c ≠ 0 ∨ x.slot = .empty
      (no → Finishes 0x0B01 d .refused 0 s t
        ∧ t = { s with now := max s.now d.t, hif := { s.hif with flights := t.hif.flights } })
      ∧ (¬ no → x.slot = .pending → (∀ dl, x.deadline = some dl → max s.now d.t < dl) → x.post = none → x.kept = [] →
          Finishes 0x0B01 d .ok 0 s t ∧ (t.mbxCh c).final = .acked ∧ (t.mbxCh c).lateAck = false
          ∧ ((∀ k < 6, ∀ q < 8, s.qMbx k q ≠ c) →
            t.mbxCh c = { x with slot := .empty, final := .acked, lateAck := false } ∧ (∀ k, k ≠ c → t.mbxCh k = s.mbxCh k)
            ∧ t = { s with now := max s.now d.t, mbx := t.mbx, hif := { s.hif with flights := t.hif.flights } }))
      ∧ (¬ no → x.slot = .unconsumed → x.kept = [] → (∀ k < 6, ∀ q < 8, s.qMbx k q ≠ c) →
          Finishes 0x0B01 d .ok 1 s t ∧ t.mbxCh c = { x with slot := .empty, lateAck := true }
          ∧ (∀ k, k ≠ c → t.mbxCh k = s.mbxCh k) ∧ Raises [(202, [c, x.tag])] s t
          ∧ t = { s with now := max s.now d.t, mbx := t.mbx, hif := t.hif, evr := t.evr })))
  ∧ (∀ (s : State) t0 c dl, s.supply.ok = true → s.up dHost = true → (s.mbxCh c).slot = .pending →
      (s.mbxCh c).deadline = some dl → Completes (.mbxDeadline t0 c) s (fun t =>
        let x := s.mbxCh c
        (max s.now t0 < dl → t = { s with now := max s.now t0 })
        ∧ (dl ≤ max s.now t0 → t.mbxCh c = { x with
              slot := .unconsumed, final := .timedOut, lateAck := false, post := none, toCnt := satInc 255 x.toCnt }
          ∧ (∀ k, k ≠ c → t.mbxCh k = s.mbxCh k) ∧ Raises [(201, [c, x.tag])] s t
          ∧ t.hif.flights = (match x.post with
              | some (sq, id) => decideFirst sq id { status := .timedOut, result := 0, done := dl } s.hif.flights
              | none => s.hif.flights)
          ∧ t.hif.pend = s.hif.pend
          ∧ t = { s with now := max s.now t0, mbx := t.mbx, hif := t.hif, evr := t.evr })))
  ∧ (∀ (s : State) t0 c dom, s.supply.ok = true → s.up dHost = true → s.mbxEn c = true → masterDom (s.mbxRcv c) = some dom →
      s.up dom = true → (s.mbxCh c).kept = [] → Completes (.mbxReceiverAck t0 c) s (fun t =>
        let x := s.mbxCh c
        (x.slot = .pending → (∀ dl, x.deadline = some dl → max s.now t0 < dl) →
          t.mbxCh c = { x with slot := .empty, final := .acked, lateAck := false, post := none }
          ∧ t.hif.flights = (match x.post with
              | some (sq, id) => decideFirst sq id { status := .acked, result := 0, done := max s.now t0 } s.hif.flights
              | none => s.hif.flights) ∧ t.evr = s.evr)
        ∧ (x.slot = .unconsumed → t.mbxCh c = { x with slot := .empty, lateAck := true } ∧ Raises [(202, [c, x.tag])] s t)
        ∧ (x.slot = .empty → t = { s with now := max s.now t0 })
        ∧ (∀ k, k ≠ c → t.mbxCh k = s.mbxCh k)
        ∧ t = { s with now := max s.now t0, mbx := t.mbx, hif := t.hif, evr := t.evr }))
  ∧ (∀ (s : State) t0 c ptr tag dom, s.supply.ok = true → s.up dHost = true → s.mbxEn c = true →
      masterDom (s.mbxSnd c) = some dom → s.up dom = true → Completes (.mbxInternalPost t0 c ptr tag) s (fun t =>
        let x := s.mbxCh c
        let n := max s.now t0
        (x.slot ≠ .pending → t.mbxCh c = { x with
            slot := .pending, ptr := ptr % 2 ^ 64, tag := tag % 2 ^ 32, post := none, postCnt := satInc 255 x.postCnt
            deadline := if s.mbxTo c = 0 then none else some (n + s.mbxTo c * ticksPerUs) }
          ∧ Raises (if s.mbxRcv c = 0 then [(200, [c, ptr % 2 ^ 32, ptr % 2 ^ 64 / 2 ^ 32, tag % 2 ^ 32])] else []) s t)
        ∧ (x.slot = .pending → (∀ dl, x.deadline = some dl → n < dl) →
            t.mbxCh c = { x with kept := x.kept ++ [(ptr % 2 ^ 64, tag % 2 ^ 32)] } ∧ t.evr = s.evr)
        ∧ (∀ k, k ≠ c → t.mbxCh k = s.mbxCh k)
        ∧ t = { s with now := n, mbx := t.mbx, hif := t.hif, evr := t.evr }))

/-! ### The CAN controllers (chapter 21) -/

/-- R508 to R512, R514 to R516, R518 to R520, R525, R526, R552, Table 21.2.  CAN_TX_ARM is BUSY on an armed object, REFUSED as
R514 says, and otherwise arms the object with the record.  CAN_TX_ABORT ends an object that is not on the bus with HOST; one on
the bus goes on, and a success completes the command with REFUSED, a failure with OK.  CAN_RX_RELEASE returns the oldest entries
alone.  CAN_REINIT sets the counters to 0, aborts every armed object, keeps every queue and starts the self-check.  A frame goes
to its Baronold connection alone, or to the first queue that matches, into its next entry or dropped.  TEC and REC move the state,
TEC holds while passive without an acknowledge, ack_run counts to EV193, retry_max aborts with RETRY, BUS_OFF is left with both
counters 0, and a failed check sets FAILED with EV196. -/
def Obligations.CanControllers : Prop :=
  (∀ (s : State) d, Accepts 0x0C00 d s → Completes (.canTxArm d) s (fun t =>
      let k := d.target / 256
      let o := d.target % 256
      let f := frameOf d.data
      let own := s.objOwner k o = 0
      let good := (s.can k).st ≠ .stopped ∧ (s.can k).st ≠ .failed ∧ d.len = 24 + field d.data 6 2 ∧ s.frameOk k d.data = true
        ∧ f.time ≤ d.t + 2 ^ 32 ∧ (bitAt f.flags 3 = true → s.isobus k = true ∧ (s.can k).sa ≤ 253)
      (own → (s.canObj k o).st = 1 → Finishes 0x0C00 d .busy 0 s t
        ∧ t = { s with now := max s.now d.t, hif := { s.hif with flights := t.hif.flights } })
      ∧ (¬ own ∨ ((s.canObj k o).st ≠ 1 ∧ ¬ good) → Finishes 0x0C00 d .refused 0 s t
        ∧ t = { s with now := max s.now d.t, hif := { s.hif with flights := t.hif.flights } })
      ∧ (own → (s.canObj k o).st ≠ 1 → good → Finishes 0x0C00 d .ok 0 s t
        ∧ t.canObj k o = { s.canObj k o with
            st := 1, cause := 0, attempts := 0, order := (s.can k).order + 1, armT := max s.now d.t
            eligible := decide (f.time ≤ max s.now d.t), abort := []
            frame := if bitAt f.flags 3 then { f with id := f.id / 256 * 256 + (s.can k).sa } else f }
        ∧ (∀ p, p ≠ o → t.canObj k p = s.canObj k p) ∧ (∀ j, j ≠ k → t.can j = s.can j)
        ∧ t.can k = { s.can k with order := (s.can k).order + 1, objs := (t.can k).objs }
        ∧ t = { s with now := max s.now d.t, cans := t.cans, hif := { s.hif with flights := t.hif.flights } })))
  ∧ (∀ (s : State) d, Accepts 0x0C01 d s → Completes (.canTxAbort d) s (fun t =>
      let k := d.target / 256
      let o := d.target % 256
      let x := s.canObj k o
      let armed := s.objOwner k o = 0 ∧ x.st = 1
      let ends := Finishes 0x0C01 d .ok 0 s t ∧ t.canObj k o = { x with st := 3, cause := 1, abort := [] }
      (¬ armed → Finishes 0x0C01 d .refused 0 s t
        ∧ t = { s with now := max s.now d.t, hif := { s.hif with flights := t.hif.flights } })
      ∧ (armed → x.abort = [] → (x.eligible = false ∧ max s.now d.t < x.frame.time) ∨ (s.can k).onBus = false → ends)
      ∧ (armed → x.abort = [] → x.eligible = true ∨ x.frame.time ≤ max s.now d.t → (s.can k).onBus = true →
          ends ∨ (t.canObj k o = { x with abort := [(d.sq, d.t)] } ∧ t.hif.flights = (s.received 0x0C01 d).hif.flights))
      ∧ (armed → (∀ p, p ≠ o → t.canObj k p = s.canObj k p) ∧ (∀ j, j ≠ k → t.can j = s.can j)
        ∧ t = { s with now := max s.now d.t, cans := t.cans, free := s.free + 1
                       hif := { s.hif with flights := t.hif.flights } })))
  ∧ (∀ (s : State) d, Accepts 0x0C02 d s → Completes (.canRxRelease d) s (fun t =>
      let k := d.target / 256
      let o := d.target % 256
      let good := fun q => s.queueOf k o = some q ∧ s.objOwner k o = 1 ∧ 0 < (s.canQ k q).owned
        ∧ s.qFirst k q + ((s.canQ k q).head + s.qN k q - (s.canQ k q).owned) % s.qN k q = o ∧ d.count ≤ (s.canQ k q).owned
      ((¬ ∃ q, good q) → Finishes 0x0C02 d .refused 0 s t
        ∧ t = { s with now := max s.now d.t, hif := { s.hif with flights := t.hif.flights } })
      ∧ (∀ q, good q → Finishes 0x0C02 d .ok 0 s t
        ∧ t.canQ k q = { s.canQ k q with owned := (s.canQ k q).owned - d.count }
        ∧ (∀ p, p ≠ q → t.canQ k p = s.canQ k p) ∧ (∀ j, j ≠ k → t.can j = s.can j)
        ∧ t = { s with now := max s.now d.t, cans := t.cans, hif := { s.hif with flights := t.hif.flights } })))
  ∧ (∀ (s : State) d, Accepts 0x0C03 d s → Completes (.canReinit d) s (fun t =>
      let k := d.target
      ((s.can k).st = .stopped → Finishes 0x0C03 d .refused 0 s t
        ∧ t = { s with now := max s.now d.t, hif := { s.hif with flights := t.hif.flights } })
      ∧ ((s.can k).st ≠ .stopped → Answered d .ok 0 s t ∧ (t.can k).tec = 0 ∧ (t.can k).rcnt = 0 ∧ (t.can k).ackRun = 0
        ∧ (t.can k).check = true ∧ (t.can k).st = .integrating ∧ (t.can k).qs = (s.can k).qs ∧ (t.can k).iso = []
        ∧ (∀ o ∈ s.armedObjs k, (s.canObj k o).st = 1 → (t.canObj k o).st = 3 ∧ (t.canObj k o).cause = 4
            ∧ Raised 195 [k, o, 4] s t)
        ∧ ((s.can k).st ≠ .integrating → Raised 192 [k, 1, 0, 0] s t) ∧ (∀ j, j ≠ k → t.can j = s.can j)
        ∧ t = { s with now := max s.now d.t, cans := t.cans, saf := { s.saf with conns := t.saf.conns }
                       sxe := t.sxe, hif := t.hif, evr := t.evr })))
  ∧ (∀ (s : State) t0 k f, s.supply.ok = true → s.up dCtrl = true → k < 6 → (s.can k).onBus = true → s.isobus k = false →
      s.canWired k = true → s.rxOk k f = true → Completes (.canFrameReceived t0 k f) s (fun t =>
        ((s.can k).rcnt ≤ 127 → (t.can k).rcnt = (s.can k).rcnt - 1 ∧ t.free = s.free)
        ∧ (127 < (s.can k).rcnt → 119 ≤ (t.can k).rcnt ∧ (t.can k).rcnt ≤ 127)
        ∧ (t.can k).objs = (s.can k).objs ∧ (∀ j, j ≠ k → t.can j = s.can j)
        ∧ (∀ c, s.bslOf k f = some c →
            (t.conn c).rx = (s.conn c).rx ++ [{ s.safeFrame f with fin := max s.now t0 }] ∧ (t.can k).qs = (s.can k).qs
            ∧ t.mbx = s.mbx)
        ∧ (s.bslOf k f = none → (∀ q < 8, s.qMatch k q f = false) → (t.can k).qs = (s.can k).qs ∧ t.saf = s.saf)
        ∧ (∀ q < 8, s.bslOf k f = none → s.qMatch k q f = true → (∀ p < q, s.qMatch k p f = false) →
            (∀ p, p ≠ q → t.canQ k p = s.canQ k p) ∧ t.saf = s.saf
            ∧ ((s.canQ k q).owned < s.qN k q → s.hif.canDrop = false →
                (t.canQ k q).head = ((s.canQ k q).head + 1) % s.qN k q ∧ (t.canQ k q).owned = (s.canQ k q).owned + 1
                ∧ (t.can k).sent = { queue := q, entry := (s.canQ k q).head, frame := f } :: (s.can k).sent)
            ∧ (s.qN k q ≤ (s.canQ k q).owned ∨ s.hif.canDrop = true →
                (t.canQ k q).drop = satInc 65535 (s.canQ k q).drop ∧ (t.canQ k q).head = (s.canQ k q).head
                ∧ (t.canQ k q).owned = (s.canQ k q).owned ∧ (t.can k).sent = (s.can k).sent
                ∧ ((s.canQ k q).ev194 ≠ s.periodMark → Raised 194 [k, q] s t)))
        ∧ t = { s with now := max s.now t0, cans := t.cans, saf := { s.saf with conns := t.saf.conns }, mbx := t.mbx
                       free := t.free, hif := t.hif, evr := t.evr }))
  ∧ (∀ (s : State) t0 k o sof, s.supply.ok = true → s.up dCtrl = true → k < 6 → (s.can k).onBus = true →
      s.fld (canBase k) 30 29 ≠ 1 → s.objOwner k o = 0 → (s.canObj k o).st = 1 → s.canWired k = true → sof ≤ max s.now t0 →
      s.offered k o sof = true → Completes (.canFrameSent t0 k o sof) s (fun t =>
        t.canObj k o = { s.canObj k o with st := 2, ts := sof, abort := [] } ∧ (∀ p, p ≠ o → t.canObj k p = s.canObj k p)
        ∧ (t.can k).ackRun = 0 ∧ (t.can k).noAck = false ∧ (t.can k).tec = (s.can k).tec - 1
        ∧ ((s.can k).tec ≤ 128 → (s.can k).rcnt < 128 → (t.can k).st = .active)
        ∧ (∀ sq tick, (s.canObj k o).abort = [(sq, tick)] →
            t.hif.flights = decideFirst sq tick { status := .refused, result := 0, done := max s.now t0 } s.hif.flights)
        ∧ ((s.canObj k o).abort = [] → t.hif.flights = s.hif.flights) ∧ (t.can k).qs = (s.can k).qs
        ∧ (∀ j, j ≠ k → t.can j = s.can j) ∧ t = { s with now := max s.now t0, cans := t.cans, hif := t.hif, evr := t.evr }))
  ∧ (∀ (s : State) t0 k o ackErr dom, s.supply.ok = true → s.up dCtrl = true → k < 6 → (s.can k).onBus = true →
      s.fld (canBase k) 30 29 ≠ 1 → s.objOwner k o = 0 → (s.canObj k o).st = 1 →
      (s.canObj k o).armT ≤ max s.now t0 → (s.canObj k o).frame.time ≤ max s.now t0 →
      Completes (.canTxFailed t0 k o ackErr dom) s (fun t =>
        let c := s.can k
        let x := s.canObj k o
        let n := satInc 65535 x.attempts
        let out := x.abort = [] ∧ 0 < s.retryMax k ∧ s.retryMax k ≤ n
        (c.st = .passive → ackErr = true → dom = false → (t.can k).tec = c.tec)
        ∧ (c.st ≠ .passive ∨ ackErr = false ∨ dom = true → (t.can k).tec = c.tec + 8
            ∧ (256 ≤ c.tec + 8 → (t.can k).st = .busOff ∧ (t.can k).check = true)
            ∧ (128 ≤ c.tec + 8 → c.tec + 8 < 256 → (t.can k).st = .passive))
        ∧ (t.can k).ackRun = (if ackErr then satInc 255 c.ackRun else c.ackRun)
        ∧ (ackErr = true → c.ackRun = 15 → (t.can k).noAck = true ∧ Raised 193 [k] s t)
        ∧ (t.can k).errCnt = satInc 65535 c.errCnt ∧ (t.canObj k o).attempts = n ∧ (t.can k).qs = c.qs
        ∧ (out → (t.canObj k o).st = 3 ∧ (t.canObj k o).cause = 2 ∧ Raised 195 [k, o, 2] s t)
        ∧ (x.abort ≠ [] → (t.canObj k o).st = 3 ∧ (t.canObj k o).cause = 1)
        ∧ (x.abort = [] → ¬ out → (t.canObj k o).st = 1 ∧ t.hif.flights = s.hif.flights)
        ∧ (∀ p, p ≠ o → t.canObj k p = s.canObj k p) ∧ (∀ j, j ≠ k → t.can j = s.can j)
        ∧ t = { s with now := max s.now t0, cans := t.cans, hif := t.hif, evr := t.evr }))
  ∧ (∀ (s : State) t0 k o, s.supply.ok = true → s.up dCtrl = true → k < 6 → (s.canObj k o).st = 1 →
      (s.canObj k o).frame.time ≤ max s.now t0 → Completes (.canTxEligible t0 k o) s (fun t =>
        t.canObj k o = { s.canObj k o with eligible := true } ∧ (∀ p, p ≠ o → t.canObj k p = s.canObj k p)
        ∧ (∀ j, j ≠ k → t.can j = s.can j) ∧ t = { s with now := max s.now t0, cans := t.cans }))
  ∧ (∀ (s : State) t0 k, s.supply.ok = true → s.up dCtrl = true → k < 6 → (s.can k).st = .busOff → s.boffAuto k = true →
      (s.can k).check = false → Completes (.canBusOffRecovery t0 k) s (fun t =>
        t.can k = { s.can k with st := .active, tec := 0, rcnt := 0 } ∧ Raises [(192, [k, 2, 0, 0])] s t
        ∧ (∀ j, j ≠ k → t.can j = s.can j) ∧ t = { s with now := max s.now t0, cans := t.cans, hif := t.hif, evr := t.evr }))
  ∧ (∀ (s : State) t0 k, s.supply.ok = true → s.up dCtrl = true → k < 6 → (s.can k).st = .integrating →
      (s.can k).check = false → Completes (.canIntegrated t0 k) s (fun t =>
        (t.can k).st = .active ∧ Raised 192 [k, 2, min 255 (s.can k).tec, min 255 (s.can k).rcnt] s t
        ∧ (s.isobus k = false → t.can k = { s.can k with st := .active }) ∧ (t.can k).objs = (s.can k).objs
        ∧ (∀ j, j ≠ k → t.can j = s.can j) ∧ t = { s with now := max s.now t0, cans := t.cans, hif := t.hif, evr := t.evr }))
  ∧ (∀ (s : State) t0 k ok, s.supply.ok = true → s.up dCtrl = true → k < 6 → (s.can k).check = true →
      Completes (.canSelfCheckDone t0 k ok) s (fun t =>
        (ok = true → t = { s with now := max s.now t0, cans := t.cans } ∧ t.can k = { s.can k with check := false })
        ∧ (ok = false → t.can k = { s.can k with check := false, st := .failed } ∧ Raised 196 [k] s t
            ∧ (∃ x ∈ t.rpl, x.1 = 4) ∧ ((∀ x ∈ s.rpl, x.1 ≠ 4) → (4, k) ∈ t.rpl ∧ Raised 250 [4, k] s t)
            ∧ t = { s with now := max s.now t0, cans := t.cans, rpl := t.rpl, rplLast := t.rplLast, hif := t.hif, evr := t.evr })
        ∧ (∀ j, j ≠ k → t.can j = s.can j)))
  ∧ (∀ (s : State) t0 k inc, s.supply.ok = true → s.up dCtrl = true → k < 6 → (s.can k).onBus = true → inc = 1 ∨ inc = 8 →
      (s.can k).tec < 256 → Completes (.canRxError t0 k inc) s (fun t =>
        t.can k = { s.can k with
          rcnt := min 255 ((s.can k).rcnt + inc), errCnt := satInc 65535 (s.can k).errCnt
          st := if 128 ≤ (s.can k).tec ∨ 128 ≤ min 255 ((s.can k).rcnt + inc) then .passive else .active }
        ∧ (∀ j, j ≠ k → t.can j = s.can j) ∧ t = { s with now := max s.now t0, cans := t.cans, hif := t.hif, evr := t.evr }))
  ∧ (∀ (s : State) t0, s.supply.ok = true → s.lock.done = true → s.up dApp = true → s.up dCtrl = true →
      s.gaf.partUp.contains 5 = true → s.rpl ≠ [] → s.rb 0x6820 31 = true → s.secu.rplNext ≤ max s.now t0 →
      (let k := s.fld 0x6820 30 28; k < 6 ∧ s.isobus k = true ∧ (s.can k).onBus = true ∧ (s.can k).sa ≤ 253) →
      Completes (.rplStatusFrame t0) s (fun t =>
        let k := s.fld 0x6820 30 28
        t.secu = { s.secu with rplNext := max s.now t0 + ticksPerS }
        ∧ (∃ f, t.can k = { s.can k with iso := (s.can k).iso ++ [f] } ∧ f.fmt = 0 ∧ f.id % 256 = (s.can k).sa
            ∧ bits f.id 25 8 = s.fld 0x6820 25 8 ∧ bitAt f.id 31 = true
            ∧ f.data = [s.rplMask, s.secu.lc] ++ leBytes 2 s.rplLast ++ leBytes 4 (max s.now t0 / ticksPerMs))
        ∧ (∀ j, j ≠ k → t.can j = s.can j)
        ∧ t = { s with now := max s.now t0, cans := t.cans, secu := t.secu, free := s.free + 1 }))

/-! ### Memories, security and lifecycle (chapter 22) -/

/-- R530 to R532, R534 to R538, R546 to R550, Table 22.2.  A codeword with up to two symbols in error is corrected and counts, with
EV239 at most once a second; with more it is poisoned, counts once, with EV240, and stays so until it is written whole.  The
eighth correction and the second uncorrectable error of a region within 24 h start its copy to a spare, or, with no spare, raise
EV241 and in memories 2 and 3 set SAFE_FAULT; that EV241 comes once, when the region meets R535, is the model's reading
(notes/assumptions/43.md), and so is the number of the reaction in EV240 (notes/assumptions/14.md).  A copy that is complete
retires the region, with REPLACE_ADVISED past half the spares.  LIFECYCLE_SET is REFUSED unless everything of R547 holds, and, the
model's choice (notes/assumptions/44.md), while an accepted change waits for its commit; otherwise it completes with OK and
EV244.  The commit writes the new state with R548's effects and is a full system reset.  A debug opening in FIELD or RETURNED
holds every STO group.  A write of prog = 1 programs the selected owner slot's digest before lock, EV251 after it; a slot that is no
owner's does nothing (the model's choice, notes/assumptions/44.md).  An owner key is programmed once, in OWNER_PROVISION: OK, USED
or STATE. -/
def Obligations.MemoriesAndKeys : Prop :=
  (∀ (s : State) t0 m cw syms obj, s.supply.ok = true → m < 7 → s.up (memRow m).2.2 = true → cw < (memRow m).1 * 128 →
      Completes (.memScrub t0 m cw syms obj) s (fun t =>
        let x := s.eccMem m
        let y := t.eccMem m
        let r := cw / 128
        let n := max s.now t0
        let bad := x.poison.contains cw
        let hits := fun (l : List (Nat × Nat)) => 1 + (l.filter (fun e => e.1 == r && n < e.2 + ticksPerDay)).length
        let oldHits := fun (l : List (Nat × Nat)) => (l.filter (fun e => e.1 == r && n < e.2 + ticksPerDay)).length
        let free := x.retired.contains r = false ∧ x.copying.contains r = false
        let retires := (0 < s.sparesLeft m → y.copying.contains r = true)
          ∧ (s.sparesLeft m = 0 → y.copying = x.copying
              ∧ (oldHits x.corrs < 8 → oldHits x.uncs < 2 →
                  Raised 241 [m, r, 0] s t ∧ (m = 2 ∨ m = 3 → t.saf.sfp.fault = true)))
        (∀ j, j ≠ m → t.eccMem j = s.eccMem j) ∧ y.retired = x.retired
        ∧ (bad = false → syms = 0 → t.mem = s.mem)
        ∧ (bad = true → syms ≠ 0 → t.mem = s.mem)
        ∧ (bad = true → syms = 0 → y = { x with poison := x.poison.filter (fun w => w != cw) })
        ∧ (bad = false → 1 ≤ syms → syms ≤ 2 →
            y.poison = x.poison ∧ y.corrCnt = satInc 255 x.corrCnt ∧ y.corrs = (r, n) :: x.corrs ∧ y.uncCnt = x.uncCnt
            ∧ t.mem.last = some (m, false, cw, n) ∧ (x.ev239 = 0 ∨ x.ev239 - 1 + ticksPerS ≤ n → Raised 239 [m, cw * 32] s t ∧ y.ev239 = n + 1)
            ∧ (x.ev239 ≠ 0 → n < x.ev239 - 1 + ticksPerS → y.ev239 = x.ev239
                ∧ (m ≠ 2 → m ≠ 3 → ∀ e ∈ t.evr.log, e ∈ s.evr.log ∨ e.1 ≠ 239))
            ∧ (free → 8 ≤ hits x.corrs ∨ 2 ≤ oldHits x.uncs → retires)
            ∧ (¬ free ∨ (hits x.corrs < 8 ∧ oldHits x.uncs < 2) → y.copying = x.copying))
        ∧ (bad = false → 2 < syms →
            y.poison.contains cw = true ∧ y.uncCnt = satInc 255 x.uncCnt ∧ y.uncs = (r, n) :: x.uncs ∧ y.corrCnt = x.corrCnt
            ∧ t.mem.last = some (m, true, cw, n)
            ∧ Raised 240 [m, cw * 32, if obj = 0 ∧ m ≠ 2 ∧ m ≠ 3 then 0 else m + 1] s t
            ∧ (m = 2 ∨ m = 3 → t.saf.sfp.fault = true ∧ SafeFollows t)
            ∧ (free → 8 ≤ oldHits x.corrs ∨ 2 ≤ hits x.uncs → retires)
            ∧ (¬ free ∨ (oldHits x.corrs < 8 ∧ hits x.uncs < 2) → y.copying = x.copying))
        ∧ (obj = 0 → ChanFrame { s with mem := t.mem } t) ∧ t.now = n))
  ∧ (∀ (s : State) t0 m r, s.supply.ok = true → s.up (memRow m).2.2 = true → (s.eccMem m).copying.contains r = true →
      Completes (.memRetired t0 m r) s (fun t =>
        let x := s.eccMem m
        t.eccMem m = { x with copying := x.copying.filter (fun w => w != r), retired := insN x.retired r }
        ∧ (∀ j, j ≠ m → t.eccMem j = s.eccMem j) ∧ Raised 241 [m, r, t.sparesLeft m] s t
        ∧ ((memRow m).2.1 < 2 * (t.eccMem m).retired.length → ∃ e ∈ t.rpl, e.1 = 0)
        ∧ (2 * (t.eccMem m).retired.length ≤ (memRow m).2.1 → t.rpl = s.rpl)
        ∧ t = { s with now := max s.now t0, mem := { s.mem with mems := t.mem.mems }, rpl := t.rpl, rplLast := t.rplLast
                       hif := t.hif, evr := t.evr }))
  ∧ (∀ (s : State) d, Accepts 0x0D00 d s → Completes (.lifecycleSet d) s (fun t =>
      let good := s.authState d.data = some (d.par 0) ∧ s.lcStep (d.par 0) = true ∧ (∀ g < 16, (s.grp g).st = .disabled)
        ∧ s.ppm.path = .opn ∧ s.secu.lcNext = none
      (¬ good → Finishes 0x0D00 d .refused 0 s t
        ∧ t = { s with now := max s.now d.t, hif := { s.hif with flights := t.hif.flights } })
      ∧ (good → Finishes 0x0D00 d .ok 0 s t ∧ Raises [(244, [s.secu.lc, d.par 0])] s t
        ∧ t = { s with now := max s.now d.t, secu := { s.secu with lcNext := some (d.par 0, max s.now d.t) }
                       hif := t.hif, evr := t.evr })))
  ∧ (∀ (s : State) t0 bad new tick, s.supply.ok = true → s.secu.lcNext = some (new, tick) →
      Completes (.lifecycleCommit t0 bad) s (fun t =>
        t.secu.lc = new ∧ t.secu.lcNext = none ∧ t.secu.keys = s.secu.keys
        ∧ t.secu.refurb = (if s.secu.lc = 4 ∧ new = 2 then s.secu.refurb + 1 else s.secu.refurb)
        ∧ (new = 4 ∨ new = 5 → (∀ k, 4 ≤ k → k < 8 → t.keyValid k = false) ∧ t.saf.banks = [] ∧ t.saf.cfg = none)
        ∧ (new = 4 → ∀ e ∈ t.rpl, e.1 = 0) ∧ (new = 5 → t.secu.attest = false ∧ ∀ k < 8, t.keyValid k = false)
        ∧ t.gaf.cause = 2 ∧ t.gaf.domains = 0xFE ∧ t.regs = [] ∧ t.lock = {} ∧ (∀ k, t.driven k = false)
        ∧ (∀ k < 6, t.inSto k = true) ∧ t.now = max s.now t0 ∧ t.pending = s.pending))
  ∧ (∀ (s : State) t0 bad, s.supply.ok = true → s.secu.lcNext = none →
      Completes (.lifecycleCommit t0 bad) s (fun t => t = { s with now := max s.now t0 }))
  ∧ (∀ (s : State) t0 auth, s.supply.ok = true → s.up dCtrl = true → Completes (.debugAccess t0 auth) s (fun t =>
      (s.authState auth = some s.secu.lc →
        t.secu = { s.secu with dbg := true } ∧ Raised 245 [s.secu.lc] s t
        ∧ (s.secu.lc = 3 ∨ s.secu.lc = 4 → t.saf.dbg = true ∧ (∀ k < 6, t.inSto k = true) ∧ SafeFollows t)
        ∧ (s.secu.lc ≠ 3 → s.secu.lc ≠ 4 → t.saf = s.saf ∧ t.trm = s.trm)
        ∧ t.now = max s.now t0 ∧ ChanFrame { s with secu := t.secu } t)
      ∧ (s.authState auth ≠ some s.secu.lc → t = { s with now := max s.now t0 })))
  ∧ (∀ (s : State) t0, s.supply.ok = true → Completes (.ownerKeyProgram t0) s (fun t =>
      let slot := s.fld 0x6830 2 0
      (s.up dCtrl = true → s.lock.locked = true → Raises [(251, [0x6834])] s t ∧ t.secu = s.secu
        ∧ t = { s with now := max s.now t0, hif := t.hif, evr := t.evr })
      ∧ (s.up dCtrl = true → s.lock.locked = false → s.secu.keyBusy = none → 4 ≤ slot →
          t = { s with now := max s.now t0, secu := { s.secu with keyBusy := some (slot, s.keyDigest), keyResult := 0 } })
      ∧ (s.up dCtrl = false ∨ (s.lock.locked = false ∧ (s.secu.keyBusy ≠ none ∨ slot < 4)) → t = { s with now := max s.now t0 })))
  ∧ (∀ (s : State) t0 slot dig, s.supply.ok = true → s.up dCtrl = true → s.secu.keyBusy = some (slot, dig) →
      Completes (.ownerKeyProgramDone t0) s (fun t =>
        let used := ∃ e ∈ s.secu.keys, e.1 = slot
        (s.secu.lc ≠ 2 → t.secu = { s.secu with keyBusy := none, keyResult := 3 })
        ∧ (s.secu.lc = 2 → used → t.secu = { s.secu with keyBusy := none, keyResult := 2 })
        ∧ (s.secu.lc = 2 → ¬ used → getD t.secu.keys slot [] = dig ∧ (∀ k, k ≠ slot → getD t.secu.keys k [] = getD s.secu.keys k [])
            ∧ t.secu = { s.secu with keyBusy := none, keyResult := 1, keys := t.secu.keys })
        ∧ t = { s with now := max s.now t0, secu := t.secu }))

/-! ### Power domains, resets, the service button and storage mode (chapters 14 and 23) -/

/-- R428, R542, R557 to R559, R561 to R564, R566, Tables 23.2, 23.3.  Power-on sets device time to 0, clears registers and lock, opens the
contactors and holds every group in STO; what OTP and NOR hold stays.  A domain runs only once every lower one that comes up
runs, with EV247.  BOOT_DONE waits for every domain and reports what the boot ROM found.  DOMAIN_RESET is REFUSED or BUSY as
Table 23.3 says, and otherwise raises EV247 and waits for the boundary, where its domain alone is reset; a safety reset leaves
SAFE_FAULT, closes every connection and activates a loaded configuration.  A missed watchdog resets PD_APP.  A core-mode
change is BUSY during another, REFUSED when a slower mode does not fit, and ends with EV248. -/
def Obligations.DomainsAndResets : Prop :=
  (∀ (s : State) t0 bad, Completes (.powerOn t0 bad) s (fun t =>
      t.now = 0 ∧ t.supply.ok = true ∧ t.regs = [] ∧ t.lock = {} ∧ t.gaf.cause = 0 ∧ t.gaf.rstCnt = 0
      ∧ (∀ d, 1 ≤ d → d ≤ 7 → t.domSt d = .inReset ∨ (d = dApp ∧ t.domSt d = .off)) ∧ (∀ k, t.driven k = false)
      ∧ (∀ k < 6, t.inSto k = true) ∧ (∀ g, (t.grp g).st = .disabled) ∧ t.hif.flights = [] ∧ t.pending = s.pending
      ∧ t.secu.lc = s.secu.lc ∧ t.secu.serial = s.secu.serial ∧ t.secu.keys = s.secu.keys ∧ t.secu.revoked = s.secu.revoked
      ∧ t.secu.dbg = false ∧ (∀ e ∈ s.rpl, e ∈ t.rpl) ∧ t.saf.banks = s.saf.banks
      ∧ (∀ k, getD s.secu.rb k 0 ≤ getD t.secu.rb k 0) ∧ ∀ m, (t.eccMem m).retired = (s.eccMem m).retired))
  ∧ (∀ (s : State) t0 d, s.supply.ok = true → 1 ≤ d → d ≤ 7 → s.domSt d = .inReset → (∀ e < d, s.domSt e ≠ .inReset) →
      Completes (.domainRunning t0 d) s (fun t =>
        t.domSt d = .running ∧ (∀ e, e ≠ d → t.domSt e = s.domSt e) ∧ Raised 247 [d, 2, s.gaf.cause] s t
        ∧ (∀ sq tick, d = dApp ∨ d = dImpl → s.gaf.resets = [(d, sq, tick)] → t.gaf.resets = []
            ∧ t.hif.flights = decideFirst sq tick { status := .ok, result := 0, done := max s.now t0 } s.hif.flights)
        ∧ t.trm = s.trm ∧ t.gdv = s.gdv ∧ t.lock = s.lock ∧ (d ≠ dImpl → t.regs = s.regs) ∧ t.now = max s.now t0))
  ∧ (∀ (s : State) t0, s.supply.ok = true → s.gaf.bootDone = false → s.secu.dead.contains 0 = false →
      (∀ d < 8, s.domSt d = .running ∨ (d = dApp ∧ s.domSt d = .off)) → Completes (.bootDone t0) s (fun t =>
        Raises s.secu.kept s t
        ∧ t = { s with now := max s.now t0, gaf := { s.gaf with bootDone := true }, secu := { s.secu with kept := [] }
                       hif := t.hif, evr := t.evr }))
  ∧ (∀ (s : State) d, Accepts 0x0E00 d s → d.target < 8 → Completes (.domainReset d) s (fun t =>
      let x := d.target
      let n := max s.now d.t
      let off := ∀ g < 16, (s.grp g).st = .disabled
      let no := x = 3 ∨ (x = 0 ∧ ¬ (off ∧ s.ppm.path = .opn)) ∨ ((x = 1 ∨ x = 2) ∧ ¬ off)
        ∨ (s.domSt x = .off ∧ (x ≠ dApp ∨ s.secu.dead.contains 0 = true))
      let busy := (x = dImpl ∧ s.implHeld = true) ∨ (x = dConv ∧ s.convHeld = true)
      (no → Finishes 0x0E00 d .refused 0 s t
        ∧ t = { s with now := n, hif := { s.hif with flights := t.hif.flights } })
      ∧ (¬ no → busy → Finishes 0x0E00 d .busy 0 s t
        ∧ t = { s with now := n, hif := { s.hif with flights := t.hif.flights } })
      ∧ (¬ no → ¬ busy → s.domSt x ≠ .off → s.tbu.running = true →
          t.hif.pend = s.hif.pend ++ [{ sq := d.sq, op := 0x0E00, tick := d.t, act := .domReset x }]
          ∧ ((∀ c, (s.mbxCh c).slot ≠ .pending) → t.hif.flights = (s.received 0x0E00 d).hif.flights)
          ∧ Raised 247 [x, 1, if x = 0 then 3 else if x ≤ 2 then 5 else 6] s t
          ∧ t = { s with now := n, mbx := t.mbx, hif := t.hif, evr := t.evr })
      ∧ (¬ no → ¬ busy → s.domSt x = .off → t.domSt dApp = .inReset ∧ t.gaf.resets = s.gaf.resets ++ [(x, d.sq, d.t)]
          ∧ t.gaf.cause = 6 ∧ t.gaf.domains = 0x10 ∧ Raised 247 [dApp, 1, 6] s t ∧ ∀ e, e ≠ dApp → t.domSt e = s.domSt e)))
  ∧ (∀ (s : State) x sq tick, x = dApp ∨ x = dImpl ∨ x = dConv → let t := s.domResetBoundary x sq tick
      t.domSt x = .inReset ∧ (∀ e, e ≠ x → t.domSt e = s.domSt e) ∧ (x, sq, tick) ∈ t.gaf.resets
      ∧ t.gaf.cause = 6 ∧ t.gaf.domains = 2 ^ x ∧ t.saf = s.saf ∧ t.regs = s.regs
      ∧ ((∀ y ∈ s.hif.takes, y.2.busy = false) → t.trm = s.trm ∧ ∀ n < 12, t.leg n = s.leg n))
  ∧ (∀ (s : State) x sq tick, x = dShl ∨ x = dSfp → let t := s.domResetBoundary x sq tick
      t.domSt dShl = .inReset ∧ t.domSt dSfp = .inReset ∧ t.saf.shl.fault = false ∧ t.saf.sfp.fault = false
      ∧ (∀ k < 6, t.inSto k = true) ∧ (∀ c < 32, (t.conn c).st = .closed) ∧ (∀ k < 6, bitAt t.saf.opened k = true)
      ∧ t.saf.cur = (if s.saf.loaded then 1 - s.saf.cur else s.saf.cur) ∧ t.saf.loaded = false ∧ t.saf.banks = s.saf.banks
      ∧ t.gaf.cause = 5 ∧ t.gaf.domains = 6 ∧ t.lock = s.lock)
  ∧ (∀ (s : State) t0 core b, s.supply.ok = true → s.up dApp = true → (core, b) ∈ s.gaf.kick →
      b + s.fld 0x0400 15 0 * ticksPerMs ≤ max s.now t0 → Completes (.appWatchdog t0 core) s (fun t =>
        t.domSt dApp = .inReset ∧ (∀ e, e ≠ dApp → t.domSt e = s.domSt e) ∧ t.gaf.cause = 9 ∧ t.gaf.domains = 0x10
        ∧ t.gaf.partUp = [] ∧ t.gaf.kick = [] ∧ Raised 247 [dApp, 1, 9] s t ∧ t.saf = s.saf
        ∧ ((∀ y ∈ s.hif.takes, y.2.busy = false) → t.trm = s.trm ∧ ∀ n < 24, t.leg n = s.leg n) ∧ t.now = max s.now t0))
  ∧ (∀ (s : State) t0 core, s.supply.ok = true → s.up dApp = true → core < 4 → Completes (.appWatchdogKick t0 core) s (fun t =>
        t = { s with now := max s.now t0, gaf := { s.gaf with kick := put s.gaf.kick core (max s.now t0) } }))
  ∧ (∀ (s : State) t0 p, s.supply.ok = true → s.up dApp = true → p < 6 → s.secu.dead.contains (p + 1) = false →
      s.gaf.partUp.contains p = false → Completes (.partitionStart t0 p) s (fun t =>
        t.gaf.partUp.contains p = true ∧ (∀ q, q ≠ p → t.gaf.partUp.contains q = s.gaf.partUp.contains q)
        ∧ t.gaf.restarting.contains p = false ∧ (s.gaf.kick ≠ [] → t.gaf.kick = s.gaf.kick)
        ∧ (s.gaf.kick = [] → ∀ c < 4, getD t.gaf.kick c 0 = max s.now t0) ∧ t.trm = s.trm
        ∧ (p ≠ 5 → s.hif.takes = [] → t = { s with now := max s.now t0, gaf := t.gaf })))
  ∧ (∀ (s : State) d, Accepts 0x0E01 d s → Completes (.coreMode d) s (fun t =>
      let m := coreOf (d.par 0)
      let fits := m.code ≤ s.gaf.coreNow.code ∨ ((s.lanesAdmit m).2 = true ∧ s.sxeFits m = true)
      (s.gaf.changing ≠ none → Finishes 0x0E01 d .busy 0 s t ∧ t.gaf = s.gaf)
      ∧ (s.gaf.changing = none → fits → t = { s with
          now := max s.now d.t, gaf := { s.gaf with changing := some (m, d.sq, d.t) }
          hif := { s.hif with flights := (s.received 0x0E01 d).hif.flights } })
      ∧ (s.gaf.changing = none → ¬ fits → Finishes 0x0E01 d .refused 0 s t ∧ t.gaf = s.gaf)
      ∧ t = { s with now := max s.now d.t, gaf := t.gaf, hif := t.hif, evr := t.evr }))
  ∧ (∀ (s : State) t0 m sq tick, s.supply.ok = true → s.gaf.changing = some (m, sq, tick) →
      Completes (.coreModeChangeDone t0) s (fun t =>
        t.gaf = { s.gaf with coreNow := m, changing := none } ∧ Raises [(248, [s.gaf.coreNow.code, m.code])] s t
        ∧ t.hif.flights = decideFirst sq tick { status := .ok, result := 0, done := max s.now t0 } s.hif.flights
        ∧ t = { s with now := max s.now t0, gaf := t.gaf, hif := t.hif, evr := t.evr }))

/-- R343, R366 to R369, R524, R560, R567, R589, Table 14.6.  SUPPLY_LOW raises EV254 once until the supply has recovered; below 9.0 V
every contactor output is open.  A held VIO bank A takes the link down.  A press of less than 1 s does nothing; a medium press
enters storage mode only at standstill, unplugged and without a session; a long press at less than 2 km/h opens every contactor
and leads to the full reset 2 s later.  Storage mode leaves PD_AON alone powered, and each wake starts the machine with its
cause, which EV186 reports once PD_HOST runs, and for a CAN wake EV197 with the controller. -/
def Obligations.SupplyButtonAndStorage : Prop :=
  (∀ (s : State) t0 v, s.supply.ok = true → Completes (.supplyLow t0 v) s (fun t =>
      (s.supply.lowArmed = true → Raises [(254, [v])] s t ∧ t.supply = { s.supply with lowArmed := false }
        ∧ t = { s with now := max s.now t0, supply := t.supply, hif := t.hif, evr := t.evr })
      ∧ (s.supply.lowArmed = false → t = { s with now := max s.now t0 })))
  ∧ (∀ (s : State) t0, s.supply.ok = true → Completes (.supplyRecovered t0) s (fun t =>
      t = { s with now := max s.now t0, supply := { s.supply with lowArmed := true } }))
  ∧ (∀ (s : State) t0, s.supply.ok = true → Completes (.supplyBelow9v t0) s (fun t => (∀ k, t.driven k = false)
      ∧ t = { s with now := max s.now t0, supply := { s.supply with ok := false }, aon := { s.aon with drive := [] } }))
  ∧ (∀ (s : State) t0 x, s.supply.ok = true → x < 4 → Completes (.vioBankHeld t0 x) s (fun t =>
      t.gaf.vioHeld.contains x = true
      ∧ (x ≠ 0 ∨ s.up dHost = false ∨ s.hif.link = false →
          t = { s with now := max s.now t0, gaf := { s.gaf with vioHeld := insN s.gaf.vioHeld x } })
      ∧ (x = 0 → s.up dHost = true → s.hif.link = true → (∀ y ∈ s.gaf.resets, y.1 ≠ 0) → s.gaf.sendOff = none →
          t.hif.link = false ∧ t.domSt dHost = .inReset ∧ t.gaf.cause = 8)))
  ∧ (∀ (s : State) t0 x, s.supply.ok = true → Completes (.vioBankReleased t0 x) s (fun t =>
      t = { s with now := max s.now t0, gaf := { s.gaf with vioHeld := s.gaf.vioHeld.filter (fun y => y != x) } }))
  ∧ (∀ (s : State) t0 b, s.supply.ok = true → s.aon.press = none → b + 20 * ticksPerMs ≤ max s.now t0 →
      Completes (.svcPressStart t0 b) s (fun t =>
        t = { s with now := max s.now t0, aon := { s.aon with press := some b, long := false } }))
  ∧ (∀ (s : State) t0 b, s.supply.ok = true → s.aon.press = some b → s.aon.long = false → b + 8 * ticksPerS ≤ max s.now t0 →
      s.gaf.storage = false → Completes (.svcLongPress t0) s (fun t =>
        t.aon.long = true ∧ t.now = max s.now t0
        ∧ ((s.advance t0).groundSpeed = none → Raises [(184, [1, 0])] s t
            ∧ t = { s with now := t.now, aon := { s.aon with long := true }, hif := t.hif, evr := t.evr })
        ∧ (∀ v, (s.advance t0).groundSpeed = some v → 131072 ≤ v → Raises [(184, [0, v / 65536])] s t
            ∧ t = { s with now := t.now, aon := { s.aon with long := true }, hif := t.hif, evr := t.evr })
        ∧ (∀ v, (s.advance t0).groundSpeed = some v → v < 131072 →
            Raised 183 [1] s t ∧ (∀ k, t.driven k = false) ∧ t.aon.resetAt = some (t.now + 2 * ticksPerS)
            ∧ t.ppm.path = .shutdown ∧ t.ppm.cmds = [] ∧ (∀ r < 2, (s.rail r).st ≠ .off → (t.rail r).stop = true)
            ∧ t.trm = s.trm ∧ t.saf = s.saf ∧ ∀ n < 12, t.leg n = s.leg n ∨ (t.leg n).enabled = false)))
  ∧ (∀ (s : State) t0, s.supply.ok = true → s.gaf.storage = true → (∃ b, s.aon.press = some b ∧ b + 8 * ticksPerS ≤ max s.now t0) →
      s.aon.long = false → Completes (.svcLongPress t0) s (fun t =>
        t = { s with now := max s.now t0, aon := { s.aon with long := true } }))
  ∧ (∀ (s : State) t0 b, s.supply.ok = true → s.aon.press = some b → Completes (.svcRelease t0) s (fun t =>
      let n := max s.now t0
      let medium := s.aon.long = false ∧ b + ticksPerS ≤ n ∧ n < b + 8 * ticksPerS ∧ s.gaf.storage = false
      let v := (s.advance t0).groundSpeed
      let calm := (∃ x, v = some x ∧ 5 * x < 65536) ∧ s.aon.pxAc = false ∧ s.aon.pxDc = false ∧ s.ppm.ses.active = false
      t.aon.press = none ∧ t.now = n
      ∧ (s.aon.long = true ∨ n < b + ticksPerS → t = { s with now := n, aon := { s.aon with press := none, long := false } })
      ∧ (medium → calm → Raised 183 [0] s t ∧ Raised 185 [] s t ∧ t.aon.storeAt = some (n + ticksPerS)
          ∧ t.ppm.path = .shutdown ∧ (∀ k, t.driven k = false) ∧ t.trm = s.trm ∧ t.saf = s.saf)
      ∧ (medium → ¬ calm → (v = none → Raises [(183, [0]), (184, [1, 0])] s t)
          ∧ (∀ x, v = some x → 65536 ≤ 5 * x → Raises [(183, [0]), (184, [0, x / 65536])] s t)
          ∧ t = { s with now := n, aon := { s.aon with press := none, long := false }, hif := t.hif, evr := t.evr })))
  ∧ (∀ (s : State) t0 bad x, s.supply.ok = true → s.aon.resetAt = some x → x ≤ max s.now t0 →
      Completes (.svcFullReset t0 bad) s (fun t => t.gaf.cause = 1 ∧ t.gaf.domains = 0xFE ∧ t.regs = [] ∧ t.lock = {}
        ∧ t.now = max s.now t0 ∧ (∀ k, t.driven k = false) ∧ (∀ k < 6, t.inSto k = true) ∧ t.aon.resetAt = none
        ∧ t.secu.keys = s.secu.keys ∧ t.secu.lc = s.secu.lc ∧ t.pending = s.pending))
  ∧ (∀ (s : State) t0 x, s.supply.ok = true → s.aon.storeAt = some x → x ≤ max s.now t0 →
      Completes (.storageEnter t0) s (fun t => t.gaf.storage = true ∧ (∀ d, 1 ≤ d → t.domSt d = .off) ∧ t.domSt 0 = .running
        ∧ (∀ k, t.driven k = false) ∧ t.lock = {} ∧ t.regs = [] ∧ t.now = max s.now t0 ∧ t.secu.lc = s.secu.lc))
  ∧ (∀ (s : State) t0 c bad, s.supply.ok = true → s.gaf.storage = true → s.wakes c = true →
      Completes (.storageWake t0 c bad) s (fun t => t.gaf.storage = false ∧ t.gaf.cause = 4 ∧ t.gaf.wake = c.code
        ∧ t.aon.woken = some c ∧ t.lock = {} ∧ (∀ k, t.driven k = false) ∧ (∀ k < 6, t.inSto k = true)
        ∧ (∀ d, 1 ≤ d → d ≤ 7 → t.domSt d = .inReset ∨ (d = dApp ∧ t.domSt d = .off)) ∧ t.now = max s.now t0))
  ∧ (∀ (s : State) t0 w, s.supply.ok = true → s.domSt dHost = .inReset → (∀ e < dHost, s.domSt e ≠ .inReset) →
      s.aon.woken = some w → Completes (.domainRunning t0 dHost) s (fun t =>
        t.up dHost = true ∧ t.aon = { s.aon with woken := none } ∧ t.now = max s.now t0 ∧ t.trm = s.trm ∧ t.lock = s.lock
        ∧ (186, t.now, [w.code]) ∈ t.evr.log ∧ (∀ k, w = .can k → (197, t.now, [k]) ∈ t.evr.log)))

/-! ### Set-up: BAR0 and the configuration lock (chapter 25), the clapper (chapter 02) -/

/-- R6, R57, R141, R146, R155, R574 to R576, R578 to R580, R582, Tables 0.4, 2.1, 4.13, 6.5, 6.6, 21.5, 23.5, 25.4.  A misaligned write, one to a block
whose domain is down and one to an offset without a register change nothing.  Else the enabled bytes alone change the fields that can
be written; a write that covers RWL or WO fields after lock has no effect but EV251 with its offset; selects stay writable.
A read answers with the value and clears the RC fields.  CONFIG_LOCK is BAD_KEY, NOT_READY or accepted at its tick.
LOCK_COMPLETE ends the lock with the fail mask and EV252, and starts the clapper where it may start. -/
def Obligations.SetupRegisters : Prop :=
  (∀ (s : State) t0 off val be, s.supply.ok = true → (off % 4 ≠ 0 ∨ s.shows off = false
        ∨ ((be % 16 = 0 ∨ (regRow? (s.key off) = none ∧ off ≠ 0x20 ∧ off ≠ 0x808 ∧ (off < 0x3784 ∨ 0x3800 ≤ off)))
            ∧ (off < 0x7800 ∨ 0x7810 < off))) →
      Completes (.registerWrite t0 off val be) s (fun t => t = { s with now := max s.now t0 }))
  ∧ (∀ (s : State) t0 off val be r, s.supply.ok = true → off % 4 = 0 → s.shows off = true → regRow? (s.key off) = some r →
      off ≠ 0x20 → off ≠ 0x808 → (off < 0x3784 ∨ 0x3800 ≤ off ∨ off % 8 = 0) →
      beMask be &&& r.rw = 0 → beMask be &&& r.w1c = 0 → beMask be &&& (r.rwl ||| r.wo) ≠ 0 → s.lock.locked = true →
      (off < 0x7800 ∨ 0x7810 < off) → Completes (.registerWrite t0 off val be) s (fun t =>
        Raises [(251, [off])] s t ∧ t = { s with now := max s.now t0, hif := t.hif, evr := t.evr }))
  ∧ (∀ (s : State) t0 off val be r, s.supply.ok = true → off % 4 = 0 → s.shows off = true → regRow? (s.key off) = some r →
      off ≠ 0x20 → off ≠ 0x808 → off ≠ 0x385C → off ≠ 0x6834 → (off < 0x3784 ∨ 0x3800 ≤ off ∨ off % 8 = 0) →
      (off < 0x7800 ∨ 0x7810 < off) → (off = 0x80C ∨ off = 0x810 ∨ off = 0x814 → s.tbu.running = false) →
      beMask be &&& r.rw = 0 → beMask be &&& r.w1c = 0 → beMask be &&& (r.rwl ||| r.wo) ≠ 0 → s.lock.locked = false →
      Completes (.registerWrite t0 off val be) s (fun t =>
        let k := s.key off
        let inWin := (0x10000 ≤ k ∧ k < 0x11000) ∨ 0x20000 ≤ k
        (inWin → t.lw k = mergeBits (beMask be &&& r.rwl) (s.lw k) val ∧ (∀ j, j ≠ k → t.lw j = s.lw j)
          ∧ t = { s with now := max s.now t0, lpe := { s.lpe with win := t.lpe.win } })
        ∧ (¬ inWin → t.reg k = mergeBits (beMask be &&& r.rwl) (s.reg k) val ∧ (∀ j, j ≠ k → t.reg j = s.reg j)
          ∧ (∀ n < 68, 0x1000 ≤ off → (off - 0x1000) / 0x40 = n → t.leg n = { s.leg n with shadow := t.legRegs n })
          ∧ (∀ n < 68, (off < 0x1000 ∨ (off - 0x1000) / 0x40 ≠ n) → t.leg n = s.leg n)
          ∧ t = { s with now := max s.now t0, regs := t.regs
                         mod := { s.mod with legs := t.mod.legs, valves := t.mod.valves } })))
  ∧ (∀ (s : State) t0 off val be r, s.supply.ok = true → off % 4 = 0 → s.shows off = true → regRow? off = some r →
      off ∈ [0x3820, 0x3840, 0x3F00, 0x4090, 0x42A0, 0x4C04, 0x4C40, 0x5A00, 0x6400] →
      Completes (.registerWrite t0 off val be) s (fun t =>
        t.reg off = mergeBits (beMask be &&& r.rw) (s.reg off) val ∧ (∀ j, j ≠ off → t.reg j = s.reg j)
        ∧ t = { s with now := max s.now t0, regs := t.regs }))
  ∧ (∀ (s : State) t0 i val be, s.supply.ok = true → s.up dCtrl = true → s.secu.dead.contains 0 = false → i < 16 →
      beMask be &&& 0x30000000 ≠ 0 → Completes (.registerWrite t0 (pfiBase i + 0x1C) val be) s (fun t =>
        t.pfi i = { s.pfi i with idxErr := (s.pfi i).idxErr && !bitAt (val &&& beMask be) 29
                                 capOvr := (s.pfi i).capOvr && !bitAt (val &&& beMask be) 28 }
        ∧ (∀ j, j ≠ i → t.pfi j = s.pfi j) ∧ t = { s with now := max s.now t0, fb := { s.fb with pfis := t.fb.pfis } }))
  ∧ (∀ (s : State) t0 j val be, s.supply.ok = true → s.up dCtrl = true → j < 16 →
      (s.lock.locked = true → Completes (.cmpValWrite t0 j val be) s (fun t =>
        Raises [(251, [cmpBase j + 4])] s t ∧ t = { s with now := max s.now t0, hif := t.hif, evr := t.evr }))
      ∧ (s.lock.locked = false → s.rb (cmpBase j) 20 = false → Completes (.cmpValWrite t0 j val be) s (fun t =>
        let v := mergeBits (beMask be) (s.cmp j).val val
        t.reg (cmpBase j + 4) = v ∧ (∀ k, k ≠ cmpBase j + 4 → t.reg k = s.reg k) ∧ (t.cmp j).val = v
        ∧ (∀ k, k ≠ j → t.cmp k = s.cmp k) ∧ t.trm = s.trm ∧ t.lock = s.lock)))
  ∧ (∀ (s : State) t0 off, s.supply.ok = true → Completes (.readAndClear t0 off) s (fun t =>
      t.readout = (s.advance t0).bar0 off ∧ t.regs = s.regs ∧ t.lock = s.lock ∧ t.now = max s.now t0
      ∧ (off % 4 ≠ 0 ∨ s.shows off = false → t = { s with now := max s.now t0, readout := 0 })
      ∧ (∀ n < 256, off = 0x6000 + 4 * n → s.shows off = true → getD t.evr.cnt n 0 = 0
          ∧ (∀ k, k ≠ n → getD t.evr.cnt k 0 = getD s.evr.cnt k 0)
          ∧ t = { s with now := max s.now t0, readout := t.readout, evr := { s.evr with cnt := t.evr.cnt } })
      ∧ (∀ g < 16, off = 0x2614 + 0x20 * g → s.shows off = true → t.grp g = { s.grp g with tripCnt := 0, dtCnt := 0 }
          ∧ (∀ h, h ≠ g → t.grp h = s.grp h)
          ∧ t = { s with now := max s.now t0, readout := t.readout, trm := { s.trm with grps := t.trm.grps } })))
  ∧ (∀ (s : State) t0, s.supply.ok = true →
      Completes (.timeLoRead t0) s (fun t => t = { s with
        now := max s.now t0, readout := max s.now t0 % 2 ^ 32
        tbu := { s.tbu with timeHi := max s.now t0 / 2 ^ 32 % 2 ^ 32 } })
      ∧ Completes (.causeTsLoRead t0) s (fun t => t = { s with
        now := max s.now t0, readout := s.gaf.causeTick % 2 ^ 32
        gaf := { s.gaf with causeHi := s.gaf.causeTick / 2 ^ 32 % 2 ^ 32 } })
      ∧ Completes (.lockTsLoRead t0) s (fun t => t = { s with
        now := max s.now t0, readout := s.lock.tick % 2 ^ 32, lock := { s.lock with tsHi := s.lock.tick / 2 ^ 32 % 2 ^ 32 } })
      ∧ (s.up dCtrl = true → s.fld 0x5A00 10 8 < 6 → Completes (.objTsLoRead t0) s (fun t =>
        let ts := (s.canObj (s.fld 0x5A00 10 8) (s.fld 0x5A00 6 0)).ts
        t = { s with now := max s.now t0, readout := ts % 2 ^ 32, canTsHi := ts / 2 ^ 32 % 2 ^ 32 })))
  ∧ (∀ (s : State) t0 i, s.supply.ok = true → s.up dCtrl = true → i < 16 →
      Completes (.tripTsLoRead t0 i) s (fun t => t.readout = (s.grp i).firstTs % 2 ^ 32
        ∧ t.grp i = { s.grp i with tsHi := (s.grp i).firstTs / 2 ^ 32 % 2 ^ 32 } ∧ (∀ k, k ≠ i → t.grp k = s.grp k)
        ∧ t = { s with now := max s.now t0, readout := t.readout, trm := { s.trm with grps := t.trm.grps } })
      ∧ Completes (.edgeLoRead t0 i) s (fun t => t.readout = (s.pfi i).edgeL % 2 ^ 32
        ∧ t.pfi i = { s.pfi i with edgeHi := (s.pfi i).edgeL / 2 ^ 32 % 2 ^ 32 } ∧ (∀ k, k ≠ i → t.pfi k = s.pfi k)
        ∧ t = { s with now := max s.now t0, readout := t.readout, fb := { s.fb with pfis := t.fb.pfis } })
      ∧ Completes (.capPosRead t0 i) s (fun t => t.readout = (s.pfi i).capPos
        ∧ t.pfi i = { s.pfi i with capNew := false } ∧ (∀ k, k ≠ i → t.pfi k = s.pfi k)
        ∧ t = { s with now := max s.now t0, readout := t.readout, fb := { s.fb with pfis := t.fb.pfis } }))
  ∧ (∀ (s : State) t0 val be, s.supply.ok = true → Completes (.configLock t0 val be) s (fun t =>
      let w := val &&& beMask be
      let ready := s.gaf.bootDone = true ∧ s.lpe.imgBusy = false ∧ s.secu.keyBusy = none
      (s.lock.locked = true → (beMask be &&& 0x80FF0000 ≠ 0 → Raises [(251, [0x20])] s t)
          ∧ (beMask be &&& 0x80FF0000 = 0 → t.evr = s.evr ∧ t.hif = s.hif)
          ∧ t = { s with now := max s.now t0, hif := t.hif, evr := t.evr })
      ∧ (s.lock.locked = false → bitAt w 31 = false → t = { s with now := max s.now t0 })
      ∧ (s.lock.locked = false → bitAt w 31 = true → bits w 23 16 ≠ 0xA5 →
          t = { s with now := max s.now t0, lock := { s.lock with result := 3 } })
      ∧ (s.lock.locked = false → bitAt w 31 = true → bits w 23 16 = 0xA5 → ¬ ready →
          t = { s with now := max s.now t0, lock := { s.lock with result := 2 } })
      ∧ (s.lock.locked = false → bitAt w 31 = true → bits w 23 16 = 0xA5 → ready →
          t = { s with now := max s.now t0, evr := { s.evr with atLock := s.evr.cnt }
                       lock := { s.lock with locked := true, tick := max s.now t0
                                             sels := [0x3F00, 0x4090, 0x42A0].map (fun k => (k, s.reg k)) } })))
  ∧ (∀ (s : State) t0, s.supply.ok = true → s.lock.locked = true → s.lock.done = false → Completes (.lockComplete t0) s (fun t =>
      t.lock = { s.lock with done := true, result := 1, fail := t.lock.fail } ∧ t.regs = s.regs
      ∧ Raised 252 (t.lock.fail :: words64 s.lock.tick) s t ∧ t.now = max s.now t0
      ∧ (bitAt t.lock.fail 16 = true ↔ ¬ (s.fld 0x400 28 27 ≠ 3 ∧ 10 ≤ s.fld 0x400 15 0 ∧ s.fld 0x400 15 0 ≤ 1000))
      ∧ (bitAt t.lock.fail 17 = true ↔ 6 ≤ s.fld 0x6820 30 28 ∨ s.fld 0x6830 2 0 < 4)
      ∧ (s.tbu.running = true → t.tbu = { s.tbu with due := true })
      ∧ (s.tbu.running = false → s.clapBad = none → t.tbu = { s.tbu with
          running := true, startTick := t.now, period := s.clapP, nextB := t.now + s.clapP, count := 0 })
      ∧ (s.tbu.running = false → s.clapBad ≠ none → t.tbu = s.tbu ∧ bitAt t.lock.fail 0 = true)))

/-- R27 to R35, R582, Tables 2.2 to 2.8.  A write that sets clap_en starts the clapper when P is 2,000 to 400,000 and, slaved, R33 holds:
boundary 0 falls P ticks later.  Else clap_en reads 0 and EV228 names the register; after the start a write raises EV228, after lock
EV251.  Each boundary advances the count, raises CLAP_OUT for 1 µs and begins a period of P, or slaved one within P ± slew_limit
(FREE: closer to P by at most slew_limit).  In LOCKED it ends within 10 ns of the instant aimed at, where P ± slew_limit reaches
it; a used edge aims the boundaries at itself plus in_ofs.  An edge from FREE acquires; lock_count good ones lock with EV224; miss_count
missed ones end LOCKED in HOLDOVER with EV225, or in FREE with EV226 as they end ACQUIRE; HOLDOVER ends at its deadline with EV226; an edge
outside the window raises EV227 once per boundary. -/
def Obligations.Clapper : Prop :=
  (∀ (s : State) t0 val be, s.supply.ok = true → Completes (.clapperStart t0 val be) s (fun t =>
      let v := mergeBits (beMask be &&& 0xC007FFFF) (s.reg 0x808) val
      let P := bits v 18 0
      let sl := s.fld 0x80C 7 0
      let w := s.fld 0x810 15 0
      let badP := P < 2000 ∨ 400000 < P
      let badS := bitAt v 30 = true ∧ (s.fld 0x80C 31 24 = 0 ∨ 128 < s.fld 0x80C 31 24 ∨ s.fld 0x80C 23 16 = 0
        ∨ s.fld 0x80C 15 8 = 0 ∨ sl = 0 ∨ w < 40 ∨ 4000 < w ∨ P ≤ 2 * w ∨ P < 2000 + sl)
      (be % 16 = 0 → t = { s with now := max s.now t0 })
      ∧ (be % 16 ≠ 0 → s.lock.locked = true → Raises [(251, [0x808])] s t
          ∧ t = { s with now := max s.now t0, hif := t.hif, evr := t.evr })
      ∧ (be % 16 ≠ 0 → s.lock.locked = false → s.tbu.running = true → Raises [(228, [0x808])] s t
          ∧ t = { s with now := max s.now t0, hif := t.hif, evr := t.evr })
      ∧ (be % 16 ≠ 0 → s.lock.locked = false → s.tbu.running = false →
          (∀ k, k ≠ 0x808 → t.reg k = s.reg k)
          ∧ t = { s with now := max s.now t0, regs := t.regs, tbu := t.tbu, hif := t.hif, evr := t.evr }
          ∧ (bitAt v 31 = false → t.reg 0x808 = v ∧ t.tbu = s.tbu ∧ t.evr = s.evr ∧ t.hif = s.hif)
          ∧ (bitAt v 31 = true → ¬ badP → ¬ badS → t.reg 0x808 = v ∧ t.evr = s.evr ∧ t.hif = s.hif
              ∧ t.tbu = { s.tbu with running := true, startTick := t.now, period := P, nextB := t.now + P, count := 0 })
          ∧ (bitAt v 31 = true → badP → t.reg 0x808 = v % 2 ^ 31 ∧ t.tbu = s.tbu ∧ Raises [(228, [0x808])] s t)
          ∧ (bitAt v 31 = true → ¬ badP → badS → t.reg 0x808 = v % 2 ^ 31 ∧ t.tbu = s.tbu
              ∧ (Raises [(228, [0x80C])] s t ∨ Raises [(228, [0x810])] s t)))))
  ∧ (∀ (s : State) t0, s.supply.ok = true → s.tbu.running = true → s.tbu.nextB ≤ max s.now t0 →
      Completes (.clapperBoundary t0) s (fun t =>
        let b := s.tbu.nextB
        let P := s.clapP
        let sl := s.slewLimit
        t.tbu = { s.tbu with lastB := b, nextB := b + t.tbu.period, period := t.tbu.period, count := s.tbu.count + 1
                             outside := false, outFall := b + ticksPerUs
                             due := if s.lock.done then false else s.tbu.due }
        ∧ t.boundary = s.tbu.count ∧ t.now = max s.now t0 ∧ t.regs = s.regs
        ∧ (s.slaved = false → t.tbu.period = P)
        ∧ (s.slaved = true → s.tbu.state = .free → (s.tbu.period < P → t.tbu.period = min P (s.tbu.period + sl))
            ∧ (P ≤ s.tbu.period → t.tbu.period = max P (s.tbu.period - sl)))
        ∧ (s.slaved = true → s.tbu.state ≠ .free → P - sl ≤ t.tbu.period ∧ t.tbu.period ≤ P + sl)
        ∧ (let a := s.aimNear ((b + P : Nat) * 32)
           s.slaved = true → s.tbu.state = .locked → ((b + P - sl : Nat) : Int) * 32 ≤ a → sl ≤ P →
             a ≤ ((b + P + sl : Nat) : Int) * 32 → (((b + t.tbu.period : Nat) : Int) * 32 - a).natAbs ≤ 4 * 32)))
  ∧ (∀ (s : State) t0, s.supply.ok = true → s.tbu.running = false ∨ max s.now t0 < s.tbu.nextB →
      Completes (.clapperBoundary t0) s (fun t => t = { s with now := max s.now t0 }))
  ∧ (∀ (s : State) t0 fine, s.supply.ok = true → s.tbu.running = true → s.slaved = true →
      Completes (.clapInEdge t0 fine) s (fun t =>
        let x := t0 * 32 + fine % 32
        let next := x + s.fld 0x80C 31 24 * s.clapP * 32
        let err : Int := x - s.tbu.expect
        let expired := s.tbu.state = .holdover ∧ s.tbu.holdDl ≤ max s.now t0
        let inWin := err.natAbs ≤ s.fld 0x810 15 0 * 32
        let good := if err.natAbs ≤ 128 then s.tbu.good + 1 else 0
        t = { s with now := max s.now t0, tbu := t.tbu, free := t.free, hif := t.hif, evr := t.evr }
        ∧ (s.tbu.state = .free → t.tbu = { s.tbu with
              state := .acquire, good := 0, missed := 0, expect := next, aim := x + sx 16 (s.fld 0x814 15 0) * 32
              span := next - x } ∧ t.evr = s.evr)
        ∧ (expired → t.tbu.state = .acquire ∧ t.tbu.expect = next ∧ t.tbu.good = 0 ∧ Raises [(226, [])] s t)
        ∧ (s.tbu.state ≠ .free → ¬ expired → inWin → t.tbu.phErr = err ∧ t.tbu.missed = 0 ∧ t.tbu.expect = next
            ∧ t.tbu.aim = x + sx 16 (s.fld 0x814 15 0) * 32
            ∧ t.tbu.nextB = s.tbu.nextB ∧ t.tbu.count = s.tbu.count ∧ t.tbu.period = s.tbu.period
            ∧ -25000 ≤ t.tbu.rateCorr ∧ t.tbu.rateCorr ≤ 25000
            ∧ (s.tbu.state = .holdover → t.tbu.state = .acquire ∧ t.tbu.good = 0 ∧ t.evr = s.evr)
            ∧ (s.tbu.state = .locked → t.tbu.state = .locked ∧ t.evr = s.evr)
            ∧ (s.tbu.state = .acquire → t.tbu.good = good
                ∧ (s.fld 0x80C 23 16 ≤ good → t.tbu.state = .locked ∧ Raises [(224, [])] s t)
                ∧ (good < s.fld 0x80C 23 16 → t.tbu.state = .acquire ∧ t.evr = s.evr)))
        ∧ (s.tbu.state ≠ .free → ¬ expired → ¬ inWin → t.tbu = { s.tbu with good := 0, outside := true }
            ∧ (s.tbu.outside = false → Raises [(227, [])] s t) ∧ (s.tbu.outside = true → t.evr = s.evr))))
  ∧ (∀ (s : State) t0, s.supply.ok = true → s.tbu.running = true → s.slaved = true → s.tbu.state ≠ .free →
      (s.tbu.state = .holdover → max s.now t0 < s.tbu.holdDl) →
      s.tbu.expect + s.fld 0x810 15 0 * 32 < (max s.now t0 + 1) * 32 → Completes (.clapInMissed t0) s (fun t =>
        let n := max s.now t0
        let m := s.tbu.missed + 1
        let base := { s.tbu with missed := m, good := 0, expect := s.tbu.expect + s.fld 0x80C 31 24 * s.clapP * 32 }
        let lost := s.fld 0x80C 15 8 ≤ m
        let ms := s.fld 0x810 31 16
        t = { s with now := n, tbu := t.tbu, hif := t.hif, evr := t.evr }
        ∧ ((¬ lost ∨ s.tbu.state = .holdover) → t.tbu = base ∧ t.evr = s.evr)
        ∧ (lost → s.tbu.state = .acquire ∨ (s.tbu.state = .locked ∧ ms = 0) →
            t.tbu = { base with state := .free, rateCorr := 0 } ∧ Raises [(226, [])] s t)
        ∧ (lost → s.tbu.state = .locked → ms ≠ 0 →
            t.tbu = { base with state := .holdover, holdDl := n + ms * ticksPerMs } ∧ Raises [(225, [])] s t)))
  ∧ (∀ (s : State) t0, s.supply.ok = true → s.tbu.state = .holdover → s.tbu.holdDl ≤ max s.now t0 →
      Completes (.clapHoldoverExpired t0) s (fun t => t.tbu = { s.tbu with state := .free, rateCorr := 0 }
        ∧ Raises [(226, [])] s t ∧ t = { s with now := max s.now t0, tbu := t.tbu, hif := t.hif, evr := t.evr }))

/-! ### The machine as a whole -/

/-- A step takes the command at the front of the queue and runs it on the state with the queue's rest; with an empty queue the
block idles. -/
def Obligations.StepRunsFrontCommand : Prop :=
  (∀ (s : State) c r, s.pending = c :: r → step s = exec c { s with pending := r })
  ∧ ∀ (s : State), s.pending = [] → step s = .next s

/-- R24, R558, R564: at reset device time is 0, every set-up register holds its reset value, PD_AON alone runs, the clapper
stands still, nothing is locked, every leg group is DISABLED, every STO group is in STO, no contactor is driven, no ring exists
and nothing waits; the invariant holds.  The words are those of the register tables. -/
def Obligations.ResetState : Prop :=
  State.reset.Inv ∧ State.reset.now = 0 ∧ State.reset.regs = [] ∧ State.reset.lock = {} ∧ State.reset.pending = []
  ∧ State.reset.hif.flights = [] ∧ State.reset.hif.pend = [] ∧ State.reset.hif.rings = []
  ∧ State.reset.domSt 0 = .running ∧ (∀ d, 1 ≤ d → d ≤ 7 → State.reset.domSt d = .inReset)
  ∧ State.reset.tbu.running = false ∧ State.reset.tbu.state = .free ∧ State.reset.evr.cnt = []
  ∧ (∀ g, (State.reset.grp g).st = .disabled) ∧ (∀ k < 6, State.reset.inSto k = true) ∧ (∀ k, State.reset.driven k = false)
  ∧ State.reset.ppm.path = .opn ∧ (∀ u, (State.reset.cmu u).st = .off) ∧ (∀ r, (State.reset.rail r).st = .off)
  ∧ State.reset.bar0 0x808 = 20000 ∧ State.reset.bar0 0x80C = 0x01080408 ∧ State.reset.bar0 0x810 = 0x00640190
  ∧ State.reset.bar0 0x8 = 0x44C03044 ∧ State.reset.bar0 0xC = 0x2000A010 ∧ State.reset.bar0 0x10 = 0x62646C10
  ∧ State.reset.bar0 0x14 = 0x20201001 ∧ State.reset.bar0 0x2600 = 0

/-- R14, R24, R560: with the supply good every command is carried out, whatever the state, and below 9.0 V none but POWER_ON,
of which nothing is promised; no command is refused by the model.  POWER_ON alone sets device time to 0; every other
command leaves it the same or later.  The queue is no command's business. -/
def Obligations.EveryCommandIsCarriedOut : Prop :=
  (∀ c (s : State), s.supply.ok = true ∨ isPowerOn c = true → ∃ t, exec c s = .next t ∧ t.pending = s.pending
      ∧ (isPowerOn c = true → t.now = 0) ∧ (isPowerOn c = false → s.now ≤ t.now))
  ∧ ∀ c (s : State), s.supply.ok = false → isPowerOn c = false → exec c s = .fault .outsideLimits

/-- R583, with R463, R466 and R478: every ring command meets HIF's judgement first.  One that is judged completes with that status
at its tick, and nothing else happens; one whose data buffer cannot be read completes with DMA_ERROR and EV233.  Until
lock_done = 1 every opcode but those that R478 names completes with NOT_LOCKED, unless its descriptor is illegal, which R463
judges first; from then on HIF answers none with NOT_LOCKED. -/
def Obligations.HostJudgement : Prop :=
  (∀ c (s : State) code d st, c.host? = some (code, d) → s.supply.ok = true → judge code d (s.received code d) = some st →
      Completes c s (fun t => Finishes code d st 0 s t
        ∧ t = { s with now := max s.now d.t, hif := { s.hif with flights := t.hif.flights } }))
  ∧ (∀ c (s : State) code d, c.host? = some (code, d) → s.supply.ok = true → judge code d (s.received code d) = none →
      d.dataErr = true → Completes c s (fun t => Finishes code d .dmaError 0 s t ∧ Raises [(233, [d.sq, code])] s t
        ∧ t = { s with now := max s.now d.t, hif := t.hif, evr := t.evr }))
  ∧ (∀ c (s : State) code d r, c.host? = some (code, d) → s.supply.ok = true → opRow? code = some r → descOk r d = true →
      descExtra code d = true → s.lock.done = false →
      code ∉ [0x0001, 0x0002, 0x0003, 0x0011, 0x0012, 0x0013, 0x0A00, 0x0A01, 0x0D00] →
      (code = 0x0010 → d.target ≠ 10 ∧ d.target ≠ 11) →
      Completes c s (fun t => Finishes code d .notLocked 0 s t
        ∧ t = { s with now := max s.now d.t, hif := { s.hif with flights := t.hif.flights } }))
  ∧ (∀ (s : State) code d, s.lock.done = true → judge code d s ≠ some .notLocked)

/-- From every state in which it holds, every step keeps the invariant: the register file stays in its canonical form, no
reserved or read-only bit of a set-up register ever leaves its reset value, whatever is written where and with whatever byte
enables, through whatever window; lock_done implies locked and the result OK, the fail mask is 0 until then, and the selects
that a reset of PD_IMPL brings back are legal values of selects. -/
def Obligations.EveryStepKeepsTheInvariant : Prop := ∀ (s t : State), s.Inv → step s = .next t → t.Inv

/-- R584, with R6 and R582: whatever command is carried out, either it is one of those with which a reset that clears the
lock takes place, the lock is clear and every set-up register reads as at reset; or locked, lock_done, the lock tick, the fail mask and the
result are not cleared, and, once locked, no set-up register but a window select changes, but for the coefficients
and the offset that TK8 and TK12 write.  (The loop engine's windows, which image loads write, stand apart.) -/
def Obligations.LockFreezesTheConfiguration : Prop :=
  ∀ c (s t : State), s.Inv → exec c s = .next t →
    (clearsLock c = true ∧ t.lock = {} ∧ t.regs = [] ∧ ∀ off, t.storedAt off = State.reset.storedAt off)
    ∨ ((s.lock.locked = true → t.lock.locked = true ∧ t.lock.tick = s.lock.tick)
        ∧ (s.lock.done = true → t.lock.done = true ∧ t.lock.fail = s.lock.fail)
        ∧ (s.lock.result ≠ 0 → t.lock.result ≠ 0)
        ∧ (s.lock.locked = true → ∀ k, k ∉ windowSelects → t.reg k = s.reg k ∨ (isTakeStep c = true ∧ Calibrated k)))
end

