-- ==== Sys2Proof/Laws/Blocks.lean ====
section
/-! SUPPORT. For the shared operations of single blocks, what each can change, said once: everything outside the named part
of State is as before. -/

namespace Sys2Proof.Machine

/-- A reflexive and transitive relation that every step of a fold keeps holds from its start to its end. -/
theorem foldl_rel {α β : Type} (R : β → β → Prop) (hr : ∀ s, R s s) (ht : ∀ a b c, R a b → R b c → R a c)
    (f : β → α → β) (h : ∀ s a, R s (f s a)) (l : List α) (s : β) : R s (l.foldl f s) := by
  induction l generalizing s with
  | nil => exact hr s
  | cons x xs ih => exact ht _ _ _ (h s x) (ih (f s x))

/-- A fold of steps that change the legs alone changes the legs alone. -/
theorem foldl_legs_only {α : Type} (f : State → α → State)
    (h : ∀ s a, f s a = { s with mod := { s.mod with legs := (f s a).mod.legs } }) (l : List α) (s : State) :
    l.foldl f s = { s with mod := { s.mod with legs := (l.foldl f s).mod.legs } } :=
  foldl_rel (fun s t => t = { s with mod := { s.mod with legs := t.mod.legs } }) (fun _ => rfl)
    (fun a b c h1 h2 => by rw [h2, h1]) f h l s

/-- A fold of steps that change the gate channels alone changes the gate channels alone. -/
theorem foldl_chs_only {α : Type} (f : State → α → State)
    (h : ∀ s a, f s a = { s with gdv := { s.gdv with chs := (f s a).gdv.chs } }) (l : List α) (s : State) :
    l.foldl f s = { s with gdv := { s.gdv with chs := (l.foldl f s).gdv.chs } } :=
  foldl_rel (fun s t => t = { s with gdv := { s.gdv with chs := t.gdv.chs } }) (fun _ => rfl)
    (fun a b c h1 h2 => by rw [h2, h1]) f h l s

/-! ### Modulator, trip matrix and gates -/

theorem State.legMark_only (s : State) (n x : Nat) :
    s.legMark n x = { s with mod := { s.mod with legs := (s.legMark n x).mod.legs } } := rfl

theorem State.legSpoil_only (s : State) (n : Nat) :
    s.legSpoil n = { s with mod := { s.mod with legs := (s.legSpoil n).mod.legs } } := rfl

theorem State.grpMark_only (s : State) (g : Nat) :
    s.grpMark g = { s with mod := { s.mod with legs := (s.grpMark g).mod.legs } } :=
  foldl_legs_only _ (fun _ _ => rfl) _ s

theorem State.uvRestart_only (s : State) (g : Nat) :
    s.uvRestart g = { s with gdv := { s.gdv with chs := (s.uvRestart g).gdv.chs } } :=
  foldl_chs_only _ (fun _ _ => rfl) _ s

theorem State.cbcLapse_only (s : State) (g : Nat) :
    s.cbcLapse g = { s with trm := { s.trm with grps := (s.cbcLapse g).trm.grps } } := by
  unfold State.cbcLapse
  split <;> rfl

theorem State.gateOn_only (s : State) (c : Nat) :
    s.gateOn c = { s with gdv := { s.gdv with chs := (s.gateOn c).gdv.chs } } := rfl

/-! ### Clapper -/

theorem State.newRate_only (s : State) :
    s.newRate = { s with tbu := { s.tbu with rateCorr := s.newRate.tbu.rateCorr }, free := s.newRate.free } := rfl

/-- The rate correction stays within the range of Table 2.8. -/
theorem State.newRate_range (s : State) : -25000 ≤ s.newRate.tbu.rateCorr ∧ s.newRate.tbu.rateCorr ≤ 25000 := by
  simp only [State.newRate, State.setTbu, clampI]
  omega

theorem State.edgeFree_only (s : State) (x : Nat) : s.edgeFree x = { s with tbu := (s.edgeFree x).tbu } := rfl

/-- A period from b that ends as near to the instant aimed at as it may lies within P ± slew_limit. -/
theorem State.aimPeriod_range (s : State) (b : Nat) :
    (s.clapP : Int) - s.slewLimit ≤ s.aimPeriod b ∧ s.aimPeriod b ≤ s.clapP + s.slewLimit := by
  simp only [State.aimPeriod, clampI]
  omega

/-! ### Loop engine -/

theorem State.laneTurn_only (s : State) (c : Nat) (r : Run) :
    s.laneTurn c r = { s with lpe := { s.lpe with lanes := (s.laneTurn c r).lpe.lanes } } := by
  unfold State.laneTurn
  dsimp only
  split
  · rfl
  · split
    · rfl
    · split <;> rfl

theorem State.hostPutAt_only (s : State) (c slot v : Nat) : s.hostPutAt c slot v = { s with lpe := (s.hostPutAt c slot v).lpe } := by
  unfold State.hostPutAt
  split <;> rfl

/-! ### Charger, link and thermal -/

theorem State.ppmSense_only (s : State) (m : PpmMeas) (b : Nat) : s.ppmSense m b = { s with ppm := (s.ppmSense m b).ppm } := rfl

/-- What PPM takes in at a step leaves the path and the session as they are. -/
theorem State.ppmSense_path (s : State) (m : PpmMeas) (b : Nat) :
    (s.ppmSense m b).ppm.path = s.ppm.path ∧ (s.ppmSense m b).ppm.ses = s.ppm.ses ∧ (s.ppmSense m b).ppm.cmds = s.ppm.cmds :=
  ⟨rfl, rfl, rfl⟩

theorem State.chopWatch_only (s : State) : s.chopWatch = { s with dcl := { s.dcl with noCur := s.chopWatch.dcl.noCur } } := by
  unfold State.chopWatch
  split <;> rfl

theorem State.snsRead_only (s : State) (k : Nat) : s.snsRead k = { s with thm := { s.thm with sns := (s.snsRead k).thm.sns } } := rfl

/-! ### CAN, memories and the boot record -/

theorem State.canReserve_only (s : State) (k : Nat) : s.canReserve k = { s with cans := (s.canReserve k).cans } := rfl

theorem State.regionsWipe_only (s : State) (m lo n : Nat) : s.regionsWipe m lo n = { s with mem := (s.regionsWipe m lo n).mem } := rfl

theorem State.bootWrite_only (s : State) (l : List Nat) :
    s.bootWrite l = { s with secu := { s.secu with bankB := l, boot := (s.bootWrite l).secu.boot } } := rfl

end Sys2Proof.Machine
end

