-- ==== Sys2Proof/Laws/State.lean ====
section
/-! SUPPORT. For each update of State, one lemma per field: the field it writes, and every other field unchanged. -/

namespace Sys2Proof.Machine

/-! ### advance -/

@[simp] theorem State.advance_now (s : State) (t : Nat) : (s.advance t).now = max s.now t := rfl
@[simp] theorem State.advance_supply (s : State) (t : Nat) : (s.advance t).supply = s.supply := rfl
@[simp] theorem State.advance_regs (s : State) (t : Nat) : (s.advance t).regs = s.regs := rfl
@[simp] theorem State.advance_lock (s : State) (t : Nat) : (s.advance t).lock = s.lock := rfl
@[simp] theorem State.advance_gaf (s : State) (t : Nat) : (s.advance t).gaf = s.gaf := rfl
@[simp] theorem State.advance_tbu (s : State) (t : Nat) : (s.advance t).tbu = s.tbu := rfl
@[simp] theorem State.advance_mod (s : State) (t : Nat) : (s.advance t).mod = s.mod := rfl
@[simp] theorem State.advance_trm (s : State) (t : Nat) : (s.advance t).trm = s.trm := rfl
@[simp] theorem State.advance_gdv (s : State) (t : Nat) : (s.advance t).gdv = s.gdv := rfl
@[simp] theorem State.advance_fb (s : State) (t : Nat) : (s.advance t).fb = s.fb := rfl
@[simp] theorem State.advance_lpe (s : State) (t : Nat) : (s.advance t).lpe = s.lpe := rfl
@[simp] theorem State.advance_cmus (s : State) (t : Nat) : (s.advance t).cmus = s.cmus := rfl
@[simp] theorem State.advance_gbx (s : State) (t : Nat) : (s.advance t).gbx = s.gbx := rfl
@[simp] theorem State.advance_sxe (s : State) (t : Nat) : (s.advance t).sxe = s.sxe := rfl
@[simp] theorem State.advance_vlvs (s : State) (t : Nat) : (s.advance t).vlvs = s.vlvs := rfl
@[simp] theorem State.advance_vlvPeak (s : State) (t : Nat) : (s.advance t).vlvPeak = s.vlvPeak := rfl
@[simp] theorem State.advance_rpl (s : State) (t : Nat) : (s.advance t).rpl = s.rpl := rfl
@[simp] theorem State.advance_rplLast (s : State) (t : Nat) : (s.advance t).rplLast = s.rplLast := rfl
@[simp] theorem State.advance_rails (s : State) (t : Nat) : (s.advance t).rails = s.rails := rfl
@[simp] theorem State.advance_aon (s : State) (t : Nat) : (s.advance t).aon = s.aon := rfl
@[simp] theorem State.advance_ppm (s : State) (t : Nat) : (s.advance t).ppm = s.ppm := rfl
@[simp] theorem State.advance_dcl (s : State) (t : Nat) : (s.advance t).dcl = s.dcl := rfl
@[simp] theorem State.advance_prec (s : State) (t : Nat) : (s.advance t).prec = s.prec := rfl
@[simp] theorem State.advance_thm (s : State) (t : Nat) : (s.advance t).thm = s.thm := rfl
@[simp] theorem State.advance_afe (s : State) (t : Nat) : (s.advance t).afe = s.afe := rfl
@[simp] theorem State.advance_saf (s : State) (t : Nat) : (s.advance t).saf = s.saf := rfl
@[simp] theorem State.advance_hif (s : State) (t : Nat) : (s.advance t).hif = s.hif := rfl
@[simp] theorem State.advance_mbx (s : State) (t : Nat) : (s.advance t).mbx = s.mbx := rfl
@[simp] theorem State.advance_evr (s : State) (t : Nat) : (s.advance t).evr = s.evr := rfl
@[simp] theorem State.advance_cans (s : State) (t : Nat) : (s.advance t).cans = s.cans := rfl
@[simp] theorem State.advance_canTsHi (s : State) (t : Nat) : (s.advance t).canTsHi = s.canTsHi := rfl
@[simp] theorem State.advance_mem (s : State) (t : Nat) : (s.advance t).mem = s.mem := rfl
@[simp] theorem State.advance_secu (s : State) (t : Nat) : (s.advance t).secu = s.secu := rfl
@[simp] theorem State.advance_readout (s : State) (t : Nat) : (s.advance t).readout = s.readout := rfl
@[simp] theorem State.advance_free (s : State) (t : Nat) : (s.advance t).free = s.free := rfl
@[simp] theorem State.advance_pending (s : State) (t : Nat) : (s.advance t).pending = s.pending := rfl

/-! ### setTbu -/

@[simp] theorem State.setTbu_now (s : State) (v : Tbu) : (s.setTbu v).now = s.now := rfl
@[simp] theorem State.setTbu_supply (s : State) (v : Tbu) : (s.setTbu v).supply = s.supply := rfl
@[simp] theorem State.setTbu_regs (s : State) (v : Tbu) : (s.setTbu v).regs = s.regs := rfl
@[simp] theorem State.setTbu_lock (s : State) (v : Tbu) : (s.setTbu v).lock = s.lock := rfl
@[simp] theorem State.setTbu_gaf (s : State) (v : Tbu) : (s.setTbu v).gaf = s.gaf := rfl
@[simp] theorem State.setTbu_tbu (s : State) (v : Tbu) : (s.setTbu v).tbu = v := rfl
@[simp] theorem State.setTbu_mod (s : State) (v : Tbu) : (s.setTbu v).mod = s.mod := rfl
@[simp] theorem State.setTbu_trm (s : State) (v : Tbu) : (s.setTbu v).trm = s.trm := rfl
@[simp] theorem State.setTbu_gdv (s : State) (v : Tbu) : (s.setTbu v).gdv = s.gdv := rfl
@[simp] theorem State.setTbu_fb (s : State) (v : Tbu) : (s.setTbu v).fb = s.fb := rfl
@[simp] theorem State.setTbu_lpe (s : State) (v : Tbu) : (s.setTbu v).lpe = s.lpe := rfl
@[simp] theorem State.setTbu_cmus (s : State) (v : Tbu) : (s.setTbu v).cmus = s.cmus := rfl
@[simp] theorem State.setTbu_gbx (s : State) (v : Tbu) : (s.setTbu v).gbx = s.gbx := rfl
@[simp] theorem State.setTbu_sxe (s : State) (v : Tbu) : (s.setTbu v).sxe = s.sxe := rfl
@[simp] theorem State.setTbu_vlvs (s : State) (v : Tbu) : (s.setTbu v).vlvs = s.vlvs := rfl
@[simp] theorem State.setTbu_vlvPeak (s : State) (v : Tbu) : (s.setTbu v).vlvPeak = s.vlvPeak := rfl
@[simp] theorem State.setTbu_rpl (s : State) (v : Tbu) : (s.setTbu v).rpl = s.rpl := rfl
@[simp] theorem State.setTbu_rplLast (s : State) (v : Tbu) : (s.setTbu v).rplLast = s.rplLast := rfl
@[simp] theorem State.setTbu_rails (s : State) (v : Tbu) : (s.setTbu v).rails = s.rails := rfl
@[simp] theorem State.setTbu_aon (s : State) (v : Tbu) : (s.setTbu v).aon = s.aon := rfl
@[simp] theorem State.setTbu_ppm (s : State) (v : Tbu) : (s.setTbu v).ppm = s.ppm := rfl
@[simp] theorem State.setTbu_dcl (s : State) (v : Tbu) : (s.setTbu v).dcl = s.dcl := rfl
@[simp] theorem State.setTbu_prec (s : State) (v : Tbu) : (s.setTbu v).prec = s.prec := rfl
@[simp] theorem State.setTbu_thm (s : State) (v : Tbu) : (s.setTbu v).thm = s.thm := rfl
@[simp] theorem State.setTbu_afe (s : State) (v : Tbu) : (s.setTbu v).afe = s.afe := rfl
@[simp] theorem State.setTbu_saf (s : State) (v : Tbu) : (s.setTbu v).saf = s.saf := rfl
@[simp] theorem State.setTbu_hif (s : State) (v : Tbu) : (s.setTbu v).hif = s.hif := rfl
@[simp] theorem State.setTbu_mbx (s : State) (v : Tbu) : (s.setTbu v).mbx = s.mbx := rfl
@[simp] theorem State.setTbu_evr (s : State) (v : Tbu) : (s.setTbu v).evr = s.evr := rfl
@[simp] theorem State.setTbu_cans (s : State) (v : Tbu) : (s.setTbu v).cans = s.cans := rfl
@[simp] theorem State.setTbu_canTsHi (s : State) (v : Tbu) : (s.setTbu v).canTsHi = s.canTsHi := rfl
@[simp] theorem State.setTbu_mem (s : State) (v : Tbu) : (s.setTbu v).mem = s.mem := rfl
@[simp] theorem State.setTbu_secu (s : State) (v : Tbu) : (s.setTbu v).secu = s.secu := rfl
@[simp] theorem State.setTbu_readout (s : State) (v : Tbu) : (s.setTbu v).readout = s.readout := rfl
@[simp] theorem State.setTbu_free (s : State) (v : Tbu) : (s.setTbu v).free = s.free := rfl
@[simp] theorem State.setTbu_pending (s : State) (v : Tbu) : (s.setTbu v).pending = s.pending := rfl

/-! ### setLeg -/

@[simp] theorem State.setLeg_now (s : State) (n : Nat) (v : Leg) : (s.setLeg n v).now = s.now := rfl
@[simp] theorem State.setLeg_supply (s : State) (n : Nat) (v : Leg) : (s.setLeg n v).supply = s.supply := rfl
@[simp] theorem State.setLeg_regs (s : State) (n : Nat) (v : Leg) : (s.setLeg n v).regs = s.regs := rfl
@[simp] theorem State.setLeg_lock (s : State) (n : Nat) (v : Leg) : (s.setLeg n v).lock = s.lock := rfl
@[simp] theorem State.setLeg_gaf (s : State) (n : Nat) (v : Leg) : (s.setLeg n v).gaf = s.gaf := rfl
@[simp] theorem State.setLeg_tbu (s : State) (n : Nat) (v : Leg) : (s.setLeg n v).tbu = s.tbu := rfl
@[simp] theorem State.setLeg_mod (s : State) (n : Nat) (v : Leg) : (s.setLeg n v).mod = { s.mod with legs := put s.mod.legs n v } := rfl
@[simp] theorem State.setLeg_trm (s : State) (n : Nat) (v : Leg) : (s.setLeg n v).trm = s.trm := rfl
@[simp] theorem State.setLeg_gdv (s : State) (n : Nat) (v : Leg) : (s.setLeg n v).gdv = s.gdv := rfl
@[simp] theorem State.setLeg_fb (s : State) (n : Nat) (v : Leg) : (s.setLeg n v).fb = s.fb := rfl
@[simp] theorem State.setLeg_lpe (s : State) (n : Nat) (v : Leg) : (s.setLeg n v).lpe = s.lpe := rfl
@[simp] theorem State.setLeg_cmus (s : State) (n : Nat) (v : Leg) : (s.setLeg n v).cmus = s.cmus := rfl
@[simp] theorem State.setLeg_gbx (s : State) (n : Nat) (v : Leg) : (s.setLeg n v).gbx = s.gbx := rfl
@[simp] theorem State.setLeg_sxe (s : State) (n : Nat) (v : Leg) : (s.setLeg n v).sxe = s.sxe := rfl
@[simp] theorem State.setLeg_vlvs (s : State) (n : Nat) (v : Leg) : (s.setLeg n v).vlvs = s.vlvs := rfl
@[simp] theorem State.setLeg_vlvPeak (s : State) (n : Nat) (v : Leg) : (s.setLeg n v).vlvPeak = s.vlvPeak := rfl
@[simp] theorem State.setLeg_rpl (s : State) (n : Nat) (v : Leg) : (s.setLeg n v).rpl = s.rpl := rfl
@[simp] theorem State.setLeg_rplLast (s : State) (n : Nat) (v : Leg) : (s.setLeg n v).rplLast = s.rplLast := rfl
@[simp] theorem State.setLeg_rails (s : State) (n : Nat) (v : Leg) : (s.setLeg n v).rails = s.rails := rfl
@[simp] theorem State.setLeg_aon (s : State) (n : Nat) (v : Leg) : (s.setLeg n v).aon = s.aon := rfl
@[simp] theorem State.setLeg_ppm (s : State) (n : Nat) (v : Leg) : (s.setLeg n v).ppm = s.ppm := rfl
@[simp] theorem State.setLeg_dcl (s : State) (n : Nat) (v : Leg) : (s.setLeg n v).dcl = s.dcl := rfl
@[simp] theorem State.setLeg_prec (s : State) (n : Nat) (v : Leg) : (s.setLeg n v).prec = s.prec := rfl
@[simp] theorem State.setLeg_thm (s : State) (n : Nat) (v : Leg) : (s.setLeg n v).thm = s.thm := rfl
@[simp] theorem State.setLeg_afe (s : State) (n : Nat) (v : Leg) : (s.setLeg n v).afe = s.afe := rfl
@[simp] theorem State.setLeg_saf (s : State) (n : Nat) (v : Leg) : (s.setLeg n v).saf = s.saf := rfl
@[simp] theorem State.setLeg_hif (s : State) (n : Nat) (v : Leg) : (s.setLeg n v).hif = s.hif := rfl
@[simp] theorem State.setLeg_mbx (s : State) (n : Nat) (v : Leg) : (s.setLeg n v).mbx = s.mbx := rfl
@[simp] theorem State.setLeg_evr (s : State) (n : Nat) (v : Leg) : (s.setLeg n v).evr = s.evr := rfl
@[simp] theorem State.setLeg_cans (s : State) (n : Nat) (v : Leg) : (s.setLeg n v).cans = s.cans := rfl
@[simp] theorem State.setLeg_canTsHi (s : State) (n : Nat) (v : Leg) : (s.setLeg n v).canTsHi = s.canTsHi := rfl
@[simp] theorem State.setLeg_mem (s : State) (n : Nat) (v : Leg) : (s.setLeg n v).mem = s.mem := rfl
@[simp] theorem State.setLeg_secu (s : State) (n : Nat) (v : Leg) : (s.setLeg n v).secu = s.secu := rfl
@[simp] theorem State.setLeg_readout (s : State) (n : Nat) (v : Leg) : (s.setLeg n v).readout = s.readout := rfl
@[simp] theorem State.setLeg_free (s : State) (n : Nat) (v : Leg) : (s.setLeg n v).free = s.free := rfl
@[simp] theorem State.setLeg_pending (s : State) (n : Nat) (v : Leg) : (s.setLeg n v).pending = s.pending := rfl

/-! ### setValve -/

@[simp] theorem State.setValve_now (s : State) (m : Nat) (v : Valve) : (s.setValve m v).now = s.now := rfl
@[simp] theorem State.setValve_supply (s : State) (m : Nat) (v : Valve) : (s.setValve m v).supply = s.supply := rfl
@[simp] theorem State.setValve_regs (s : State) (m : Nat) (v : Valve) : (s.setValve m v).regs = s.regs := rfl
@[simp] theorem State.setValve_lock (s : State) (m : Nat) (v : Valve) : (s.setValve m v).lock = s.lock := rfl
@[simp] theorem State.setValve_gaf (s : State) (m : Nat) (v : Valve) : (s.setValve m v).gaf = s.gaf := rfl
@[simp] theorem State.setValve_tbu (s : State) (m : Nat) (v : Valve) : (s.setValve m v).tbu = s.tbu := rfl
@[simp] theorem State.setValve_mod (s : State) (m : Nat) (v : Valve) : (s.setValve m v).mod = { s.mod with valves := put s.mod.valves m v } := rfl
@[simp] theorem State.setValve_trm (s : State) (m : Nat) (v : Valve) : (s.setValve m v).trm = s.trm := rfl
@[simp] theorem State.setValve_gdv (s : State) (m : Nat) (v : Valve) : (s.setValve m v).gdv = s.gdv := rfl
@[simp] theorem State.setValve_fb (s : State) (m : Nat) (v : Valve) : (s.setValve m v).fb = s.fb := rfl
@[simp] theorem State.setValve_lpe (s : State) (m : Nat) (v : Valve) : (s.setValve m v).lpe = s.lpe := rfl
@[simp] theorem State.setValve_cmus (s : State) (m : Nat) (v : Valve) : (s.setValve m v).cmus = s.cmus := rfl
@[simp] theorem State.setValve_gbx (s : State) (m : Nat) (v : Valve) : (s.setValve m v).gbx = s.gbx := rfl
@[simp] theorem State.setValve_sxe (s : State) (m : Nat) (v : Valve) : (s.setValve m v).sxe = s.sxe := rfl
@[simp] theorem State.setValve_vlvs (s : State) (m : Nat) (v : Valve) : (s.setValve m v).vlvs = s.vlvs := rfl
@[simp] theorem State.setValve_vlvPeak (s : State) (m : Nat) (v : Valve) : (s.setValve m v).vlvPeak = s.vlvPeak := rfl
@[simp] theorem State.setValve_rpl (s : State) (m : Nat) (v : Valve) : (s.setValve m v).rpl = s.rpl := rfl
@[simp] theorem State.setValve_rplLast (s : State) (m : Nat) (v : Valve) : (s.setValve m v).rplLast = s.rplLast := rfl
@[simp] theorem State.setValve_rails (s : State) (m : Nat) (v : Valve) : (s.setValve m v).rails = s.rails := rfl
@[simp] theorem State.setValve_aon (s : State) (m : Nat) (v : Valve) : (s.setValve m v).aon = s.aon := rfl
@[simp] theorem State.setValve_ppm (s : State) (m : Nat) (v : Valve) : (s.setValve m v).ppm = s.ppm := rfl
@[simp] theorem State.setValve_dcl (s : State) (m : Nat) (v : Valve) : (s.setValve m v).dcl = s.dcl := rfl
@[simp] theorem State.setValve_prec (s : State) (m : Nat) (v : Valve) : (s.setValve m v).prec = s.prec := rfl
@[simp] theorem State.setValve_thm (s : State) (m : Nat) (v : Valve) : (s.setValve m v).thm = s.thm := rfl
@[simp] theorem State.setValve_afe (s : State) (m : Nat) (v : Valve) : (s.setValve m v).afe = s.afe := rfl
@[simp] theorem State.setValve_saf (s : State) (m : Nat) (v : Valve) : (s.setValve m v).saf = s.saf := rfl
@[simp] theorem State.setValve_hif (s : State) (m : Nat) (v : Valve) : (s.setValve m v).hif = s.hif := rfl
@[simp] theorem State.setValve_mbx (s : State) (m : Nat) (v : Valve) : (s.setValve m v).mbx = s.mbx := rfl
@[simp] theorem State.setValve_evr (s : State) (m : Nat) (v : Valve) : (s.setValve m v).evr = s.evr := rfl
@[simp] theorem State.setValve_cans (s : State) (m : Nat) (v : Valve) : (s.setValve m v).cans = s.cans := rfl
@[simp] theorem State.setValve_canTsHi (s : State) (m : Nat) (v : Valve) : (s.setValve m v).canTsHi = s.canTsHi := rfl
@[simp] theorem State.setValve_mem (s : State) (m : Nat) (v : Valve) : (s.setValve m v).mem = s.mem := rfl
@[simp] theorem State.setValve_secu (s : State) (m : Nat) (v : Valve) : (s.setValve m v).secu = s.secu := rfl
@[simp] theorem State.setValve_readout (s : State) (m : Nat) (v : Valve) : (s.setValve m v).readout = s.readout := rfl
@[simp] theorem State.setValve_free (s : State) (m : Nat) (v : Valve) : (s.setValve m v).free = s.free := rfl
@[simp] theorem State.setValve_pending (s : State) (m : Nat) (v : Valve) : (s.setValve m v).pending = s.pending := rfl

/-! ### setGrp -/

@[simp] theorem State.setGrp_now (s : State) (g : Nat) (v : Grp) : (s.setGrp g v).now = s.now := rfl
@[simp] theorem State.setGrp_supply (s : State) (g : Nat) (v : Grp) : (s.setGrp g v).supply = s.supply := rfl
@[simp] theorem State.setGrp_regs (s : State) (g : Nat) (v : Grp) : (s.setGrp g v).regs = s.regs := rfl
@[simp] theorem State.setGrp_lock (s : State) (g : Nat) (v : Grp) : (s.setGrp g v).lock = s.lock := rfl
@[simp] theorem State.setGrp_gaf (s : State) (g : Nat) (v : Grp) : (s.setGrp g v).gaf = s.gaf := rfl
@[simp] theorem State.setGrp_tbu (s : State) (g : Nat) (v : Grp) : (s.setGrp g v).tbu = s.tbu := rfl
@[simp] theorem State.setGrp_mod (s : State) (g : Nat) (v : Grp) : (s.setGrp g v).mod = s.mod := rfl
@[simp] theorem State.setGrp_trm (s : State) (g : Nat) (v : Grp) : (s.setGrp g v).trm = { s.trm with grps := put s.trm.grps g v } := rfl
@[simp] theorem State.setGrp_gdv (s : State) (g : Nat) (v : Grp) : (s.setGrp g v).gdv = s.gdv := rfl
@[simp] theorem State.setGrp_fb (s : State) (g : Nat) (v : Grp) : (s.setGrp g v).fb = s.fb := rfl
@[simp] theorem State.setGrp_lpe (s : State) (g : Nat) (v : Grp) : (s.setGrp g v).lpe = s.lpe := rfl
@[simp] theorem State.setGrp_cmus (s : State) (g : Nat) (v : Grp) : (s.setGrp g v).cmus = s.cmus := rfl
@[simp] theorem State.setGrp_gbx (s : State) (g : Nat) (v : Grp) : (s.setGrp g v).gbx = s.gbx := rfl
@[simp] theorem State.setGrp_sxe (s : State) (g : Nat) (v : Grp) : (s.setGrp g v).sxe = s.sxe := rfl
@[simp] theorem State.setGrp_vlvs (s : State) (g : Nat) (v : Grp) : (s.setGrp g v).vlvs = s.vlvs := rfl
@[simp] theorem State.setGrp_vlvPeak (s : State) (g : Nat) (v : Grp) : (s.setGrp g v).vlvPeak = s.vlvPeak := rfl
@[simp] theorem State.setGrp_rpl (s : State) (g : Nat) (v : Grp) : (s.setGrp g v).rpl = s.rpl := rfl
@[simp] theorem State.setGrp_rplLast (s : State) (g : Nat) (v : Grp) : (s.setGrp g v).rplLast = s.rplLast := rfl
@[simp] theorem State.setGrp_rails (s : State) (g : Nat) (v : Grp) : (s.setGrp g v).rails = s.rails := rfl
@[simp] theorem State.setGrp_aon (s : State) (g : Nat) (v : Grp) : (s.setGrp g v).aon = s.aon := rfl
@[simp] theorem State.setGrp_ppm (s : State) (g : Nat) (v : Grp) : (s.setGrp g v).ppm = s.ppm := rfl
@[simp] theorem State.setGrp_dcl (s : State) (g : Nat) (v : Grp) : (s.setGrp g v).dcl = s.dcl := rfl
@[simp] theorem State.setGrp_prec (s : State) (g : Nat) (v : Grp) : (s.setGrp g v).prec = s.prec := rfl
@[simp] theorem State.setGrp_thm (s : State) (g : Nat) (v : Grp) : (s.setGrp g v).thm = s.thm := rfl
@[simp] theorem State.setGrp_afe (s : State) (g : Nat) (v : Grp) : (s.setGrp g v).afe = s.afe := rfl
@[simp] theorem State.setGrp_saf (s : State) (g : Nat) (v : Grp) : (s.setGrp g v).saf = s.saf := rfl
@[simp] theorem State.setGrp_hif (s : State) (g : Nat) (v : Grp) : (s.setGrp g v).hif = s.hif := rfl
@[simp] theorem State.setGrp_mbx (s : State) (g : Nat) (v : Grp) : (s.setGrp g v).mbx = s.mbx := rfl
@[simp] theorem State.setGrp_evr (s : State) (g : Nat) (v : Grp) : (s.setGrp g v).evr = s.evr := rfl
@[simp] theorem State.setGrp_cans (s : State) (g : Nat) (v : Grp) : (s.setGrp g v).cans = s.cans := rfl
@[simp] theorem State.setGrp_canTsHi (s : State) (g : Nat) (v : Grp) : (s.setGrp g v).canTsHi = s.canTsHi := rfl
@[simp] theorem State.setGrp_mem (s : State) (g : Nat) (v : Grp) : (s.setGrp g v).mem = s.mem := rfl
@[simp] theorem State.setGrp_secu (s : State) (g : Nat) (v : Grp) : (s.setGrp g v).secu = s.secu := rfl
@[simp] theorem State.setGrp_readout (s : State) (g : Nat) (v : Grp) : (s.setGrp g v).readout = s.readout := rfl
@[simp] theorem State.setGrp_free (s : State) (g : Nat) (v : Grp) : (s.setGrp g v).free = s.free := rfl
@[simp] theorem State.setGrp_pending (s : State) (g : Nat) (v : Grp) : (s.setGrp g v).pending = s.pending := rfl

/-! ### setCh -/

@[simp] theorem State.setCh_now (s : State) (c : Nat) (v : Ch) : (s.setCh c v).now = s.now := rfl
@[simp] theorem State.setCh_supply (s : State) (c : Nat) (v : Ch) : (s.setCh c v).supply = s.supply := rfl
@[simp] theorem State.setCh_regs (s : State) (c : Nat) (v : Ch) : (s.setCh c v).regs = s.regs := rfl
@[simp] theorem State.setCh_lock (s : State) (c : Nat) (v : Ch) : (s.setCh c v).lock = s.lock := rfl
@[simp] theorem State.setCh_gaf (s : State) (c : Nat) (v : Ch) : (s.setCh c v).gaf = s.gaf := rfl
@[simp] theorem State.setCh_tbu (s : State) (c : Nat) (v : Ch) : (s.setCh c v).tbu = s.tbu := rfl
@[simp] theorem State.setCh_mod (s : State) (c : Nat) (v : Ch) : (s.setCh c v).mod = s.mod := rfl
@[simp] theorem State.setCh_trm (s : State) (c : Nat) (v : Ch) : (s.setCh c v).trm = s.trm := rfl
@[simp] theorem State.setCh_gdv (s : State) (c : Nat) (v : Ch) : (s.setCh c v).gdv = { s.gdv with chs := put s.gdv.chs c v } := rfl
@[simp] theorem State.setCh_fb (s : State) (c : Nat) (v : Ch) : (s.setCh c v).fb = s.fb := rfl
@[simp] theorem State.setCh_lpe (s : State) (c : Nat) (v : Ch) : (s.setCh c v).lpe = s.lpe := rfl
@[simp] theorem State.setCh_cmus (s : State) (c : Nat) (v : Ch) : (s.setCh c v).cmus = s.cmus := rfl
@[simp] theorem State.setCh_gbx (s : State) (c : Nat) (v : Ch) : (s.setCh c v).gbx = s.gbx := rfl
@[simp] theorem State.setCh_sxe (s : State) (c : Nat) (v : Ch) : (s.setCh c v).sxe = s.sxe := rfl
@[simp] theorem State.setCh_vlvs (s : State) (c : Nat) (v : Ch) : (s.setCh c v).vlvs = s.vlvs := rfl
@[simp] theorem State.setCh_vlvPeak (s : State) (c : Nat) (v : Ch) : (s.setCh c v).vlvPeak = s.vlvPeak := rfl
@[simp] theorem State.setCh_rpl (s : State) (c : Nat) (v : Ch) : (s.setCh c v).rpl = s.rpl := rfl
@[simp] theorem State.setCh_rplLast (s : State) (c : Nat) (v : Ch) : (s.setCh c v).rplLast = s.rplLast := rfl
@[simp] theorem State.setCh_rails (s : State) (c : Nat) (v : Ch) : (s.setCh c v).rails = s.rails := rfl
@[simp] theorem State.setCh_aon (s : State) (c : Nat) (v : Ch) : (s.setCh c v).aon = s.aon := rfl
@[simp] theorem State.setCh_ppm (s : State) (c : Nat) (v : Ch) : (s.setCh c v).ppm = s.ppm := rfl
@[simp] theorem State.setCh_dcl (s : State) (c : Nat) (v : Ch) : (s.setCh c v).dcl = s.dcl := rfl
@[simp] theorem State.setCh_prec (s : State) (c : Nat) (v : Ch) : (s.setCh c v).prec = s.prec := rfl
@[simp] theorem State.setCh_thm (s : State) (c : Nat) (v : Ch) : (s.setCh c v).thm = s.thm := rfl
@[simp] theorem State.setCh_afe (s : State) (c : Nat) (v : Ch) : (s.setCh c v).afe = s.afe := rfl
@[simp] theorem State.setCh_saf (s : State) (c : Nat) (v : Ch) : (s.setCh c v).saf = s.saf := rfl
@[simp] theorem State.setCh_hif (s : State) (c : Nat) (v : Ch) : (s.setCh c v).hif = s.hif := rfl
@[simp] theorem State.setCh_mbx (s : State) (c : Nat) (v : Ch) : (s.setCh c v).mbx = s.mbx := rfl
@[simp] theorem State.setCh_evr (s : State) (c : Nat) (v : Ch) : (s.setCh c v).evr = s.evr := rfl
@[simp] theorem State.setCh_cans (s : State) (c : Nat) (v : Ch) : (s.setCh c v).cans = s.cans := rfl
@[simp] theorem State.setCh_canTsHi (s : State) (c : Nat) (v : Ch) : (s.setCh c v).canTsHi = s.canTsHi := rfl
@[simp] theorem State.setCh_mem (s : State) (c : Nat) (v : Ch) : (s.setCh c v).mem = s.mem := rfl
@[simp] theorem State.setCh_secu (s : State) (c : Nat) (v : Ch) : (s.setCh c v).secu = s.secu := rfl
@[simp] theorem State.setCh_readout (s : State) (c : Nat) (v : Ch) : (s.setCh c v).readout = s.readout := rfl
@[simp] theorem State.setCh_free (s : State) (c : Nat) (v : Ch) : (s.setCh c v).free = s.free := rfl
@[simp] theorem State.setCh_pending (s : State) (c : Nat) (v : Ch) : (s.setCh c v).pending = s.pending := rfl

/-! ### setPfi -/

@[simp] theorem State.setPfi_now (s : State) (i : Nat) (v : Pfi) : (s.setPfi i v).now = s.now := rfl
@[simp] theorem State.setPfi_supply (s : State) (i : Nat) (v : Pfi) : (s.setPfi i v).supply = s.supply := rfl
@[simp] theorem State.setPfi_regs (s : State) (i : Nat) (v : Pfi) : (s.setPfi i v).regs = s.regs := rfl
@[simp] theorem State.setPfi_lock (s : State) (i : Nat) (v : Pfi) : (s.setPfi i v).lock = s.lock := rfl
@[simp] theorem State.setPfi_gaf (s : State) (i : Nat) (v : Pfi) : (s.setPfi i v).gaf = s.gaf := rfl
@[simp] theorem State.setPfi_tbu (s : State) (i : Nat) (v : Pfi) : (s.setPfi i v).tbu = s.tbu := rfl
@[simp] theorem State.setPfi_mod (s : State) (i : Nat) (v : Pfi) : (s.setPfi i v).mod = s.mod := rfl
@[simp] theorem State.setPfi_trm (s : State) (i : Nat) (v : Pfi) : (s.setPfi i v).trm = s.trm := rfl
@[simp] theorem State.setPfi_gdv (s : State) (i : Nat) (v : Pfi) : (s.setPfi i v).gdv = s.gdv := rfl
@[simp] theorem State.setPfi_fb (s : State) (i : Nat) (v : Pfi) : (s.setPfi i v).fb = { s.fb with pfis := put s.fb.pfis i v } := rfl
@[simp] theorem State.setPfi_lpe (s : State) (i : Nat) (v : Pfi) : (s.setPfi i v).lpe = s.lpe := rfl
@[simp] theorem State.setPfi_cmus (s : State) (i : Nat) (v : Pfi) : (s.setPfi i v).cmus = s.cmus := rfl
@[simp] theorem State.setPfi_gbx (s : State) (i : Nat) (v : Pfi) : (s.setPfi i v).gbx = s.gbx := rfl
@[simp] theorem State.setPfi_sxe (s : State) (i : Nat) (v : Pfi) : (s.setPfi i v).sxe = s.sxe := rfl
@[simp] theorem State.setPfi_vlvs (s : State) (i : Nat) (v : Pfi) : (s.setPfi i v).vlvs = s.vlvs := rfl
@[simp] theorem State.setPfi_vlvPeak (s : State) (i : Nat) (v : Pfi) : (s.setPfi i v).vlvPeak = s.vlvPeak := rfl
@[simp] theorem State.setPfi_rpl (s : State) (i : Nat) (v : Pfi) : (s.setPfi i v).rpl = s.rpl := rfl
@[simp] theorem State.setPfi_rplLast (s : State) (i : Nat) (v : Pfi) : (s.setPfi i v).rplLast = s.rplLast := rfl
@[simp] theorem State.setPfi_rails (s : State) (i : Nat) (v : Pfi) : (s.setPfi i v).rails = s.rails := rfl
@[simp] theorem State.setPfi_aon (s : State) (i : Nat) (v : Pfi) : (s.setPfi i v).aon = s.aon := rfl
@[simp] theorem State.setPfi_ppm (s : State) (i : Nat) (v : Pfi) : (s.setPfi i v).ppm = s.ppm := rfl
@[simp] theorem State.setPfi_dcl (s : State) (i : Nat) (v : Pfi) : (s.setPfi i v).dcl = s.dcl := rfl
@[simp] theorem State.setPfi_prec (s : State) (i : Nat) (v : Pfi) : (s.setPfi i v).prec = s.prec := rfl
@[simp] theorem State.setPfi_thm (s : State) (i : Nat) (v : Pfi) : (s.setPfi i v).thm = s.thm := rfl
@[simp] theorem State.setPfi_afe (s : State) (i : Nat) (v : Pfi) : (s.setPfi i v).afe = s.afe := rfl
@[simp] theorem State.setPfi_saf (s : State) (i : Nat) (v : Pfi) : (s.setPfi i v).saf = s.saf := rfl
@[simp] theorem State.setPfi_hif (s : State) (i : Nat) (v : Pfi) : (s.setPfi i v).hif = s.hif := rfl
@[simp] theorem State.setPfi_mbx (s : State) (i : Nat) (v : Pfi) : (s.setPfi i v).mbx = s.mbx := rfl
@[simp] theorem State.setPfi_evr (s : State) (i : Nat) (v : Pfi) : (s.setPfi i v).evr = s.evr := rfl
@[simp] theorem State.setPfi_cans (s : State) (i : Nat) (v : Pfi) : (s.setPfi i v).cans = s.cans := rfl
@[simp] theorem State.setPfi_canTsHi (s : State) (i : Nat) (v : Pfi) : (s.setPfi i v).canTsHi = s.canTsHi := rfl
@[simp] theorem State.setPfi_mem (s : State) (i : Nat) (v : Pfi) : (s.setPfi i v).mem = s.mem := rfl
@[simp] theorem State.setPfi_secu (s : State) (i : Nat) (v : Pfi) : (s.setPfi i v).secu = s.secu := rfl
@[simp] theorem State.setPfi_readout (s : State) (i : Nat) (v : Pfi) : (s.setPfi i v).readout = s.readout := rfl
@[simp] theorem State.setPfi_free (s : State) (i : Nat) (v : Pfi) : (s.setPfi i v).free = s.free := rfl
@[simp] theorem State.setPfi_pending (s : State) (i : Nat) (v : Pfi) : (s.setPfi i v).pending = s.pending := rfl

/-! ### setRsv -/

@[simp] theorem State.setRsv_now (s : State) (r : Nat) (v : Rsv) : (s.setRsv r v).now = s.now := rfl
@[simp] theorem State.setRsv_supply (s : State) (r : Nat) (v : Rsv) : (s.setRsv r v).supply = s.supply := rfl
@[simp] theorem State.setRsv_regs (s : State) (r : Nat) (v : Rsv) : (s.setRsv r v).regs = s.regs := rfl
@[simp] theorem State.setRsv_lock (s : State) (r : Nat) (v : Rsv) : (s.setRsv r v).lock = s.lock := rfl
@[simp] theorem State.setRsv_gaf (s : State) (r : Nat) (v : Rsv) : (s.setRsv r v).gaf = s.gaf := rfl
@[simp] theorem State.setRsv_tbu (s : State) (r : Nat) (v : Rsv) : (s.setRsv r v).tbu = s.tbu := rfl
@[simp] theorem State.setRsv_mod (s : State) (r : Nat) (v : Rsv) : (s.setRsv r v).mod = s.mod := rfl
@[simp] theorem State.setRsv_trm (s : State) (r : Nat) (v : Rsv) : (s.setRsv r v).trm = s.trm := rfl
@[simp] theorem State.setRsv_gdv (s : State) (r : Nat) (v : Rsv) : (s.setRsv r v).gdv = s.gdv := rfl
@[simp] theorem State.setRsv_fb (s : State) (r : Nat) (v : Rsv) : (s.setRsv r v).fb = { s.fb with rsvs := put s.fb.rsvs r v } := rfl
@[simp] theorem State.setRsv_lpe (s : State) (r : Nat) (v : Rsv) : (s.setRsv r v).lpe = s.lpe := rfl
@[simp] theorem State.setRsv_cmus (s : State) (r : Nat) (v : Rsv) : (s.setRsv r v).cmus = s.cmus := rfl
@[simp] theorem State.setRsv_gbx (s : State) (r : Nat) (v : Rsv) : (s.setRsv r v).gbx = s.gbx := rfl
@[simp] theorem State.setRsv_sxe (s : State) (r : Nat) (v : Rsv) : (s.setRsv r v).sxe = s.sxe := rfl
@[simp] theorem State.setRsv_vlvs (s : State) (r : Nat) (v : Rsv) : (s.setRsv r v).vlvs = s.vlvs := rfl
@[simp] theorem State.setRsv_vlvPeak (s : State) (r : Nat) (v : Rsv) : (s.setRsv r v).vlvPeak = s.vlvPeak := rfl
@[simp] theorem State.setRsv_rpl (s : State) (r : Nat) (v : Rsv) : (s.setRsv r v).rpl = s.rpl := rfl
@[simp] theorem State.setRsv_rplLast (s : State) (r : Nat) (v : Rsv) : (s.setRsv r v).rplLast = s.rplLast := rfl
@[simp] theorem State.setRsv_rails (s : State) (r : Nat) (v : Rsv) : (s.setRsv r v).rails = s.rails := rfl
@[simp] theorem State.setRsv_aon (s : State) (r : Nat) (v : Rsv) : (s.setRsv r v).aon = s.aon := rfl
@[simp] theorem State.setRsv_ppm (s : State) (r : Nat) (v : Rsv) : (s.setRsv r v).ppm = s.ppm := rfl
@[simp] theorem State.setRsv_dcl (s : State) (r : Nat) (v : Rsv) : (s.setRsv r v).dcl = s.dcl := rfl
@[simp] theorem State.setRsv_prec (s : State) (r : Nat) (v : Rsv) : (s.setRsv r v).prec = s.prec := rfl
@[simp] theorem State.setRsv_thm (s : State) (r : Nat) (v : Rsv) : (s.setRsv r v).thm = s.thm := rfl
@[simp] theorem State.setRsv_afe (s : State) (r : Nat) (v : Rsv) : (s.setRsv r v).afe = s.afe := rfl
@[simp] theorem State.setRsv_saf (s : State) (r : Nat) (v : Rsv) : (s.setRsv r v).saf = s.saf := rfl
@[simp] theorem State.setRsv_hif (s : State) (r : Nat) (v : Rsv) : (s.setRsv r v).hif = s.hif := rfl
@[simp] theorem State.setRsv_mbx (s : State) (r : Nat) (v : Rsv) : (s.setRsv r v).mbx = s.mbx := rfl
@[simp] theorem State.setRsv_evr (s : State) (r : Nat) (v : Rsv) : (s.setRsv r v).evr = s.evr := rfl
@[simp] theorem State.setRsv_cans (s : State) (r : Nat) (v : Rsv) : (s.setRsv r v).cans = s.cans := rfl
@[simp] theorem State.setRsv_canTsHi (s : State) (r : Nat) (v : Rsv) : (s.setRsv r v).canTsHi = s.canTsHi := rfl
@[simp] theorem State.setRsv_mem (s : State) (r : Nat) (v : Rsv) : (s.setRsv r v).mem = s.mem := rfl
@[simp] theorem State.setRsv_secu (s : State) (r : Nat) (v : Rsv) : (s.setRsv r v).secu = s.secu := rfl
@[simp] theorem State.setRsv_readout (s : State) (r : Nat) (v : Rsv) : (s.setRsv r v).readout = s.readout := rfl
@[simp] theorem State.setRsv_free (s : State) (r : Nat) (v : Rsv) : (s.setRsv r v).free = s.free := rfl
@[simp] theorem State.setRsv_pending (s : State) (r : Nat) (v : Rsv) : (s.setRsv r v).pending = s.pending := rfl

/-! ### setCmp -/

@[simp] theorem State.setCmp_now (s : State) (j : Nat) (v : Cmp) : (s.setCmp j v).now = s.now := rfl
@[simp] theorem State.setCmp_supply (s : State) (j : Nat) (v : Cmp) : (s.setCmp j v).supply = s.supply := rfl
@[simp] theorem State.setCmp_regs (s : State) (j : Nat) (v : Cmp) : (s.setCmp j v).regs = s.regs := rfl
@[simp] theorem State.setCmp_lock (s : State) (j : Nat) (v : Cmp) : (s.setCmp j v).lock = s.lock := rfl
@[simp] theorem State.setCmp_gaf (s : State) (j : Nat) (v : Cmp) : (s.setCmp j v).gaf = s.gaf := rfl
@[simp] theorem State.setCmp_tbu (s : State) (j : Nat) (v : Cmp) : (s.setCmp j v).tbu = s.tbu := rfl
@[simp] theorem State.setCmp_mod (s : State) (j : Nat) (v : Cmp) : (s.setCmp j v).mod = s.mod := rfl
@[simp] theorem State.setCmp_trm (s : State) (j : Nat) (v : Cmp) : (s.setCmp j v).trm = s.trm := rfl
@[simp] theorem State.setCmp_gdv (s : State) (j : Nat) (v : Cmp) : (s.setCmp j v).gdv = s.gdv := rfl
@[simp] theorem State.setCmp_fb (s : State) (j : Nat) (v : Cmp) : (s.setCmp j v).fb = { s.fb with cmps := put s.fb.cmps j v } := rfl
@[simp] theorem State.setCmp_lpe (s : State) (j : Nat) (v : Cmp) : (s.setCmp j v).lpe = s.lpe := rfl
@[simp] theorem State.setCmp_cmus (s : State) (j : Nat) (v : Cmp) : (s.setCmp j v).cmus = s.cmus := rfl
@[simp] theorem State.setCmp_gbx (s : State) (j : Nat) (v : Cmp) : (s.setCmp j v).gbx = s.gbx := rfl
@[simp] theorem State.setCmp_sxe (s : State) (j : Nat) (v : Cmp) : (s.setCmp j v).sxe = s.sxe := rfl
@[simp] theorem State.setCmp_vlvs (s : State) (j : Nat) (v : Cmp) : (s.setCmp j v).vlvs = s.vlvs := rfl
@[simp] theorem State.setCmp_vlvPeak (s : State) (j : Nat) (v : Cmp) : (s.setCmp j v).vlvPeak = s.vlvPeak := rfl
@[simp] theorem State.setCmp_rpl (s : State) (j : Nat) (v : Cmp) : (s.setCmp j v).rpl = s.rpl := rfl
@[simp] theorem State.setCmp_rplLast (s : State) (j : Nat) (v : Cmp) : (s.setCmp j v).rplLast = s.rplLast := rfl
@[simp] theorem State.setCmp_rails (s : State) (j : Nat) (v : Cmp) : (s.setCmp j v).rails = s.rails := rfl
@[simp] theorem State.setCmp_aon (s : State) (j : Nat) (v : Cmp) : (s.setCmp j v).aon = s.aon := rfl
@[simp] theorem State.setCmp_ppm (s : State) (j : Nat) (v : Cmp) : (s.setCmp j v).ppm = s.ppm := rfl
@[simp] theorem State.setCmp_dcl (s : State) (j : Nat) (v : Cmp) : (s.setCmp j v).dcl = s.dcl := rfl
@[simp] theorem State.setCmp_prec (s : State) (j : Nat) (v : Cmp) : (s.setCmp j v).prec = s.prec := rfl
@[simp] theorem State.setCmp_thm (s : State) (j : Nat) (v : Cmp) : (s.setCmp j v).thm = s.thm := rfl
@[simp] theorem State.setCmp_afe (s : State) (j : Nat) (v : Cmp) : (s.setCmp j v).afe = s.afe := rfl
@[simp] theorem State.setCmp_saf (s : State) (j : Nat) (v : Cmp) : (s.setCmp j v).saf = s.saf := rfl
@[simp] theorem State.setCmp_hif (s : State) (j : Nat) (v : Cmp) : (s.setCmp j v).hif = s.hif := rfl
@[simp] theorem State.setCmp_mbx (s : State) (j : Nat) (v : Cmp) : (s.setCmp j v).mbx = s.mbx := rfl
@[simp] theorem State.setCmp_evr (s : State) (j : Nat) (v : Cmp) : (s.setCmp j v).evr = s.evr := rfl
@[simp] theorem State.setCmp_cans (s : State) (j : Nat) (v : Cmp) : (s.setCmp j v).cans = s.cans := rfl
@[simp] theorem State.setCmp_canTsHi (s : State) (j : Nat) (v : Cmp) : (s.setCmp j v).canTsHi = s.canTsHi := rfl
@[simp] theorem State.setCmp_mem (s : State) (j : Nat) (v : Cmp) : (s.setCmp j v).mem = s.mem := rfl
@[simp] theorem State.setCmp_secu (s : State) (j : Nat) (v : Cmp) : (s.setCmp j v).secu = s.secu := rfl
@[simp] theorem State.setCmp_readout (s : State) (j : Nat) (v : Cmp) : (s.setCmp j v).readout = s.readout := rfl
@[simp] theorem State.setCmp_free (s : State) (j : Nat) (v : Cmp) : (s.setCmp j v).free = s.free := rfl
@[simp] theorem State.setCmp_pending (s : State) (j : Nat) (v : Cmp) : (s.setCmp j v).pending = s.pending := rfl

/-! ### setCtx -/

@[simp] theorem State.setCtx_now (s : State) (c : Nat) (v : Ctx) : (s.setCtx c v).now = s.now := rfl
@[simp] theorem State.setCtx_supply (s : State) (c : Nat) (v : Ctx) : (s.setCtx c v).supply = s.supply := rfl
@[simp] theorem State.setCtx_regs (s : State) (c : Nat) (v : Ctx) : (s.setCtx c v).regs = s.regs := rfl
@[simp] theorem State.setCtx_lock (s : State) (c : Nat) (v : Ctx) : (s.setCtx c v).lock = s.lock := rfl
@[simp] theorem State.setCtx_gaf (s : State) (c : Nat) (v : Ctx) : (s.setCtx c v).gaf = s.gaf := rfl
@[simp] theorem State.setCtx_tbu (s : State) (c : Nat) (v : Ctx) : (s.setCtx c v).tbu = s.tbu := rfl
@[simp] theorem State.setCtx_mod (s : State) (c : Nat) (v : Ctx) : (s.setCtx c v).mod = s.mod := rfl
@[simp] theorem State.setCtx_trm (s : State) (c : Nat) (v : Ctx) : (s.setCtx c v).trm = s.trm := rfl
@[simp] theorem State.setCtx_gdv (s : State) (c : Nat) (v : Ctx) : (s.setCtx c v).gdv = s.gdv := rfl
@[simp] theorem State.setCtx_fb (s : State) (c : Nat) (v : Ctx) : (s.setCtx c v).fb = s.fb := rfl
@[simp] theorem State.setCtx_lpe (s : State) (c : Nat) (v : Ctx) : (s.setCtx c v).lpe = { s.lpe with ctxs := put s.lpe.ctxs c v } := rfl
@[simp] theorem State.setCtx_cmus (s : State) (c : Nat) (v : Ctx) : (s.setCtx c v).cmus = s.cmus := rfl
@[simp] theorem State.setCtx_gbx (s : State) (c : Nat) (v : Ctx) : (s.setCtx c v).gbx = s.gbx := rfl
@[simp] theorem State.setCtx_sxe (s : State) (c : Nat) (v : Ctx) : (s.setCtx c v).sxe = s.sxe := rfl
@[simp] theorem State.setCtx_vlvs (s : State) (c : Nat) (v : Ctx) : (s.setCtx c v).vlvs = s.vlvs := rfl
@[simp] theorem State.setCtx_vlvPeak (s : State) (c : Nat) (v : Ctx) : (s.setCtx c v).vlvPeak = s.vlvPeak := rfl
@[simp] theorem State.setCtx_rpl (s : State) (c : Nat) (v : Ctx) : (s.setCtx c v).rpl = s.rpl := rfl
@[simp] theorem State.setCtx_rplLast (s : State) (c : Nat) (v : Ctx) : (s.setCtx c v).rplLast = s.rplLast := rfl
@[simp] theorem State.setCtx_rails (s : State) (c : Nat) (v : Ctx) : (s.setCtx c v).rails = s.rails := rfl
@[simp] theorem State.setCtx_aon (s : State) (c : Nat) (v : Ctx) : (s.setCtx c v).aon = s.aon := rfl
@[simp] theorem State.setCtx_ppm (s : State) (c : Nat) (v : Ctx) : (s.setCtx c v).ppm = s.ppm := rfl
@[simp] theorem State.setCtx_dcl (s : State) (c : Nat) (v : Ctx) : (s.setCtx c v).dcl = s.dcl := rfl
@[simp] theorem State.setCtx_prec (s : State) (c : Nat) (v : Ctx) : (s.setCtx c v).prec = s.prec := rfl
@[simp] theorem State.setCtx_thm (s : State) (c : Nat) (v : Ctx) : (s.setCtx c v).thm = s.thm := rfl
@[simp] theorem State.setCtx_afe (s : State) (c : Nat) (v : Ctx) : (s.setCtx c v).afe = s.afe := rfl
@[simp] theorem State.setCtx_saf (s : State) (c : Nat) (v : Ctx) : (s.setCtx c v).saf = s.saf := rfl
@[simp] theorem State.setCtx_hif (s : State) (c : Nat) (v : Ctx) : (s.setCtx c v).hif = s.hif := rfl
@[simp] theorem State.setCtx_mbx (s : State) (c : Nat) (v : Ctx) : (s.setCtx c v).mbx = s.mbx := rfl
@[simp] theorem State.setCtx_evr (s : State) (c : Nat) (v : Ctx) : (s.setCtx c v).evr = s.evr := rfl
@[simp] theorem State.setCtx_cans (s : State) (c : Nat) (v : Ctx) : (s.setCtx c v).cans = s.cans := rfl
@[simp] theorem State.setCtx_canTsHi (s : State) (c : Nat) (v : Ctx) : (s.setCtx c v).canTsHi = s.canTsHi := rfl
@[simp] theorem State.setCtx_mem (s : State) (c : Nat) (v : Ctx) : (s.setCtx c v).mem = s.mem := rfl
@[simp] theorem State.setCtx_secu (s : State) (c : Nat) (v : Ctx) : (s.setCtx c v).secu = s.secu := rfl
@[simp] theorem State.setCtx_readout (s : State) (c : Nat) (v : Ctx) : (s.setCtx c v).readout = s.readout := rfl
@[simp] theorem State.setCtx_free (s : State) (c : Nat) (v : Ctx) : (s.setCtx c v).free = s.free := rfl
@[simp] theorem State.setCtx_pending (s : State) (c : Nat) (v : Ctx) : (s.setCtx c v).pending = s.pending := rfl

/-! ### setPgn -/

@[simp] theorem State.setPgn_now (s : State) (u : Nat) (v : Pgn) : (s.setPgn u v).now = s.now := rfl
@[simp] theorem State.setPgn_supply (s : State) (u : Nat) (v : Pgn) : (s.setPgn u v).supply = s.supply := rfl
@[simp] theorem State.setPgn_regs (s : State) (u : Nat) (v : Pgn) : (s.setPgn u v).regs = s.regs := rfl
@[simp] theorem State.setPgn_lock (s : State) (u : Nat) (v : Pgn) : (s.setPgn u v).lock = s.lock := rfl
@[simp] theorem State.setPgn_gaf (s : State) (u : Nat) (v : Pgn) : (s.setPgn u v).gaf = s.gaf := rfl
@[simp] theorem State.setPgn_tbu (s : State) (u : Nat) (v : Pgn) : (s.setPgn u v).tbu = s.tbu := rfl
@[simp] theorem State.setPgn_mod (s : State) (u : Nat) (v : Pgn) : (s.setPgn u v).mod = s.mod := rfl
@[simp] theorem State.setPgn_trm (s : State) (u : Nat) (v : Pgn) : (s.setPgn u v).trm = s.trm := rfl
@[simp] theorem State.setPgn_gdv (s : State) (u : Nat) (v : Pgn) : (s.setPgn u v).gdv = s.gdv := rfl
@[simp] theorem State.setPgn_fb (s : State) (u : Nat) (v : Pgn) : (s.setPgn u v).fb = s.fb := rfl
@[simp] theorem State.setPgn_lpe (s : State) (u : Nat) (v : Pgn) : (s.setPgn u v).lpe = { s.lpe with pgns := put s.lpe.pgns u v } := rfl
@[simp] theorem State.setPgn_cmus (s : State) (u : Nat) (v : Pgn) : (s.setPgn u v).cmus = s.cmus := rfl
@[simp] theorem State.setPgn_gbx (s : State) (u : Nat) (v : Pgn) : (s.setPgn u v).gbx = s.gbx := rfl
@[simp] theorem State.setPgn_sxe (s : State) (u : Nat) (v : Pgn) : (s.setPgn u v).sxe = s.sxe := rfl
@[simp] theorem State.setPgn_vlvs (s : State) (u : Nat) (v : Pgn) : (s.setPgn u v).vlvs = s.vlvs := rfl
@[simp] theorem State.setPgn_vlvPeak (s : State) (u : Nat) (v : Pgn) : (s.setPgn u v).vlvPeak = s.vlvPeak := rfl
@[simp] theorem State.setPgn_rpl (s : State) (u : Nat) (v : Pgn) : (s.setPgn u v).rpl = s.rpl := rfl
@[simp] theorem State.setPgn_rplLast (s : State) (u : Nat) (v : Pgn) : (s.setPgn u v).rplLast = s.rplLast := rfl
@[simp] theorem State.setPgn_rails (s : State) (u : Nat) (v : Pgn) : (s.setPgn u v).rails = s.rails := rfl
@[simp] theorem State.setPgn_aon (s : State) (u : Nat) (v : Pgn) : (s.setPgn u v).aon = s.aon := rfl
@[simp] theorem State.setPgn_ppm (s : State) (u : Nat) (v : Pgn) : (s.setPgn u v).ppm = s.ppm := rfl
@[simp] theorem State.setPgn_dcl (s : State) (u : Nat) (v : Pgn) : (s.setPgn u v).dcl = s.dcl := rfl
@[simp] theorem State.setPgn_prec (s : State) (u : Nat) (v : Pgn) : (s.setPgn u v).prec = s.prec := rfl
@[simp] theorem State.setPgn_thm (s : State) (u : Nat) (v : Pgn) : (s.setPgn u v).thm = s.thm := rfl
@[simp] theorem State.setPgn_afe (s : State) (u : Nat) (v : Pgn) : (s.setPgn u v).afe = s.afe := rfl
@[simp] theorem State.setPgn_saf (s : State) (u : Nat) (v : Pgn) : (s.setPgn u v).saf = s.saf := rfl
@[simp] theorem State.setPgn_hif (s : State) (u : Nat) (v : Pgn) : (s.setPgn u v).hif = s.hif := rfl
@[simp] theorem State.setPgn_mbx (s : State) (u : Nat) (v : Pgn) : (s.setPgn u v).mbx = s.mbx := rfl
@[simp] theorem State.setPgn_evr (s : State) (u : Nat) (v : Pgn) : (s.setPgn u v).evr = s.evr := rfl
@[simp] theorem State.setPgn_cans (s : State) (u : Nat) (v : Pgn) : (s.setPgn u v).cans = s.cans := rfl
@[simp] theorem State.setPgn_canTsHi (s : State) (u : Nat) (v : Pgn) : (s.setPgn u v).canTsHi = s.canTsHi := rfl
@[simp] theorem State.setPgn_mem (s : State) (u : Nat) (v : Pgn) : (s.setPgn u v).mem = s.mem := rfl
@[simp] theorem State.setPgn_secu (s : State) (u : Nat) (v : Pgn) : (s.setPgn u v).secu = s.secu := rfl
@[simp] theorem State.setPgn_readout (s : State) (u : Nat) (v : Pgn) : (s.setPgn u v).readout = s.readout := rfl
@[simp] theorem State.setPgn_free (s : State) (u : Nat) (v : Pgn) : (s.setPgn u v).free = s.free := rfl
@[simp] theorem State.setPgn_pending (s : State) (u : Nat) (v : Pgn) : (s.setPgn u v).pending = s.pending := rfl

/-! ### setLw -/

@[simp] theorem State.setLw_now (s : State) (k v : Nat) : (s.setLw k v).now = s.now := rfl
@[simp] theorem State.setLw_supply (s : State) (k v : Nat) : (s.setLw k v).supply = s.supply := rfl
@[simp] theorem State.setLw_regs (s : State) (k v : Nat) : (s.setLw k v).regs = s.regs := rfl
@[simp] theorem State.setLw_lock (s : State) (k v : Nat) : (s.setLw k v).lock = s.lock := rfl
@[simp] theorem State.setLw_gaf (s : State) (k v : Nat) : (s.setLw k v).gaf = s.gaf := rfl
@[simp] theorem State.setLw_tbu (s : State) (k v : Nat) : (s.setLw k v).tbu = s.tbu := rfl
@[simp] theorem State.setLw_mod (s : State) (k v : Nat) : (s.setLw k v).mod = s.mod := rfl
@[simp] theorem State.setLw_trm (s : State) (k v : Nat) : (s.setLw k v).trm = s.trm := rfl
@[simp] theorem State.setLw_gdv (s : State) (k v : Nat) : (s.setLw k v).gdv = s.gdv := rfl
@[simp] theorem State.setLw_fb (s : State) (k v : Nat) : (s.setLw k v).fb = s.fb := rfl
@[simp] theorem State.setLw_lpe (s : State) (k v : Nat) : (s.setLw k v).lpe = { s.lpe with win := put s.lpe.win k (BitVec.ofNat 32 v) } := rfl
@[simp] theorem State.setLw_cmus (s : State) (k v : Nat) : (s.setLw k v).cmus = s.cmus := rfl
@[simp] theorem State.setLw_gbx (s : State) (k v : Nat) : (s.setLw k v).gbx = s.gbx := rfl
@[simp] theorem State.setLw_sxe (s : State) (k v : Nat) : (s.setLw k v).sxe = s.sxe := rfl
@[simp] theorem State.setLw_vlvs (s : State) (k v : Nat) : (s.setLw k v).vlvs = s.vlvs := rfl
@[simp] theorem State.setLw_vlvPeak (s : State) (k v : Nat) : (s.setLw k v).vlvPeak = s.vlvPeak := rfl
@[simp] theorem State.setLw_rpl (s : State) (k v : Nat) : (s.setLw k v).rpl = s.rpl := rfl
@[simp] theorem State.setLw_rplLast (s : State) (k v : Nat) : (s.setLw k v).rplLast = s.rplLast := rfl
@[simp] theorem State.setLw_rails (s : State) (k v : Nat) : (s.setLw k v).rails = s.rails := rfl
@[simp] theorem State.setLw_aon (s : State) (k v : Nat) : (s.setLw k v).aon = s.aon := rfl
@[simp] theorem State.setLw_ppm (s : State) (k v : Nat) : (s.setLw k v).ppm = s.ppm := rfl
@[simp] theorem State.setLw_dcl (s : State) (k v : Nat) : (s.setLw k v).dcl = s.dcl := rfl
@[simp] theorem State.setLw_prec (s : State) (k v : Nat) : (s.setLw k v).prec = s.prec := rfl
@[simp] theorem State.setLw_thm (s : State) (k v : Nat) : (s.setLw k v).thm = s.thm := rfl
@[simp] theorem State.setLw_afe (s : State) (k v : Nat) : (s.setLw k v).afe = s.afe := rfl
@[simp] theorem State.setLw_saf (s : State) (k v : Nat) : (s.setLw k v).saf = s.saf := rfl
@[simp] theorem State.setLw_hif (s : State) (k v : Nat) : (s.setLw k v).hif = s.hif := rfl
@[simp] theorem State.setLw_mbx (s : State) (k v : Nat) : (s.setLw k v).mbx = s.mbx := rfl
@[simp] theorem State.setLw_evr (s : State) (k v : Nat) : (s.setLw k v).evr = s.evr := rfl
@[simp] theorem State.setLw_cans (s : State) (k v : Nat) : (s.setLw k v).cans = s.cans := rfl
@[simp] theorem State.setLw_canTsHi (s : State) (k v : Nat) : (s.setLw k v).canTsHi = s.canTsHi := rfl
@[simp] theorem State.setLw_mem (s : State) (k v : Nat) : (s.setLw k v).mem = s.mem := rfl
@[simp] theorem State.setLw_secu (s : State) (k v : Nat) : (s.setLw k v).secu = s.secu := rfl
@[simp] theorem State.setLw_readout (s : State) (k v : Nat) : (s.setLw k v).readout = s.readout := rfl
@[simp] theorem State.setLw_free (s : State) (k v : Nat) : (s.setLw k v).free = s.free := rfl
@[simp] theorem State.setLw_pending (s : State) (k v : Nat) : (s.setLw k v).pending = s.pending := rfl

/-! ### setCmu -/

@[simp] theorem State.setCmu_now (s : State) (u : Nat) (v : Cmu) : (s.setCmu u v).now = s.now := rfl
@[simp] theorem State.setCmu_supply (s : State) (u : Nat) (v : Cmu) : (s.setCmu u v).supply = s.supply := rfl
@[simp] theorem State.setCmu_regs (s : State) (u : Nat) (v : Cmu) : (s.setCmu u v).regs = s.regs := rfl
@[simp] theorem State.setCmu_lock (s : State) (u : Nat) (v : Cmu) : (s.setCmu u v).lock = s.lock := rfl
@[simp] theorem State.setCmu_gaf (s : State) (u : Nat) (v : Cmu) : (s.setCmu u v).gaf = s.gaf := rfl
@[simp] theorem State.setCmu_tbu (s : State) (u : Nat) (v : Cmu) : (s.setCmu u v).tbu = s.tbu := rfl
@[simp] theorem State.setCmu_mod (s : State) (u : Nat) (v : Cmu) : (s.setCmu u v).mod = s.mod := rfl
@[simp] theorem State.setCmu_trm (s : State) (u : Nat) (v : Cmu) : (s.setCmu u v).trm = s.trm := rfl
@[simp] theorem State.setCmu_gdv (s : State) (u : Nat) (v : Cmu) : (s.setCmu u v).gdv = s.gdv := rfl
@[simp] theorem State.setCmu_fb (s : State) (u : Nat) (v : Cmu) : (s.setCmu u v).fb = s.fb := rfl
@[simp] theorem State.setCmu_lpe (s : State) (u : Nat) (v : Cmu) : (s.setCmu u v).lpe = s.lpe := rfl
@[simp] theorem State.setCmu_cmus (s : State) (u : Nat) (v : Cmu) : (s.setCmu u v).cmus = put s.cmus u v := rfl
@[simp] theorem State.setCmu_gbx (s : State) (u : Nat) (v : Cmu) : (s.setCmu u v).gbx = s.gbx := rfl
@[simp] theorem State.setCmu_sxe (s : State) (u : Nat) (v : Cmu) : (s.setCmu u v).sxe = s.sxe := rfl
@[simp] theorem State.setCmu_vlvs (s : State) (u : Nat) (v : Cmu) : (s.setCmu u v).vlvs = s.vlvs := rfl
@[simp] theorem State.setCmu_vlvPeak (s : State) (u : Nat) (v : Cmu) : (s.setCmu u v).vlvPeak = s.vlvPeak := rfl
@[simp] theorem State.setCmu_rpl (s : State) (u : Nat) (v : Cmu) : (s.setCmu u v).rpl = s.rpl := rfl
@[simp] theorem State.setCmu_rplLast (s : State) (u : Nat) (v : Cmu) : (s.setCmu u v).rplLast = s.rplLast := rfl
@[simp] theorem State.setCmu_rails (s : State) (u : Nat) (v : Cmu) : (s.setCmu u v).rails = s.rails := rfl
@[simp] theorem State.setCmu_aon (s : State) (u : Nat) (v : Cmu) : (s.setCmu u v).aon = s.aon := rfl
@[simp] theorem State.setCmu_ppm (s : State) (u : Nat) (v : Cmu) : (s.setCmu u v).ppm = s.ppm := rfl
@[simp] theorem State.setCmu_dcl (s : State) (u : Nat) (v : Cmu) : (s.setCmu u v).dcl = s.dcl := rfl
@[simp] theorem State.setCmu_prec (s : State) (u : Nat) (v : Cmu) : (s.setCmu u v).prec = s.prec := rfl
@[simp] theorem State.setCmu_thm (s : State) (u : Nat) (v : Cmu) : (s.setCmu u v).thm = s.thm := rfl
@[simp] theorem State.setCmu_afe (s : State) (u : Nat) (v : Cmu) : (s.setCmu u v).afe = s.afe := rfl
@[simp] theorem State.setCmu_saf (s : State) (u : Nat) (v : Cmu) : (s.setCmu u v).saf = s.saf := rfl
@[simp] theorem State.setCmu_hif (s : State) (u : Nat) (v : Cmu) : (s.setCmu u v).hif = s.hif := rfl
@[simp] theorem State.setCmu_mbx (s : State) (u : Nat) (v : Cmu) : (s.setCmu u v).mbx = s.mbx := rfl
@[simp] theorem State.setCmu_evr (s : State) (u : Nat) (v : Cmu) : (s.setCmu u v).evr = s.evr := rfl
@[simp] theorem State.setCmu_cans (s : State) (u : Nat) (v : Cmu) : (s.setCmu u v).cans = s.cans := rfl
@[simp] theorem State.setCmu_canTsHi (s : State) (u : Nat) (v : Cmu) : (s.setCmu u v).canTsHi = s.canTsHi := rfl
@[simp] theorem State.setCmu_mem (s : State) (u : Nat) (v : Cmu) : (s.setCmu u v).mem = s.mem := rfl
@[simp] theorem State.setCmu_secu (s : State) (u : Nat) (v : Cmu) : (s.setCmu u v).secu = s.secu := rfl
@[simp] theorem State.setCmu_readout (s : State) (u : Nat) (v : Cmu) : (s.setCmu u v).readout = s.readout := rfl
@[simp] theorem State.setCmu_free (s : State) (u : Nat) (v : Cmu) : (s.setCmu u v).free = s.free := rfl
@[simp] theorem State.setCmu_pending (s : State) (u : Nat) (v : Cmu) : (s.setCmu u v).pending = s.pending := rfl

/-! ### setGbx -/

@[simp] theorem State.setGbx_now (s : State) (v : Gbx) : (s.setGbx v).now = s.now := rfl
@[simp] theorem State.setGbx_supply (s : State) (v : Gbx) : (s.setGbx v).supply = s.supply := rfl
@[simp] theorem State.setGbx_regs (s : State) (v : Gbx) : (s.setGbx v).regs = s.regs := rfl
@[simp] theorem State.setGbx_lock (s : State) (v : Gbx) : (s.setGbx v).lock = s.lock := rfl
@[simp] theorem State.setGbx_gaf (s : State) (v : Gbx) : (s.setGbx v).gaf = s.gaf := rfl
@[simp] theorem State.setGbx_tbu (s : State) (v : Gbx) : (s.setGbx v).tbu = s.tbu := rfl
@[simp] theorem State.setGbx_mod (s : State) (v : Gbx) : (s.setGbx v).mod = s.mod := rfl
@[simp] theorem State.setGbx_trm (s : State) (v : Gbx) : (s.setGbx v).trm = s.trm := rfl
@[simp] theorem State.setGbx_gdv (s : State) (v : Gbx) : (s.setGbx v).gdv = s.gdv := rfl
@[simp] theorem State.setGbx_fb (s : State) (v : Gbx) : (s.setGbx v).fb = s.fb := rfl
@[simp] theorem State.setGbx_lpe (s : State) (v : Gbx) : (s.setGbx v).lpe = s.lpe := rfl
@[simp] theorem State.setGbx_cmus (s : State) (v : Gbx) : (s.setGbx v).cmus = s.cmus := rfl
@[simp] theorem State.setGbx_gbx (s : State) (v : Gbx) : (s.setGbx v).gbx = v := rfl
@[simp] theorem State.setGbx_sxe (s : State) (v : Gbx) : (s.setGbx v).sxe = s.sxe := rfl
@[simp] theorem State.setGbx_vlvs (s : State) (v : Gbx) : (s.setGbx v).vlvs = s.vlvs := rfl
@[simp] theorem State.setGbx_vlvPeak (s : State) (v : Gbx) : (s.setGbx v).vlvPeak = s.vlvPeak := rfl
@[simp] theorem State.setGbx_rpl (s : State) (v : Gbx) : (s.setGbx v).rpl = s.rpl := rfl
@[simp] theorem State.setGbx_rplLast (s : State) (v : Gbx) : (s.setGbx v).rplLast = s.rplLast := rfl
@[simp] theorem State.setGbx_rails (s : State) (v : Gbx) : (s.setGbx v).rails = s.rails := rfl
@[simp] theorem State.setGbx_aon (s : State) (v : Gbx) : (s.setGbx v).aon = s.aon := rfl
@[simp] theorem State.setGbx_ppm (s : State) (v : Gbx) : (s.setGbx v).ppm = s.ppm := rfl
@[simp] theorem State.setGbx_dcl (s : State) (v : Gbx) : (s.setGbx v).dcl = s.dcl := rfl
@[simp] theorem State.setGbx_prec (s : State) (v : Gbx) : (s.setGbx v).prec = s.prec := rfl
@[simp] theorem State.setGbx_thm (s : State) (v : Gbx) : (s.setGbx v).thm = s.thm := rfl
@[simp] theorem State.setGbx_afe (s : State) (v : Gbx) : (s.setGbx v).afe = s.afe := rfl
@[simp] theorem State.setGbx_saf (s : State) (v : Gbx) : (s.setGbx v).saf = s.saf := rfl
@[simp] theorem State.setGbx_hif (s : State) (v : Gbx) : (s.setGbx v).hif = s.hif := rfl
@[simp] theorem State.setGbx_mbx (s : State) (v : Gbx) : (s.setGbx v).mbx = s.mbx := rfl
@[simp] theorem State.setGbx_evr (s : State) (v : Gbx) : (s.setGbx v).evr = s.evr := rfl
@[simp] theorem State.setGbx_cans (s : State) (v : Gbx) : (s.setGbx v).cans = s.cans := rfl
@[simp] theorem State.setGbx_canTsHi (s : State) (v : Gbx) : (s.setGbx v).canTsHi = s.canTsHi := rfl
@[simp] theorem State.setGbx_mem (s : State) (v : Gbx) : (s.setGbx v).mem = s.mem := rfl
@[simp] theorem State.setGbx_secu (s : State) (v : Gbx) : (s.setGbx v).secu = s.secu := rfl
@[simp] theorem State.setGbx_readout (s : State) (v : Gbx) : (s.setGbx v).readout = s.readout := rfl
@[simp] theorem State.setGbx_free (s : State) (v : Gbx) : (s.setGbx v).free = s.free := rfl
@[simp] theorem State.setGbx_pending (s : State) (v : Gbx) : (s.setGbx v).pending = s.pending := rfl

/-! ### setAct -/

@[simp] theorem State.setAct_now (s : State) (k : Nat) (v : Act) : (s.setAct k v).now = s.now := rfl
@[simp] theorem State.setAct_supply (s : State) (k : Nat) (v : Act) : (s.setAct k v).supply = s.supply := rfl
@[simp] theorem State.setAct_regs (s : State) (k : Nat) (v : Act) : (s.setAct k v).regs = s.regs := rfl
@[simp] theorem State.setAct_lock (s : State) (k : Nat) (v : Act) : (s.setAct k v).lock = s.lock := rfl
@[simp] theorem State.setAct_gaf (s : State) (k : Nat) (v : Act) : (s.setAct k v).gaf = s.gaf := rfl
@[simp] theorem State.setAct_tbu (s : State) (k : Nat) (v : Act) : (s.setAct k v).tbu = s.tbu := rfl
@[simp] theorem State.setAct_mod (s : State) (k : Nat) (v : Act) : (s.setAct k v).mod = s.mod := rfl
@[simp] theorem State.setAct_trm (s : State) (k : Nat) (v : Act) : (s.setAct k v).trm = s.trm := rfl
@[simp] theorem State.setAct_gdv (s : State) (k : Nat) (v : Act) : (s.setAct k v).gdv = s.gdv := rfl
@[simp] theorem State.setAct_fb (s : State) (k : Nat) (v : Act) : (s.setAct k v).fb = s.fb := rfl
@[simp] theorem State.setAct_lpe (s : State) (k : Nat) (v : Act) : (s.setAct k v).lpe = s.lpe := rfl
@[simp] theorem State.setAct_cmus (s : State) (k : Nat) (v : Act) : (s.setAct k v).cmus = s.cmus := rfl
@[simp] theorem State.setAct_gbx (s : State) (k : Nat) (v : Act) : (s.setAct k v).gbx = { s.gbx with acts := put s.gbx.acts k v } := rfl
@[simp] theorem State.setAct_sxe (s : State) (k : Nat) (v : Act) : (s.setAct k v).sxe = s.sxe := rfl
@[simp] theorem State.setAct_vlvs (s : State) (k : Nat) (v : Act) : (s.setAct k v).vlvs = s.vlvs := rfl
@[simp] theorem State.setAct_vlvPeak (s : State) (k : Nat) (v : Act) : (s.setAct k v).vlvPeak = s.vlvPeak := rfl
@[simp] theorem State.setAct_rpl (s : State) (k : Nat) (v : Act) : (s.setAct k v).rpl = s.rpl := rfl
@[simp] theorem State.setAct_rplLast (s : State) (k : Nat) (v : Act) : (s.setAct k v).rplLast = s.rplLast := rfl
@[simp] theorem State.setAct_rails (s : State) (k : Nat) (v : Act) : (s.setAct k v).rails = s.rails := rfl
@[simp] theorem State.setAct_aon (s : State) (k : Nat) (v : Act) : (s.setAct k v).aon = s.aon := rfl
@[simp] theorem State.setAct_ppm (s : State) (k : Nat) (v : Act) : (s.setAct k v).ppm = s.ppm := rfl
@[simp] theorem State.setAct_dcl (s : State) (k : Nat) (v : Act) : (s.setAct k v).dcl = s.dcl := rfl
@[simp] theorem State.setAct_prec (s : State) (k : Nat) (v : Act) : (s.setAct k v).prec = s.prec := rfl
@[simp] theorem State.setAct_thm (s : State) (k : Nat) (v : Act) : (s.setAct k v).thm = s.thm := rfl
@[simp] theorem State.setAct_afe (s : State) (k : Nat) (v : Act) : (s.setAct k v).afe = s.afe := rfl
@[simp] theorem State.setAct_saf (s : State) (k : Nat) (v : Act) : (s.setAct k v).saf = s.saf := rfl
@[simp] theorem State.setAct_hif (s : State) (k : Nat) (v : Act) : (s.setAct k v).hif = s.hif := rfl
@[simp] theorem State.setAct_mbx (s : State) (k : Nat) (v : Act) : (s.setAct k v).mbx = s.mbx := rfl
@[simp] theorem State.setAct_evr (s : State) (k : Nat) (v : Act) : (s.setAct k v).evr = s.evr := rfl
@[simp] theorem State.setAct_cans (s : State) (k : Nat) (v : Act) : (s.setAct k v).cans = s.cans := rfl
@[simp] theorem State.setAct_canTsHi (s : State) (k : Nat) (v : Act) : (s.setAct k v).canTsHi = s.canTsHi := rfl
@[simp] theorem State.setAct_mem (s : State) (k : Nat) (v : Act) : (s.setAct k v).mem = s.mem := rfl
@[simp] theorem State.setAct_secu (s : State) (k : Nat) (v : Act) : (s.setAct k v).secu = s.secu := rfl
@[simp] theorem State.setAct_readout (s : State) (k : Nat) (v : Act) : (s.setAct k v).readout = s.readout := rfl
@[simp] theorem State.setAct_free (s : State) (k : Nat) (v : Act) : (s.setAct k v).free = s.free := rfl
@[simp] theorem State.setAct_pending (s : State) (k : Nat) (v : Act) : (s.setAct k v).pending = s.pending := rfl

/-! ### setSxe -/

@[simp] theorem State.setSxe_now (s : State) (v : Sxe) : (s.setSxe v).now = s.now := rfl
@[simp] theorem State.setSxe_supply (s : State) (v : Sxe) : (s.setSxe v).supply = s.supply := rfl
@[simp] theorem State.setSxe_regs (s : State) (v : Sxe) : (s.setSxe v).regs = s.regs := rfl
@[simp] theorem State.setSxe_lock (s : State) (v : Sxe) : (s.setSxe v).lock = s.lock := rfl
@[simp] theorem State.setSxe_gaf (s : State) (v : Sxe) : (s.setSxe v).gaf = s.gaf := rfl
@[simp] theorem State.setSxe_tbu (s : State) (v : Sxe) : (s.setSxe v).tbu = s.tbu := rfl
@[simp] theorem State.setSxe_mod (s : State) (v : Sxe) : (s.setSxe v).mod = s.mod := rfl
@[simp] theorem State.setSxe_trm (s : State) (v : Sxe) : (s.setSxe v).trm = s.trm := rfl
@[simp] theorem State.setSxe_gdv (s : State) (v : Sxe) : (s.setSxe v).gdv = s.gdv := rfl
@[simp] theorem State.setSxe_fb (s : State) (v : Sxe) : (s.setSxe v).fb = s.fb := rfl
@[simp] theorem State.setSxe_lpe (s : State) (v : Sxe) : (s.setSxe v).lpe = s.lpe := rfl
@[simp] theorem State.setSxe_cmus (s : State) (v : Sxe) : (s.setSxe v).cmus = s.cmus := rfl
@[simp] theorem State.setSxe_gbx (s : State) (v : Sxe) : (s.setSxe v).gbx = s.gbx := rfl
@[simp] theorem State.setSxe_sxe (s : State) (v : Sxe) : (s.setSxe v).sxe = v := rfl
@[simp] theorem State.setSxe_vlvs (s : State) (v : Sxe) : (s.setSxe v).vlvs = s.vlvs := rfl
@[simp] theorem State.setSxe_vlvPeak (s : State) (v : Sxe) : (s.setSxe v).vlvPeak = s.vlvPeak := rfl
@[simp] theorem State.setSxe_rpl (s : State) (v : Sxe) : (s.setSxe v).rpl = s.rpl := rfl
@[simp] theorem State.setSxe_rplLast (s : State) (v : Sxe) : (s.setSxe v).rplLast = s.rplLast := rfl
@[simp] theorem State.setSxe_rails (s : State) (v : Sxe) : (s.setSxe v).rails = s.rails := rfl
@[simp] theorem State.setSxe_aon (s : State) (v : Sxe) : (s.setSxe v).aon = s.aon := rfl
@[simp] theorem State.setSxe_ppm (s : State) (v : Sxe) : (s.setSxe v).ppm = s.ppm := rfl
@[simp] theorem State.setSxe_dcl (s : State) (v : Sxe) : (s.setSxe v).dcl = s.dcl := rfl
@[simp] theorem State.setSxe_prec (s : State) (v : Sxe) : (s.setSxe v).prec = s.prec := rfl
@[simp] theorem State.setSxe_thm (s : State) (v : Sxe) : (s.setSxe v).thm = s.thm := rfl
@[simp] theorem State.setSxe_afe (s : State) (v : Sxe) : (s.setSxe v).afe = s.afe := rfl
@[simp] theorem State.setSxe_saf (s : State) (v : Sxe) : (s.setSxe v).saf = s.saf := rfl
@[simp] theorem State.setSxe_hif (s : State) (v : Sxe) : (s.setSxe v).hif = s.hif := rfl
@[simp] theorem State.setSxe_mbx (s : State) (v : Sxe) : (s.setSxe v).mbx = s.mbx := rfl
@[simp] theorem State.setSxe_evr (s : State) (v : Sxe) : (s.setSxe v).evr = s.evr := rfl
@[simp] theorem State.setSxe_cans (s : State) (v : Sxe) : (s.setSxe v).cans = s.cans := rfl
@[simp] theorem State.setSxe_canTsHi (s : State) (v : Sxe) : (s.setSxe v).canTsHi = s.canTsHi := rfl
@[simp] theorem State.setSxe_mem (s : State) (v : Sxe) : (s.setSxe v).mem = s.mem := rfl
@[simp] theorem State.setSxe_secu (s : State) (v : Sxe) : (s.setSxe v).secu = s.secu := rfl
@[simp] theorem State.setSxe_readout (s : State) (v : Sxe) : (s.setSxe v).readout = s.readout := rfl
@[simp] theorem State.setSxe_free (s : State) (v : Sxe) : (s.setSxe v).free = s.free := rfl
@[simp] theorem State.setSxe_pending (s : State) (v : Sxe) : (s.setSxe v).pending = s.pending := rfl

/-! ### setCore -/

@[simp] theorem State.setCore_now (s : State) (v : SxeCore) : (s.setCore v).now = s.now := rfl
@[simp] theorem State.setCore_supply (s : State) (v : SxeCore) : (s.setCore v).supply = s.supply := rfl
@[simp] theorem State.setCore_regs (s : State) (v : SxeCore) : (s.setCore v).regs = s.regs := rfl
@[simp] theorem State.setCore_lock (s : State) (v : SxeCore) : (s.setCore v).lock = s.lock := rfl
@[simp] theorem State.setCore_gaf (s : State) (v : SxeCore) : (s.setCore v).gaf = s.gaf := rfl
@[simp] theorem State.setCore_tbu (s : State) (v : SxeCore) : (s.setCore v).tbu = s.tbu := rfl
@[simp] theorem State.setCore_mod (s : State) (v : SxeCore) : (s.setCore v).mod = s.mod := rfl
@[simp] theorem State.setCore_trm (s : State) (v : SxeCore) : (s.setCore v).trm = s.trm := rfl
@[simp] theorem State.setCore_gdv (s : State) (v : SxeCore) : (s.setCore v).gdv = s.gdv := rfl
@[simp] theorem State.setCore_fb (s : State) (v : SxeCore) : (s.setCore v).fb = s.fb := rfl
@[simp] theorem State.setCore_lpe (s : State) (v : SxeCore) : (s.setCore v).lpe = s.lpe := rfl
@[simp] theorem State.setCore_cmus (s : State) (v : SxeCore) : (s.setCore v).cmus = s.cmus := rfl
@[simp] theorem State.setCore_gbx (s : State) (v : SxeCore) : (s.setCore v).gbx = s.gbx := rfl
@[simp] theorem State.setCore_sxe (s : State) (v : SxeCore) : (s.setCore v).sxe = { s.sxe with core := v } := rfl
@[simp] theorem State.setCore_vlvs (s : State) (v : SxeCore) : (s.setCore v).vlvs = s.vlvs := rfl
@[simp] theorem State.setCore_vlvPeak (s : State) (v : SxeCore) : (s.setCore v).vlvPeak = s.vlvPeak := rfl
@[simp] theorem State.setCore_rpl (s : State) (v : SxeCore) : (s.setCore v).rpl = s.rpl := rfl
@[simp] theorem State.setCore_rplLast (s : State) (v : SxeCore) : (s.setCore v).rplLast = s.rplLast := rfl
@[simp] theorem State.setCore_rails (s : State) (v : SxeCore) : (s.setCore v).rails = s.rails := rfl
@[simp] theorem State.setCore_aon (s : State) (v : SxeCore) : (s.setCore v).aon = s.aon := rfl
@[simp] theorem State.setCore_ppm (s : State) (v : SxeCore) : (s.setCore v).ppm = s.ppm := rfl
@[simp] theorem State.setCore_dcl (s : State) (v : SxeCore) : (s.setCore v).dcl = s.dcl := rfl
@[simp] theorem State.setCore_prec (s : State) (v : SxeCore) : (s.setCore v).prec = s.prec := rfl
@[simp] theorem State.setCore_thm (s : State) (v : SxeCore) : (s.setCore v).thm = s.thm := rfl
@[simp] theorem State.setCore_afe (s : State) (v : SxeCore) : (s.setCore v).afe = s.afe := rfl
@[simp] theorem State.setCore_saf (s : State) (v : SxeCore) : (s.setCore v).saf = s.saf := rfl
@[simp] theorem State.setCore_hif (s : State) (v : SxeCore) : (s.setCore v).hif = s.hif := rfl
@[simp] theorem State.setCore_mbx (s : State) (v : SxeCore) : (s.setCore v).mbx = s.mbx := rfl
@[simp] theorem State.setCore_evr (s : State) (v : SxeCore) : (s.setCore v).evr = s.evr := rfl
@[simp] theorem State.setCore_cans (s : State) (v : SxeCore) : (s.setCore v).cans = s.cans := rfl
@[simp] theorem State.setCore_canTsHi (s : State) (v : SxeCore) : (s.setCore v).canTsHi = s.canTsHi := rfl
@[simp] theorem State.setCore_mem (s : State) (v : SxeCore) : (s.setCore v).mem = s.mem := rfl
@[simp] theorem State.setCore_secu (s : State) (v : SxeCore) : (s.setCore v).secu = s.secu := rfl
@[simp] theorem State.setCore_readout (s : State) (v : SxeCore) : (s.setCore v).readout = s.readout := rfl
@[simp] theorem State.setCore_free (s : State) (v : SxeCore) : (s.setCore v).free = s.free := rfl
@[simp] theorem State.setCore_pending (s : State) (v : SxeCore) : (s.setCore v).pending = s.pending := rfl

/-! ### setSec -/

@[simp] theorem State.setSec_now (s : State) (k : Nat) (v : Sec) : (s.setSec k v).now = s.now := rfl
@[simp] theorem State.setSec_supply (s : State) (k : Nat) (v : Sec) : (s.setSec k v).supply = s.supply := rfl
@[simp] theorem State.setSec_regs (s : State) (k : Nat) (v : Sec) : (s.setSec k v).regs = s.regs := rfl
@[simp] theorem State.setSec_lock (s : State) (k : Nat) (v : Sec) : (s.setSec k v).lock = s.lock := rfl
@[simp] theorem State.setSec_gaf (s : State) (k : Nat) (v : Sec) : (s.setSec k v).gaf = s.gaf := rfl
@[simp] theorem State.setSec_tbu (s : State) (k : Nat) (v : Sec) : (s.setSec k v).tbu = s.tbu := rfl
@[simp] theorem State.setSec_mod (s : State) (k : Nat) (v : Sec) : (s.setSec k v).mod = s.mod := rfl
@[simp] theorem State.setSec_trm (s : State) (k : Nat) (v : Sec) : (s.setSec k v).trm = s.trm := rfl
@[simp] theorem State.setSec_gdv (s : State) (k : Nat) (v : Sec) : (s.setSec k v).gdv = s.gdv := rfl
@[simp] theorem State.setSec_fb (s : State) (k : Nat) (v : Sec) : (s.setSec k v).fb = s.fb := rfl
@[simp] theorem State.setSec_lpe (s : State) (k : Nat) (v : Sec) : (s.setSec k v).lpe = s.lpe := rfl
@[simp] theorem State.setSec_cmus (s : State) (k : Nat) (v : Sec) : (s.setSec k v).cmus = s.cmus := rfl
@[simp] theorem State.setSec_gbx (s : State) (k : Nat) (v : Sec) : (s.setSec k v).gbx = s.gbx := rfl
@[simp] theorem State.setSec_sxe (s : State) (k : Nat) (v : Sec) : (s.setSec k v).sxe = { s.sxe with core := { s.sxe.core with secs := put s.sxe.core.secs k v } } := rfl
@[simp] theorem State.setSec_vlvs (s : State) (k : Nat) (v : Sec) : (s.setSec k v).vlvs = s.vlvs := rfl
@[simp] theorem State.setSec_vlvPeak (s : State) (k : Nat) (v : Sec) : (s.setSec k v).vlvPeak = s.vlvPeak := rfl
@[simp] theorem State.setSec_rpl (s : State) (k : Nat) (v : Sec) : (s.setSec k v).rpl = s.rpl := rfl
@[simp] theorem State.setSec_rplLast (s : State) (k : Nat) (v : Sec) : (s.setSec k v).rplLast = s.rplLast := rfl
@[simp] theorem State.setSec_rails (s : State) (k : Nat) (v : Sec) : (s.setSec k v).rails = s.rails := rfl
@[simp] theorem State.setSec_aon (s : State) (k : Nat) (v : Sec) : (s.setSec k v).aon = s.aon := rfl
@[simp] theorem State.setSec_ppm (s : State) (k : Nat) (v : Sec) : (s.setSec k v).ppm = s.ppm := rfl
@[simp] theorem State.setSec_dcl (s : State) (k : Nat) (v : Sec) : (s.setSec k v).dcl = s.dcl := rfl
@[simp] theorem State.setSec_prec (s : State) (k : Nat) (v : Sec) : (s.setSec k v).prec = s.prec := rfl
@[simp] theorem State.setSec_thm (s : State) (k : Nat) (v : Sec) : (s.setSec k v).thm = s.thm := rfl
@[simp] theorem State.setSec_afe (s : State) (k : Nat) (v : Sec) : (s.setSec k v).afe = s.afe := rfl
@[simp] theorem State.setSec_saf (s : State) (k : Nat) (v : Sec) : (s.setSec k v).saf = s.saf := rfl
@[simp] theorem State.setSec_hif (s : State) (k : Nat) (v : Sec) : (s.setSec k v).hif = s.hif := rfl
@[simp] theorem State.setSec_mbx (s : State) (k : Nat) (v : Sec) : (s.setSec k v).mbx = s.mbx := rfl
@[simp] theorem State.setSec_evr (s : State) (k : Nat) (v : Sec) : (s.setSec k v).evr = s.evr := rfl
@[simp] theorem State.setSec_cans (s : State) (k : Nat) (v : Sec) : (s.setSec k v).cans = s.cans := rfl
@[simp] theorem State.setSec_canTsHi (s : State) (k : Nat) (v : Sec) : (s.setSec k v).canTsHi = s.canTsHi := rfl
@[simp] theorem State.setSec_mem (s : State) (k : Nat) (v : Sec) : (s.setSec k v).mem = s.mem := rfl
@[simp] theorem State.setSec_secu (s : State) (k : Nat) (v : Sec) : (s.setSec k v).secu = s.secu := rfl
@[simp] theorem State.setSec_readout (s : State) (k : Nat) (v : Sec) : (s.setSec k v).readout = s.readout := rfl
@[simp] theorem State.setSec_free (s : State) (k : Nat) (v : Sec) : (s.setSec k v).free = s.free := rfl
@[simp] theorem State.setSec_pending (s : State) (k : Nat) (v : Sec) : (s.setSec k v).pending = s.pending := rfl

/-! ### setRn -/

@[simp] theorem State.setRn_now (s : State) (j : Nat) (v : Rn) : (s.setRn j v).now = s.now := rfl
@[simp] theorem State.setRn_supply (s : State) (j : Nat) (v : Rn) : (s.setRn j v).supply = s.supply := rfl
@[simp] theorem State.setRn_regs (s : State) (j : Nat) (v : Rn) : (s.setRn j v).regs = s.regs := rfl
@[simp] theorem State.setRn_lock (s : State) (j : Nat) (v : Rn) : (s.setRn j v).lock = s.lock := rfl
@[simp] theorem State.setRn_gaf (s : State) (j : Nat) (v : Rn) : (s.setRn j v).gaf = s.gaf := rfl
@[simp] theorem State.setRn_tbu (s : State) (j : Nat) (v : Rn) : (s.setRn j v).tbu = s.tbu := rfl
@[simp] theorem State.setRn_mod (s : State) (j : Nat) (v : Rn) : (s.setRn j v).mod = s.mod := rfl
@[simp] theorem State.setRn_trm (s : State) (j : Nat) (v : Rn) : (s.setRn j v).trm = s.trm := rfl
@[simp] theorem State.setRn_gdv (s : State) (j : Nat) (v : Rn) : (s.setRn j v).gdv = s.gdv := rfl
@[simp] theorem State.setRn_fb (s : State) (j : Nat) (v : Rn) : (s.setRn j v).fb = s.fb := rfl
@[simp] theorem State.setRn_lpe (s : State) (j : Nat) (v : Rn) : (s.setRn j v).lpe = s.lpe := rfl
@[simp] theorem State.setRn_cmus (s : State) (j : Nat) (v : Rn) : (s.setRn j v).cmus = s.cmus := rfl
@[simp] theorem State.setRn_gbx (s : State) (j : Nat) (v : Rn) : (s.setRn j v).gbx = s.gbx := rfl
@[simp] theorem State.setRn_sxe (s : State) (j : Nat) (v : Rn) : (s.setRn j v).sxe = { s.sxe with rns := put s.sxe.rns j v } := rfl
@[simp] theorem State.setRn_vlvs (s : State) (j : Nat) (v : Rn) : (s.setRn j v).vlvs = s.vlvs := rfl
@[simp] theorem State.setRn_vlvPeak (s : State) (j : Nat) (v : Rn) : (s.setRn j v).vlvPeak = s.vlvPeak := rfl
@[simp] theorem State.setRn_rpl (s : State) (j : Nat) (v : Rn) : (s.setRn j v).rpl = s.rpl := rfl
@[simp] theorem State.setRn_rplLast (s : State) (j : Nat) (v : Rn) : (s.setRn j v).rplLast = s.rplLast := rfl
@[simp] theorem State.setRn_rails (s : State) (j : Nat) (v : Rn) : (s.setRn j v).rails = s.rails := rfl
@[simp] theorem State.setRn_aon (s : State) (j : Nat) (v : Rn) : (s.setRn j v).aon = s.aon := rfl
@[simp] theorem State.setRn_ppm (s : State) (j : Nat) (v : Rn) : (s.setRn j v).ppm = s.ppm := rfl
@[simp] theorem State.setRn_dcl (s : State) (j : Nat) (v : Rn) : (s.setRn j v).dcl = s.dcl := rfl
@[simp] theorem State.setRn_prec (s : State) (j : Nat) (v : Rn) : (s.setRn j v).prec = s.prec := rfl
@[simp] theorem State.setRn_thm (s : State) (j : Nat) (v : Rn) : (s.setRn j v).thm = s.thm := rfl
@[simp] theorem State.setRn_afe (s : State) (j : Nat) (v : Rn) : (s.setRn j v).afe = s.afe := rfl
@[simp] theorem State.setRn_saf (s : State) (j : Nat) (v : Rn) : (s.setRn j v).saf = s.saf := rfl
@[simp] theorem State.setRn_hif (s : State) (j : Nat) (v : Rn) : (s.setRn j v).hif = s.hif := rfl
@[simp] theorem State.setRn_mbx (s : State) (j : Nat) (v : Rn) : (s.setRn j v).mbx = s.mbx := rfl
@[simp] theorem State.setRn_evr (s : State) (j : Nat) (v : Rn) : (s.setRn j v).evr = s.evr := rfl
@[simp] theorem State.setRn_cans (s : State) (j : Nat) (v : Rn) : (s.setRn j v).cans = s.cans := rfl
@[simp] theorem State.setRn_canTsHi (s : State) (j : Nat) (v : Rn) : (s.setRn j v).canTsHi = s.canTsHi := rfl
@[simp] theorem State.setRn_mem (s : State) (j : Nat) (v : Rn) : (s.setRn j v).mem = s.mem := rfl
@[simp] theorem State.setRn_secu (s : State) (j : Nat) (v : Rn) : (s.setRn j v).secu = s.secu := rfl
@[simp] theorem State.setRn_readout (s : State) (j : Nat) (v : Rn) : (s.setRn j v).readout = s.readout := rfl
@[simp] theorem State.setRn_free (s : State) (j : Nat) (v : Rn) : (s.setRn j v).free = s.free := rfl
@[simp] theorem State.setRn_pending (s : State) (j : Nat) (v : Rn) : (s.setRn j v).pending = s.pending := rfl

/-! ### setVlv -/

@[simp] theorem State.setVlv_now (s : State) (m : Nat) (v : Vlv) : (s.setVlv m v).now = s.now := rfl
@[simp] theorem State.setVlv_supply (s : State) (m : Nat) (v : Vlv) : (s.setVlv m v).supply = s.supply := rfl
@[simp] theorem State.setVlv_regs (s : State) (m : Nat) (v : Vlv) : (s.setVlv m v).regs = s.regs := rfl
@[simp] theorem State.setVlv_lock (s : State) (m : Nat) (v : Vlv) : (s.setVlv m v).lock = s.lock := rfl
@[simp] theorem State.setVlv_gaf (s : State) (m : Nat) (v : Vlv) : (s.setVlv m v).gaf = s.gaf := rfl
@[simp] theorem State.setVlv_tbu (s : State) (m : Nat) (v : Vlv) : (s.setVlv m v).tbu = s.tbu := rfl
@[simp] theorem State.setVlv_mod (s : State) (m : Nat) (v : Vlv) : (s.setVlv m v).mod = s.mod := rfl
@[simp] theorem State.setVlv_trm (s : State) (m : Nat) (v : Vlv) : (s.setVlv m v).trm = s.trm := rfl
@[simp] theorem State.setVlv_gdv (s : State) (m : Nat) (v : Vlv) : (s.setVlv m v).gdv = s.gdv := rfl
@[simp] theorem State.setVlv_fb (s : State) (m : Nat) (v : Vlv) : (s.setVlv m v).fb = s.fb := rfl
@[simp] theorem State.setVlv_lpe (s : State) (m : Nat) (v : Vlv) : (s.setVlv m v).lpe = s.lpe := rfl
@[simp] theorem State.setVlv_cmus (s : State) (m : Nat) (v : Vlv) : (s.setVlv m v).cmus = s.cmus := rfl
@[simp] theorem State.setVlv_gbx (s : State) (m : Nat) (v : Vlv) : (s.setVlv m v).gbx = s.gbx := rfl
@[simp] theorem State.setVlv_sxe (s : State) (m : Nat) (v : Vlv) : (s.setVlv m v).sxe = s.sxe := rfl
@[simp] theorem State.setVlv_vlvs (s : State) (m : Nat) (v : Vlv) : (s.setVlv m v).vlvs = put s.vlvs m v := rfl
@[simp] theorem State.setVlv_vlvPeak (s : State) (m : Nat) (v : Vlv) : (s.setVlv m v).vlvPeak = s.vlvPeak := rfl
@[simp] theorem State.setVlv_rpl (s : State) (m : Nat) (v : Vlv) : (s.setVlv m v).rpl = s.rpl := rfl
@[simp] theorem State.setVlv_rplLast (s : State) (m : Nat) (v : Vlv) : (s.setVlv m v).rplLast = s.rplLast := rfl
@[simp] theorem State.setVlv_rails (s : State) (m : Nat) (v : Vlv) : (s.setVlv m v).rails = s.rails := rfl
@[simp] theorem State.setVlv_aon (s : State) (m : Nat) (v : Vlv) : (s.setVlv m v).aon = s.aon := rfl
@[simp] theorem State.setVlv_ppm (s : State) (m : Nat) (v : Vlv) : (s.setVlv m v).ppm = s.ppm := rfl
@[simp] theorem State.setVlv_dcl (s : State) (m : Nat) (v : Vlv) : (s.setVlv m v).dcl = s.dcl := rfl
@[simp] theorem State.setVlv_prec (s : State) (m : Nat) (v : Vlv) : (s.setVlv m v).prec = s.prec := rfl
@[simp] theorem State.setVlv_thm (s : State) (m : Nat) (v : Vlv) : (s.setVlv m v).thm = s.thm := rfl
@[simp] theorem State.setVlv_afe (s : State) (m : Nat) (v : Vlv) : (s.setVlv m v).afe = s.afe := rfl
@[simp] theorem State.setVlv_saf (s : State) (m : Nat) (v : Vlv) : (s.setVlv m v).saf = s.saf := rfl
@[simp] theorem State.setVlv_hif (s : State) (m : Nat) (v : Vlv) : (s.setVlv m v).hif = s.hif := rfl
@[simp] theorem State.setVlv_mbx (s : State) (m : Nat) (v : Vlv) : (s.setVlv m v).mbx = s.mbx := rfl
@[simp] theorem State.setVlv_evr (s : State) (m : Nat) (v : Vlv) : (s.setVlv m v).evr = s.evr := rfl
@[simp] theorem State.setVlv_cans (s : State) (m : Nat) (v : Vlv) : (s.setVlv m v).cans = s.cans := rfl
@[simp] theorem State.setVlv_canTsHi (s : State) (m : Nat) (v : Vlv) : (s.setVlv m v).canTsHi = s.canTsHi := rfl
@[simp] theorem State.setVlv_mem (s : State) (m : Nat) (v : Vlv) : (s.setVlv m v).mem = s.mem := rfl
@[simp] theorem State.setVlv_secu (s : State) (m : Nat) (v : Vlv) : (s.setVlv m v).secu = s.secu := rfl
@[simp] theorem State.setVlv_readout (s : State) (m : Nat) (v : Vlv) : (s.setVlv m v).readout = s.readout := rfl
@[simp] theorem State.setVlv_free (s : State) (m : Nat) (v : Vlv) : (s.setVlv m v).free = s.free := rfl
@[simp] theorem State.setVlv_pending (s : State) (m : Nat) (v : Vlv) : (s.setVlv m v).pending = s.pending := rfl

/-! ### setRail -/

@[simp] theorem State.setRail_now (s : State) (r : Nat) (v : Rail) : (s.setRail r v).now = s.now := rfl
@[simp] theorem State.setRail_supply (s : State) (r : Nat) (v : Rail) : (s.setRail r v).supply = s.supply := rfl
@[simp] theorem State.setRail_regs (s : State) (r : Nat) (v : Rail) : (s.setRail r v).regs = s.regs := rfl
@[simp] theorem State.setRail_lock (s : State) (r : Nat) (v : Rail) : (s.setRail r v).lock = s.lock := rfl
@[simp] theorem State.setRail_gaf (s : State) (r : Nat) (v : Rail) : (s.setRail r v).gaf = s.gaf := rfl
@[simp] theorem State.setRail_tbu (s : State) (r : Nat) (v : Rail) : (s.setRail r v).tbu = s.tbu := rfl
@[simp] theorem State.setRail_mod (s : State) (r : Nat) (v : Rail) : (s.setRail r v).mod = s.mod := rfl
@[simp] theorem State.setRail_trm (s : State) (r : Nat) (v : Rail) : (s.setRail r v).trm = s.trm := rfl
@[simp] theorem State.setRail_gdv (s : State) (r : Nat) (v : Rail) : (s.setRail r v).gdv = s.gdv := rfl
@[simp] theorem State.setRail_fb (s : State) (r : Nat) (v : Rail) : (s.setRail r v).fb = s.fb := rfl
@[simp] theorem State.setRail_lpe (s : State) (r : Nat) (v : Rail) : (s.setRail r v).lpe = s.lpe := rfl
@[simp] theorem State.setRail_cmus (s : State) (r : Nat) (v : Rail) : (s.setRail r v).cmus = s.cmus := rfl
@[simp] theorem State.setRail_gbx (s : State) (r : Nat) (v : Rail) : (s.setRail r v).gbx = s.gbx := rfl
@[simp] theorem State.setRail_sxe (s : State) (r : Nat) (v : Rail) : (s.setRail r v).sxe = s.sxe := rfl
@[simp] theorem State.setRail_vlvs (s : State) (r : Nat) (v : Rail) : (s.setRail r v).vlvs = s.vlvs := rfl
@[simp] theorem State.setRail_vlvPeak (s : State) (r : Nat) (v : Rail) : (s.setRail r v).vlvPeak = s.vlvPeak := rfl
@[simp] theorem State.setRail_rpl (s : State) (r : Nat) (v : Rail) : (s.setRail r v).rpl = s.rpl := rfl
@[simp] theorem State.setRail_rplLast (s : State) (r : Nat) (v : Rail) : (s.setRail r v).rplLast = s.rplLast := rfl
@[simp] theorem State.setRail_rails (s : State) (r : Nat) (v : Rail) : (s.setRail r v).rails = put s.rails r v := rfl
@[simp] theorem State.setRail_aon (s : State) (r : Nat) (v : Rail) : (s.setRail r v).aon = s.aon := rfl
@[simp] theorem State.setRail_ppm (s : State) (r : Nat) (v : Rail) : (s.setRail r v).ppm = s.ppm := rfl
@[simp] theorem State.setRail_dcl (s : State) (r : Nat) (v : Rail) : (s.setRail r v).dcl = s.dcl := rfl
@[simp] theorem State.setRail_prec (s : State) (r : Nat) (v : Rail) : (s.setRail r v).prec = s.prec := rfl
@[simp] theorem State.setRail_thm (s : State) (r : Nat) (v : Rail) : (s.setRail r v).thm = s.thm := rfl
@[simp] theorem State.setRail_afe (s : State) (r : Nat) (v : Rail) : (s.setRail r v).afe = s.afe := rfl
@[simp] theorem State.setRail_saf (s : State) (r : Nat) (v : Rail) : (s.setRail r v).saf = s.saf := rfl
@[simp] theorem State.setRail_hif (s : State) (r : Nat) (v : Rail) : (s.setRail r v).hif = s.hif := rfl
@[simp] theorem State.setRail_mbx (s : State) (r : Nat) (v : Rail) : (s.setRail r v).mbx = s.mbx := rfl
@[simp] theorem State.setRail_evr (s : State) (r : Nat) (v : Rail) : (s.setRail r v).evr = s.evr := rfl
@[simp] theorem State.setRail_cans (s : State) (r : Nat) (v : Rail) : (s.setRail r v).cans = s.cans := rfl
@[simp] theorem State.setRail_canTsHi (s : State) (r : Nat) (v : Rail) : (s.setRail r v).canTsHi = s.canTsHi := rfl
@[simp] theorem State.setRail_mem (s : State) (r : Nat) (v : Rail) : (s.setRail r v).mem = s.mem := rfl
@[simp] theorem State.setRail_secu (s : State) (r : Nat) (v : Rail) : (s.setRail r v).secu = s.secu := rfl
@[simp] theorem State.setRail_readout (s : State) (r : Nat) (v : Rail) : (s.setRail r v).readout = s.readout := rfl
@[simp] theorem State.setRail_free (s : State) (r : Nat) (v : Rail) : (s.setRail r v).free = s.free := rfl
@[simp] theorem State.setRail_pending (s : State) (r : Nat) (v : Rail) : (s.setRail r v).pending = s.pending := rfl

/-! ### setPpm -/

@[simp] theorem State.setPpm_now (s : State) (v : Ppm) : (s.setPpm v).now = s.now := rfl
@[simp] theorem State.setPpm_supply (s : State) (v : Ppm) : (s.setPpm v).supply = s.supply := rfl
@[simp] theorem State.setPpm_regs (s : State) (v : Ppm) : (s.setPpm v).regs = s.regs := rfl
@[simp] theorem State.setPpm_lock (s : State) (v : Ppm) : (s.setPpm v).lock = s.lock := rfl
@[simp] theorem State.setPpm_gaf (s : State) (v : Ppm) : (s.setPpm v).gaf = s.gaf := rfl
@[simp] theorem State.setPpm_tbu (s : State) (v : Ppm) : (s.setPpm v).tbu = s.tbu := rfl
@[simp] theorem State.setPpm_mod (s : State) (v : Ppm) : (s.setPpm v).mod = s.mod := rfl
@[simp] theorem State.setPpm_trm (s : State) (v : Ppm) : (s.setPpm v).trm = s.trm := rfl
@[simp] theorem State.setPpm_gdv (s : State) (v : Ppm) : (s.setPpm v).gdv = s.gdv := rfl
@[simp] theorem State.setPpm_fb (s : State) (v : Ppm) : (s.setPpm v).fb = s.fb := rfl
@[simp] theorem State.setPpm_lpe (s : State) (v : Ppm) : (s.setPpm v).lpe = s.lpe := rfl
@[simp] theorem State.setPpm_cmus (s : State) (v : Ppm) : (s.setPpm v).cmus = s.cmus := rfl
@[simp] theorem State.setPpm_gbx (s : State) (v : Ppm) : (s.setPpm v).gbx = s.gbx := rfl
@[simp] theorem State.setPpm_sxe (s : State) (v : Ppm) : (s.setPpm v).sxe = s.sxe := rfl
@[simp] theorem State.setPpm_vlvs (s : State) (v : Ppm) : (s.setPpm v).vlvs = s.vlvs := rfl
@[simp] theorem State.setPpm_vlvPeak (s : State) (v : Ppm) : (s.setPpm v).vlvPeak = s.vlvPeak := rfl
@[simp] theorem State.setPpm_rpl (s : State) (v : Ppm) : (s.setPpm v).rpl = s.rpl := rfl
@[simp] theorem State.setPpm_rplLast (s : State) (v : Ppm) : (s.setPpm v).rplLast = s.rplLast := rfl
@[simp] theorem State.setPpm_rails (s : State) (v : Ppm) : (s.setPpm v).rails = s.rails := rfl
@[simp] theorem State.setPpm_aon (s : State) (v : Ppm) : (s.setPpm v).aon = s.aon := rfl
@[simp] theorem State.setPpm_ppm (s : State) (v : Ppm) : (s.setPpm v).ppm = v := rfl
@[simp] theorem State.setPpm_dcl (s : State) (v : Ppm) : (s.setPpm v).dcl = s.dcl := rfl
@[simp] theorem State.setPpm_prec (s : State) (v : Ppm) : (s.setPpm v).prec = s.prec := rfl
@[simp] theorem State.setPpm_thm (s : State) (v : Ppm) : (s.setPpm v).thm = s.thm := rfl
@[simp] theorem State.setPpm_afe (s : State) (v : Ppm) : (s.setPpm v).afe = s.afe := rfl
@[simp] theorem State.setPpm_saf (s : State) (v : Ppm) : (s.setPpm v).saf = s.saf := rfl
@[simp] theorem State.setPpm_hif (s : State) (v : Ppm) : (s.setPpm v).hif = s.hif := rfl
@[simp] theorem State.setPpm_mbx (s : State) (v : Ppm) : (s.setPpm v).mbx = s.mbx := rfl
@[simp] theorem State.setPpm_evr (s : State) (v : Ppm) : (s.setPpm v).evr = s.evr := rfl
@[simp] theorem State.setPpm_cans (s : State) (v : Ppm) : (s.setPpm v).cans = s.cans := rfl
@[simp] theorem State.setPpm_canTsHi (s : State) (v : Ppm) : (s.setPpm v).canTsHi = s.canTsHi := rfl
@[simp] theorem State.setPpm_mem (s : State) (v : Ppm) : (s.setPpm v).mem = s.mem := rfl
@[simp] theorem State.setPpm_secu (s : State) (v : Ppm) : (s.setPpm v).secu = s.secu := rfl
@[simp] theorem State.setPpm_readout (s : State) (v : Ppm) : (s.setPpm v).readout = s.readout := rfl
@[simp] theorem State.setPpm_free (s : State) (v : Ppm) : (s.setPpm v).free = s.free := rfl
@[simp] theorem State.setPpm_pending (s : State) (v : Ppm) : (s.setPpm v).pending = s.pending := rfl

/-! ### setSes -/

@[simp] theorem State.setSes_now (s : State) (v : Session) : (s.setSes v).now = s.now := rfl
@[simp] theorem State.setSes_supply (s : State) (v : Session) : (s.setSes v).supply = s.supply := rfl
@[simp] theorem State.setSes_regs (s : State) (v : Session) : (s.setSes v).regs = s.regs := rfl
@[simp] theorem State.setSes_lock (s : State) (v : Session) : (s.setSes v).lock = s.lock := rfl
@[simp] theorem State.setSes_gaf (s : State) (v : Session) : (s.setSes v).gaf = s.gaf := rfl
@[simp] theorem State.setSes_tbu (s : State) (v : Session) : (s.setSes v).tbu = s.tbu := rfl
@[simp] theorem State.setSes_mod (s : State) (v : Session) : (s.setSes v).mod = s.mod := rfl
@[simp] theorem State.setSes_trm (s : State) (v : Session) : (s.setSes v).trm = s.trm := rfl
@[simp] theorem State.setSes_gdv (s : State) (v : Session) : (s.setSes v).gdv = s.gdv := rfl
@[simp] theorem State.setSes_fb (s : State) (v : Session) : (s.setSes v).fb = s.fb := rfl
@[simp] theorem State.setSes_lpe (s : State) (v : Session) : (s.setSes v).lpe = s.lpe := rfl
@[simp] theorem State.setSes_cmus (s : State) (v : Session) : (s.setSes v).cmus = s.cmus := rfl
@[simp] theorem State.setSes_gbx (s : State) (v : Session) : (s.setSes v).gbx = s.gbx := rfl
@[simp] theorem State.setSes_sxe (s : State) (v : Session) : (s.setSes v).sxe = s.sxe := rfl
@[simp] theorem State.setSes_vlvs (s : State) (v : Session) : (s.setSes v).vlvs = s.vlvs := rfl
@[simp] theorem State.setSes_vlvPeak (s : State) (v : Session) : (s.setSes v).vlvPeak = s.vlvPeak := rfl
@[simp] theorem State.setSes_rpl (s : State) (v : Session) : (s.setSes v).rpl = s.rpl := rfl
@[simp] theorem State.setSes_rplLast (s : State) (v : Session) : (s.setSes v).rplLast = s.rplLast := rfl
@[simp] theorem State.setSes_rails (s : State) (v : Session) : (s.setSes v).rails = s.rails := rfl
@[simp] theorem State.setSes_aon (s : State) (v : Session) : (s.setSes v).aon = s.aon := rfl
@[simp] theorem State.setSes_ppm (s : State) (v : Session) : (s.setSes v).ppm = { s.ppm with ses := v } := rfl
@[simp] theorem State.setSes_dcl (s : State) (v : Session) : (s.setSes v).dcl = s.dcl := rfl
@[simp] theorem State.setSes_prec (s : State) (v : Session) : (s.setSes v).prec = s.prec := rfl
@[simp] theorem State.setSes_thm (s : State) (v : Session) : (s.setSes v).thm = s.thm := rfl
@[simp] theorem State.setSes_afe (s : State) (v : Session) : (s.setSes v).afe = s.afe := rfl
@[simp] theorem State.setSes_saf (s : State) (v : Session) : (s.setSes v).saf = s.saf := rfl
@[simp] theorem State.setSes_hif (s : State) (v : Session) : (s.setSes v).hif = s.hif := rfl
@[simp] theorem State.setSes_mbx (s : State) (v : Session) : (s.setSes v).mbx = s.mbx := rfl
@[simp] theorem State.setSes_evr (s : State) (v : Session) : (s.setSes v).evr = s.evr := rfl
@[simp] theorem State.setSes_cans (s : State) (v : Session) : (s.setSes v).cans = s.cans := rfl
@[simp] theorem State.setSes_canTsHi (s : State) (v : Session) : (s.setSes v).canTsHi = s.canTsHi := rfl
@[simp] theorem State.setSes_mem (s : State) (v : Session) : (s.setSes v).mem = s.mem := rfl
@[simp] theorem State.setSes_secu (s : State) (v : Session) : (s.setSes v).secu = s.secu := rfl
@[simp] theorem State.setSes_readout (s : State) (v : Session) : (s.setSes v).readout = s.readout := rfl
@[simp] theorem State.setSes_free (s : State) (v : Session) : (s.setSes v).free = s.free := rfl
@[simp] theorem State.setSes_pending (s : State) (v : Session) : (s.setSes v).pending = s.pending := rfl

/-! ### setEst -/

@[simp] theorem State.setEst_now (s : State) (e : Nat) (v : Est) : (s.setEst e v).now = s.now := rfl
@[simp] theorem State.setEst_supply (s : State) (e : Nat) (v : Est) : (s.setEst e v).supply = s.supply := rfl
@[simp] theorem State.setEst_regs (s : State) (e : Nat) (v : Est) : (s.setEst e v).regs = s.regs := rfl
@[simp] theorem State.setEst_lock (s : State) (e : Nat) (v : Est) : (s.setEst e v).lock = s.lock := rfl
@[simp] theorem State.setEst_gaf (s : State) (e : Nat) (v : Est) : (s.setEst e v).gaf = s.gaf := rfl
@[simp] theorem State.setEst_tbu (s : State) (e : Nat) (v : Est) : (s.setEst e v).tbu = s.tbu := rfl
@[simp] theorem State.setEst_mod (s : State) (e : Nat) (v : Est) : (s.setEst e v).mod = s.mod := rfl
@[simp] theorem State.setEst_trm (s : State) (e : Nat) (v : Est) : (s.setEst e v).trm = s.trm := rfl
@[simp] theorem State.setEst_gdv (s : State) (e : Nat) (v : Est) : (s.setEst e v).gdv = s.gdv := rfl
@[simp] theorem State.setEst_fb (s : State) (e : Nat) (v : Est) : (s.setEst e v).fb = s.fb := rfl
@[simp] theorem State.setEst_lpe (s : State) (e : Nat) (v : Est) : (s.setEst e v).lpe = s.lpe := rfl
@[simp] theorem State.setEst_cmus (s : State) (e : Nat) (v : Est) : (s.setEst e v).cmus = s.cmus := rfl
@[simp] theorem State.setEst_gbx (s : State) (e : Nat) (v : Est) : (s.setEst e v).gbx = s.gbx := rfl
@[simp] theorem State.setEst_sxe (s : State) (e : Nat) (v : Est) : (s.setEst e v).sxe = s.sxe := rfl
@[simp] theorem State.setEst_vlvs (s : State) (e : Nat) (v : Est) : (s.setEst e v).vlvs = s.vlvs := rfl
@[simp] theorem State.setEst_vlvPeak (s : State) (e : Nat) (v : Est) : (s.setEst e v).vlvPeak = s.vlvPeak := rfl
@[simp] theorem State.setEst_rpl (s : State) (e : Nat) (v : Est) : (s.setEst e v).rpl = s.rpl := rfl
@[simp] theorem State.setEst_rplLast (s : State) (e : Nat) (v : Est) : (s.setEst e v).rplLast = s.rplLast := rfl
@[simp] theorem State.setEst_rails (s : State) (e : Nat) (v : Est) : (s.setEst e v).rails = s.rails := rfl
@[simp] theorem State.setEst_aon (s : State) (e : Nat) (v : Est) : (s.setEst e v).aon = s.aon := rfl
@[simp] theorem State.setEst_ppm (s : State) (e : Nat) (v : Est) : (s.setEst e v).ppm = s.ppm := rfl
@[simp] theorem State.setEst_dcl (s : State) (e : Nat) (v : Est) : (s.setEst e v).dcl = s.dcl := rfl
@[simp] theorem State.setEst_prec (s : State) (e : Nat) (v : Est) : (s.setEst e v).prec = s.prec := rfl
@[simp] theorem State.setEst_thm (s : State) (e : Nat) (v : Est) : (s.setEst e v).thm = { s.thm with ests := put s.thm.ests e v } := rfl
@[simp] theorem State.setEst_afe (s : State) (e : Nat) (v : Est) : (s.setEst e v).afe = s.afe := rfl
@[simp] theorem State.setEst_saf (s : State) (e : Nat) (v : Est) : (s.setEst e v).saf = s.saf := rfl
@[simp] theorem State.setEst_hif (s : State) (e : Nat) (v : Est) : (s.setEst e v).hif = s.hif := rfl
@[simp] theorem State.setEst_mbx (s : State) (e : Nat) (v : Est) : (s.setEst e v).mbx = s.mbx := rfl
@[simp] theorem State.setEst_evr (s : State) (e : Nat) (v : Est) : (s.setEst e v).evr = s.evr := rfl
@[simp] theorem State.setEst_cans (s : State) (e : Nat) (v : Est) : (s.setEst e v).cans = s.cans := rfl
@[simp] theorem State.setEst_canTsHi (s : State) (e : Nat) (v : Est) : (s.setEst e v).canTsHi = s.canTsHi := rfl
@[simp] theorem State.setEst_mem (s : State) (e : Nat) (v : Est) : (s.setEst e v).mem = s.mem := rfl
@[simp] theorem State.setEst_secu (s : State) (e : Nat) (v : Est) : (s.setEst e v).secu = s.secu := rfl
@[simp] theorem State.setEst_readout (s : State) (e : Nat) (v : Est) : (s.setEst e v).readout = s.readout := rfl
@[simp] theorem State.setEst_free (s : State) (e : Nat) (v : Est) : (s.setEst e v).free = s.free := rfl
@[simp] theorem State.setEst_pending (s : State) (e : Nat) (v : Est) : (s.setEst e v).pending = s.pending := rfl

/-! ### setSaf -/

@[simp] theorem State.setSaf_now (s : State) (v : Saf) : (s.setSaf v).now = s.now := rfl
@[simp] theorem State.setSaf_supply (s : State) (v : Saf) : (s.setSaf v).supply = s.supply := rfl
@[simp] theorem State.setSaf_regs (s : State) (v : Saf) : (s.setSaf v).regs = s.regs := rfl
@[simp] theorem State.setSaf_lock (s : State) (v : Saf) : (s.setSaf v).lock = s.lock := rfl
@[simp] theorem State.setSaf_gaf (s : State) (v : Saf) : (s.setSaf v).gaf = s.gaf := rfl
@[simp] theorem State.setSaf_tbu (s : State) (v : Saf) : (s.setSaf v).tbu = s.tbu := rfl
@[simp] theorem State.setSaf_mod (s : State) (v : Saf) : (s.setSaf v).mod = s.mod := rfl
@[simp] theorem State.setSaf_trm (s : State) (v : Saf) : (s.setSaf v).trm = s.trm := rfl
@[simp] theorem State.setSaf_gdv (s : State) (v : Saf) : (s.setSaf v).gdv = s.gdv := rfl
@[simp] theorem State.setSaf_fb (s : State) (v : Saf) : (s.setSaf v).fb = s.fb := rfl
@[simp] theorem State.setSaf_lpe (s : State) (v : Saf) : (s.setSaf v).lpe = s.lpe := rfl
@[simp] theorem State.setSaf_cmus (s : State) (v : Saf) : (s.setSaf v).cmus = s.cmus := rfl
@[simp] theorem State.setSaf_gbx (s : State) (v : Saf) : (s.setSaf v).gbx = s.gbx := rfl
@[simp] theorem State.setSaf_sxe (s : State) (v : Saf) : (s.setSaf v).sxe = s.sxe := rfl
@[simp] theorem State.setSaf_vlvs (s : State) (v : Saf) : (s.setSaf v).vlvs = s.vlvs := rfl
@[simp] theorem State.setSaf_vlvPeak (s : State) (v : Saf) : (s.setSaf v).vlvPeak = s.vlvPeak := rfl
@[simp] theorem State.setSaf_rpl (s : State) (v : Saf) : (s.setSaf v).rpl = s.rpl := rfl
@[simp] theorem State.setSaf_rplLast (s : State) (v : Saf) : (s.setSaf v).rplLast = s.rplLast := rfl
@[simp] theorem State.setSaf_rails (s : State) (v : Saf) : (s.setSaf v).rails = s.rails := rfl
@[simp] theorem State.setSaf_aon (s : State) (v : Saf) : (s.setSaf v).aon = s.aon := rfl
@[simp] theorem State.setSaf_ppm (s : State) (v : Saf) : (s.setSaf v).ppm = s.ppm := rfl
@[simp] theorem State.setSaf_dcl (s : State) (v : Saf) : (s.setSaf v).dcl = s.dcl := rfl
@[simp] theorem State.setSaf_prec (s : State) (v : Saf) : (s.setSaf v).prec = s.prec := rfl
@[simp] theorem State.setSaf_thm (s : State) (v : Saf) : (s.setSaf v).thm = s.thm := rfl
@[simp] theorem State.setSaf_afe (s : State) (v : Saf) : (s.setSaf v).afe = s.afe := rfl
@[simp] theorem State.setSaf_saf (s : State) (v : Saf) : (s.setSaf v).saf = v := rfl
@[simp] theorem State.setSaf_hif (s : State) (v : Saf) : (s.setSaf v).hif = s.hif := rfl
@[simp] theorem State.setSaf_mbx (s : State) (v : Saf) : (s.setSaf v).mbx = s.mbx := rfl
@[simp] theorem State.setSaf_evr (s : State) (v : Saf) : (s.setSaf v).evr = s.evr := rfl
@[simp] theorem State.setSaf_cans (s : State) (v : Saf) : (s.setSaf v).cans = s.cans := rfl
@[simp] theorem State.setSaf_canTsHi (s : State) (v : Saf) : (s.setSaf v).canTsHi = s.canTsHi := rfl
@[simp] theorem State.setSaf_mem (s : State) (v : Saf) : (s.setSaf v).mem = s.mem := rfl
@[simp] theorem State.setSaf_secu (s : State) (v : Saf) : (s.setSaf v).secu = s.secu := rfl
@[simp] theorem State.setSaf_readout (s : State) (v : Saf) : (s.setSaf v).readout = s.readout := rfl
@[simp] theorem State.setSaf_free (s : State) (v : Saf) : (s.setSaf v).free = s.free := rfl
@[simp] theorem State.setSaf_pending (s : State) (v : Saf) : (s.setSaf v).pending = s.pending := rfl

/-! ### setTap -/

@[simp] theorem State.setTap_now (s : State) (g : Nat) (v : Tap) : (s.setTap g v).now = s.now := rfl
@[simp] theorem State.setTap_supply (s : State) (g : Nat) (v : Tap) : (s.setTap g v).supply = s.supply := rfl
@[simp] theorem State.setTap_regs (s : State) (g : Nat) (v : Tap) : (s.setTap g v).regs = s.regs := rfl
@[simp] theorem State.setTap_lock (s : State) (g : Nat) (v : Tap) : (s.setTap g v).lock = s.lock := rfl
@[simp] theorem State.setTap_gaf (s : State) (g : Nat) (v : Tap) : (s.setTap g v).gaf = s.gaf := rfl
@[simp] theorem State.setTap_tbu (s : State) (g : Nat) (v : Tap) : (s.setTap g v).tbu = s.tbu := rfl
@[simp] theorem State.setTap_mod (s : State) (g : Nat) (v : Tap) : (s.setTap g v).mod = s.mod := rfl
@[simp] theorem State.setTap_trm (s : State) (g : Nat) (v : Tap) : (s.setTap g v).trm = s.trm := rfl
@[simp] theorem State.setTap_gdv (s : State) (g : Nat) (v : Tap) : (s.setTap g v).gdv = s.gdv := rfl
@[simp] theorem State.setTap_fb (s : State) (g : Nat) (v : Tap) : (s.setTap g v).fb = s.fb := rfl
@[simp] theorem State.setTap_lpe (s : State) (g : Nat) (v : Tap) : (s.setTap g v).lpe = s.lpe := rfl
@[simp] theorem State.setTap_cmus (s : State) (g : Nat) (v : Tap) : (s.setTap g v).cmus = s.cmus := rfl
@[simp] theorem State.setTap_gbx (s : State) (g : Nat) (v : Tap) : (s.setTap g v).gbx = s.gbx := rfl
@[simp] theorem State.setTap_sxe (s : State) (g : Nat) (v : Tap) : (s.setTap g v).sxe = s.sxe := rfl
@[simp] theorem State.setTap_vlvs (s : State) (g : Nat) (v : Tap) : (s.setTap g v).vlvs = s.vlvs := rfl
@[simp] theorem State.setTap_vlvPeak (s : State) (g : Nat) (v : Tap) : (s.setTap g v).vlvPeak = s.vlvPeak := rfl
@[simp] theorem State.setTap_rpl (s : State) (g : Nat) (v : Tap) : (s.setTap g v).rpl = s.rpl := rfl
@[simp] theorem State.setTap_rplLast (s : State) (g : Nat) (v : Tap) : (s.setTap g v).rplLast = s.rplLast := rfl
@[simp] theorem State.setTap_rails (s : State) (g : Nat) (v : Tap) : (s.setTap g v).rails = s.rails := rfl
@[simp] theorem State.setTap_aon (s : State) (g : Nat) (v : Tap) : (s.setTap g v).aon = s.aon := rfl
@[simp] theorem State.setTap_ppm (s : State) (g : Nat) (v : Tap) : (s.setTap g v).ppm = s.ppm := rfl
@[simp] theorem State.setTap_dcl (s : State) (g : Nat) (v : Tap) : (s.setTap g v).dcl = s.dcl := rfl
@[simp] theorem State.setTap_prec (s : State) (g : Nat) (v : Tap) : (s.setTap g v).prec = s.prec := rfl
@[simp] theorem State.setTap_thm (s : State) (g : Nat) (v : Tap) : (s.setTap g v).thm = s.thm := rfl
@[simp] theorem State.setTap_afe (s : State) (g : Nat) (v : Tap) : (s.setTap g v).afe = s.afe := rfl
@[simp] theorem State.setTap_saf (s : State) (g : Nat) (v : Tap) : (s.setTap g v).saf = { s.saf with taps := put s.saf.taps g v } := rfl
@[simp] theorem State.setTap_hif (s : State) (g : Nat) (v : Tap) : (s.setTap g v).hif = s.hif := rfl
@[simp] theorem State.setTap_mbx (s : State) (g : Nat) (v : Tap) : (s.setTap g v).mbx = s.mbx := rfl
@[simp] theorem State.setTap_evr (s : State) (g : Nat) (v : Tap) : (s.setTap g v).evr = s.evr := rfl
@[simp] theorem State.setTap_cans (s : State) (g : Nat) (v : Tap) : (s.setTap g v).cans = s.cans := rfl
@[simp] theorem State.setTap_canTsHi (s : State) (g : Nat) (v : Tap) : (s.setTap g v).canTsHi = s.canTsHi := rfl
@[simp] theorem State.setTap_mem (s : State) (g : Nat) (v : Tap) : (s.setTap g v).mem = s.mem := rfl
@[simp] theorem State.setTap_secu (s : State) (g : Nat) (v : Tap) : (s.setTap g v).secu = s.secu := rfl
@[simp] theorem State.setTap_readout (s : State) (g : Nat) (v : Tap) : (s.setTap g v).readout = s.readout := rfl
@[simp] theorem State.setTap_free (s : State) (g : Nat) (v : Tap) : (s.setTap g v).free = s.free := rfl
@[simp] theorem State.setTap_pending (s : State) (g : Nat) (v : Tap) : (s.setTap g v).pending = s.pending := rfl

/-! ### setConn -/

@[simp] theorem State.setConn_now (s : State) (c : Nat) (v : Conn) : (s.setConn c v).now = s.now := rfl
@[simp] theorem State.setConn_supply (s : State) (c : Nat) (v : Conn) : (s.setConn c v).supply = s.supply := rfl
@[simp] theorem State.setConn_regs (s : State) (c : Nat) (v : Conn) : (s.setConn c v).regs = s.regs := rfl
@[simp] theorem State.setConn_lock (s : State) (c : Nat) (v : Conn) : (s.setConn c v).lock = s.lock := rfl
@[simp] theorem State.setConn_gaf (s : State) (c : Nat) (v : Conn) : (s.setConn c v).gaf = s.gaf := rfl
@[simp] theorem State.setConn_tbu (s : State) (c : Nat) (v : Conn) : (s.setConn c v).tbu = s.tbu := rfl
@[simp] theorem State.setConn_mod (s : State) (c : Nat) (v : Conn) : (s.setConn c v).mod = s.mod := rfl
@[simp] theorem State.setConn_trm (s : State) (c : Nat) (v : Conn) : (s.setConn c v).trm = s.trm := rfl
@[simp] theorem State.setConn_gdv (s : State) (c : Nat) (v : Conn) : (s.setConn c v).gdv = s.gdv := rfl
@[simp] theorem State.setConn_fb (s : State) (c : Nat) (v : Conn) : (s.setConn c v).fb = s.fb := rfl
@[simp] theorem State.setConn_lpe (s : State) (c : Nat) (v : Conn) : (s.setConn c v).lpe = s.lpe := rfl
@[simp] theorem State.setConn_cmus (s : State) (c : Nat) (v : Conn) : (s.setConn c v).cmus = s.cmus := rfl
@[simp] theorem State.setConn_gbx (s : State) (c : Nat) (v : Conn) : (s.setConn c v).gbx = s.gbx := rfl
@[simp] theorem State.setConn_sxe (s : State) (c : Nat) (v : Conn) : (s.setConn c v).sxe = s.sxe := rfl
@[simp] theorem State.setConn_vlvs (s : State) (c : Nat) (v : Conn) : (s.setConn c v).vlvs = s.vlvs := rfl
@[simp] theorem State.setConn_vlvPeak (s : State) (c : Nat) (v : Conn) : (s.setConn c v).vlvPeak = s.vlvPeak := rfl
@[simp] theorem State.setConn_rpl (s : State) (c : Nat) (v : Conn) : (s.setConn c v).rpl = s.rpl := rfl
@[simp] theorem State.setConn_rplLast (s : State) (c : Nat) (v : Conn) : (s.setConn c v).rplLast = s.rplLast := rfl
@[simp] theorem State.setConn_rails (s : State) (c : Nat) (v : Conn) : (s.setConn c v).rails = s.rails := rfl
@[simp] theorem State.setConn_aon (s : State) (c : Nat) (v : Conn) : (s.setConn c v).aon = s.aon := rfl
@[simp] theorem State.setConn_ppm (s : State) (c : Nat) (v : Conn) : (s.setConn c v).ppm = s.ppm := rfl
@[simp] theorem State.setConn_dcl (s : State) (c : Nat) (v : Conn) : (s.setConn c v).dcl = s.dcl := rfl
@[simp] theorem State.setConn_prec (s : State) (c : Nat) (v : Conn) : (s.setConn c v).prec = s.prec := rfl
@[simp] theorem State.setConn_thm (s : State) (c : Nat) (v : Conn) : (s.setConn c v).thm = s.thm := rfl
@[simp] theorem State.setConn_afe (s : State) (c : Nat) (v : Conn) : (s.setConn c v).afe = s.afe := rfl
@[simp] theorem State.setConn_saf (s : State) (c : Nat) (v : Conn) : (s.setConn c v).saf = { s.saf with conns := put s.saf.conns c v } := rfl
@[simp] theorem State.setConn_hif (s : State) (c : Nat) (v : Conn) : (s.setConn c v).hif = s.hif := rfl
@[simp] theorem State.setConn_mbx (s : State) (c : Nat) (v : Conn) : (s.setConn c v).mbx = s.mbx := rfl
@[simp] theorem State.setConn_evr (s : State) (c : Nat) (v : Conn) : (s.setConn c v).evr = s.evr := rfl
@[simp] theorem State.setConn_cans (s : State) (c : Nat) (v : Conn) : (s.setConn c v).cans = s.cans := rfl
@[simp] theorem State.setConn_canTsHi (s : State) (c : Nat) (v : Conn) : (s.setConn c v).canTsHi = s.canTsHi := rfl
@[simp] theorem State.setConn_mem (s : State) (c : Nat) (v : Conn) : (s.setConn c v).mem = s.mem := rfl
@[simp] theorem State.setConn_secu (s : State) (c : Nat) (v : Conn) : (s.setConn c v).secu = s.secu := rfl
@[simp] theorem State.setConn_readout (s : State) (c : Nat) (v : Conn) : (s.setConn c v).readout = s.readout := rfl
@[simp] theorem State.setConn_free (s : State) (c : Nat) (v : Conn) : (s.setConn c v).free = s.free := rfl
@[simp] theorem State.setConn_pending (s : State) (c : Nat) (v : Conn) : (s.setConn c v).pending = s.pending := rfl

/-! ### setHif -/

@[simp] theorem State.setHif_now (s : State) (v : Hif) : (s.setHif v).now = s.now := rfl
@[simp] theorem State.setHif_supply (s : State) (v : Hif) : (s.setHif v).supply = s.supply := rfl
@[simp] theorem State.setHif_regs (s : State) (v : Hif) : (s.setHif v).regs = s.regs := rfl
@[simp] theorem State.setHif_lock (s : State) (v : Hif) : (s.setHif v).lock = s.lock := rfl
@[simp] theorem State.setHif_gaf (s : State) (v : Hif) : (s.setHif v).gaf = s.gaf := rfl
@[simp] theorem State.setHif_tbu (s : State) (v : Hif) : (s.setHif v).tbu = s.tbu := rfl
@[simp] theorem State.setHif_mod (s : State) (v : Hif) : (s.setHif v).mod = s.mod := rfl
@[simp] theorem State.setHif_trm (s : State) (v : Hif) : (s.setHif v).trm = s.trm := rfl
@[simp] theorem State.setHif_gdv (s : State) (v : Hif) : (s.setHif v).gdv = s.gdv := rfl
@[simp] theorem State.setHif_fb (s : State) (v : Hif) : (s.setHif v).fb = s.fb := rfl
@[simp] theorem State.setHif_lpe (s : State) (v : Hif) : (s.setHif v).lpe = s.lpe := rfl
@[simp] theorem State.setHif_cmus (s : State) (v : Hif) : (s.setHif v).cmus = s.cmus := rfl
@[simp] theorem State.setHif_gbx (s : State) (v : Hif) : (s.setHif v).gbx = s.gbx := rfl
@[simp] theorem State.setHif_sxe (s : State) (v : Hif) : (s.setHif v).sxe = s.sxe := rfl
@[simp] theorem State.setHif_vlvs (s : State) (v : Hif) : (s.setHif v).vlvs = s.vlvs := rfl
@[simp] theorem State.setHif_vlvPeak (s : State) (v : Hif) : (s.setHif v).vlvPeak = s.vlvPeak := rfl
@[simp] theorem State.setHif_rpl (s : State) (v : Hif) : (s.setHif v).rpl = s.rpl := rfl
@[simp] theorem State.setHif_rplLast (s : State) (v : Hif) : (s.setHif v).rplLast = s.rplLast := rfl
@[simp] theorem State.setHif_rails (s : State) (v : Hif) : (s.setHif v).rails = s.rails := rfl
@[simp] theorem State.setHif_aon (s : State) (v : Hif) : (s.setHif v).aon = s.aon := rfl
@[simp] theorem State.setHif_ppm (s : State) (v : Hif) : (s.setHif v).ppm = s.ppm := rfl
@[simp] theorem State.setHif_dcl (s : State) (v : Hif) : (s.setHif v).dcl = s.dcl := rfl
@[simp] theorem State.setHif_prec (s : State) (v : Hif) : (s.setHif v).prec = s.prec := rfl
@[simp] theorem State.setHif_thm (s : State) (v : Hif) : (s.setHif v).thm = s.thm := rfl
@[simp] theorem State.setHif_afe (s : State) (v : Hif) : (s.setHif v).afe = s.afe := rfl
@[simp] theorem State.setHif_saf (s : State) (v : Hif) : (s.setHif v).saf = s.saf := rfl
@[simp] theorem State.setHif_hif (s : State) (v : Hif) : (s.setHif v).hif = v := rfl
@[simp] theorem State.setHif_mbx (s : State) (v : Hif) : (s.setHif v).mbx = s.mbx := rfl
@[simp] theorem State.setHif_evr (s : State) (v : Hif) : (s.setHif v).evr = s.evr := rfl
@[simp] theorem State.setHif_cans (s : State) (v : Hif) : (s.setHif v).cans = s.cans := rfl
@[simp] theorem State.setHif_canTsHi (s : State) (v : Hif) : (s.setHif v).canTsHi = s.canTsHi := rfl
@[simp] theorem State.setHif_mem (s : State) (v : Hif) : (s.setHif v).mem = s.mem := rfl
@[simp] theorem State.setHif_secu (s : State) (v : Hif) : (s.setHif v).secu = s.secu := rfl
@[simp] theorem State.setHif_readout (s : State) (v : Hif) : (s.setHif v).readout = s.readout := rfl
@[simp] theorem State.setHif_free (s : State) (v : Hif) : (s.setHif v).free = s.free := rfl
@[simp] theorem State.setHif_pending (s : State) (v : Hif) : (s.setHif v).pending = s.pending := rfl

/-! ### setRing -/

@[simp] theorem State.setRing_now (s : State) (r : Nat) (v : Ring) : (s.setRing r v).now = s.now := rfl
@[simp] theorem State.setRing_supply (s : State) (r : Nat) (v : Ring) : (s.setRing r v).supply = s.supply := rfl
@[simp] theorem State.setRing_regs (s : State) (r : Nat) (v : Ring) : (s.setRing r v).regs = s.regs := rfl
@[simp] theorem State.setRing_lock (s : State) (r : Nat) (v : Ring) : (s.setRing r v).lock = s.lock := rfl
@[simp] theorem State.setRing_gaf (s : State) (r : Nat) (v : Ring) : (s.setRing r v).gaf = s.gaf := rfl
@[simp] theorem State.setRing_tbu (s : State) (r : Nat) (v : Ring) : (s.setRing r v).tbu = s.tbu := rfl
@[simp] theorem State.setRing_mod (s : State) (r : Nat) (v : Ring) : (s.setRing r v).mod = s.mod := rfl
@[simp] theorem State.setRing_trm (s : State) (r : Nat) (v : Ring) : (s.setRing r v).trm = s.trm := rfl
@[simp] theorem State.setRing_gdv (s : State) (r : Nat) (v : Ring) : (s.setRing r v).gdv = s.gdv := rfl
@[simp] theorem State.setRing_fb (s : State) (r : Nat) (v : Ring) : (s.setRing r v).fb = s.fb := rfl
@[simp] theorem State.setRing_lpe (s : State) (r : Nat) (v : Ring) : (s.setRing r v).lpe = s.lpe := rfl
@[simp] theorem State.setRing_cmus (s : State) (r : Nat) (v : Ring) : (s.setRing r v).cmus = s.cmus := rfl
@[simp] theorem State.setRing_gbx (s : State) (r : Nat) (v : Ring) : (s.setRing r v).gbx = s.gbx := rfl
@[simp] theorem State.setRing_sxe (s : State) (r : Nat) (v : Ring) : (s.setRing r v).sxe = s.sxe := rfl
@[simp] theorem State.setRing_vlvs (s : State) (r : Nat) (v : Ring) : (s.setRing r v).vlvs = s.vlvs := rfl
@[simp] theorem State.setRing_vlvPeak (s : State) (r : Nat) (v : Ring) : (s.setRing r v).vlvPeak = s.vlvPeak := rfl
@[simp] theorem State.setRing_rpl (s : State) (r : Nat) (v : Ring) : (s.setRing r v).rpl = s.rpl := rfl
@[simp] theorem State.setRing_rplLast (s : State) (r : Nat) (v : Ring) : (s.setRing r v).rplLast = s.rplLast := rfl
@[simp] theorem State.setRing_rails (s : State) (r : Nat) (v : Ring) : (s.setRing r v).rails = s.rails := rfl
@[simp] theorem State.setRing_aon (s : State) (r : Nat) (v : Ring) : (s.setRing r v).aon = s.aon := rfl
@[simp] theorem State.setRing_ppm (s : State) (r : Nat) (v : Ring) : (s.setRing r v).ppm = s.ppm := rfl
@[simp] theorem State.setRing_dcl (s : State) (r : Nat) (v : Ring) : (s.setRing r v).dcl = s.dcl := rfl
@[simp] theorem State.setRing_prec (s : State) (r : Nat) (v : Ring) : (s.setRing r v).prec = s.prec := rfl
@[simp] theorem State.setRing_thm (s : State) (r : Nat) (v : Ring) : (s.setRing r v).thm = s.thm := rfl
@[simp] theorem State.setRing_afe (s : State) (r : Nat) (v : Ring) : (s.setRing r v).afe = s.afe := rfl
@[simp] theorem State.setRing_saf (s : State) (r : Nat) (v : Ring) : (s.setRing r v).saf = s.saf := rfl
@[simp] theorem State.setRing_hif (s : State) (r : Nat) (v : Ring) : (s.setRing r v).hif = { s.hif with rings := put s.hif.rings r v } := rfl
@[simp] theorem State.setRing_mbx (s : State) (r : Nat) (v : Ring) : (s.setRing r v).mbx = s.mbx := rfl
@[simp] theorem State.setRing_evr (s : State) (r : Nat) (v : Ring) : (s.setRing r v).evr = s.evr := rfl
@[simp] theorem State.setRing_cans (s : State) (r : Nat) (v : Ring) : (s.setRing r v).cans = s.cans := rfl
@[simp] theorem State.setRing_canTsHi (s : State) (r : Nat) (v : Ring) : (s.setRing r v).canTsHi = s.canTsHi := rfl
@[simp] theorem State.setRing_mem (s : State) (r : Nat) (v : Ring) : (s.setRing r v).mem = s.mem := rfl
@[simp] theorem State.setRing_secu (s : State) (r : Nat) (v : Ring) : (s.setRing r v).secu = s.secu := rfl
@[simp] theorem State.setRing_readout (s : State) (r : Nat) (v : Ring) : (s.setRing r v).readout = s.readout := rfl
@[simp] theorem State.setRing_free (s : State) (r : Nat) (v : Ring) : (s.setRing r v).free = s.free := rfl
@[simp] theorem State.setRing_pending (s : State) (r : Nat) (v : Ring) : (s.setRing r v).pending = s.pending := rfl

/-! ### setTake -/

@[simp] theorem State.setTake_now (s : State) (h : Nat) (v : Take) : (s.setTake h v).now = s.now := rfl
@[simp] theorem State.setTake_supply (s : State) (h : Nat) (v : Take) : (s.setTake h v).supply = s.supply := rfl
@[simp] theorem State.setTake_regs (s : State) (h : Nat) (v : Take) : (s.setTake h v).regs = s.regs := rfl
@[simp] theorem State.setTake_lock (s : State) (h : Nat) (v : Take) : (s.setTake h v).lock = s.lock := rfl
@[simp] theorem State.setTake_gaf (s : State) (h : Nat) (v : Take) : (s.setTake h v).gaf = s.gaf := rfl
@[simp] theorem State.setTake_tbu (s : State) (h : Nat) (v : Take) : (s.setTake h v).tbu = s.tbu := rfl
@[simp] theorem State.setTake_mod (s : State) (h : Nat) (v : Take) : (s.setTake h v).mod = s.mod := rfl
@[simp] theorem State.setTake_trm (s : State) (h : Nat) (v : Take) : (s.setTake h v).trm = s.trm := rfl
@[simp] theorem State.setTake_gdv (s : State) (h : Nat) (v : Take) : (s.setTake h v).gdv = s.gdv := rfl
@[simp] theorem State.setTake_fb (s : State) (h : Nat) (v : Take) : (s.setTake h v).fb = s.fb := rfl
@[simp] theorem State.setTake_lpe (s : State) (h : Nat) (v : Take) : (s.setTake h v).lpe = s.lpe := rfl
@[simp] theorem State.setTake_cmus (s : State) (h : Nat) (v : Take) : (s.setTake h v).cmus = s.cmus := rfl
@[simp] theorem State.setTake_gbx (s : State) (h : Nat) (v : Take) : (s.setTake h v).gbx = s.gbx := rfl
@[simp] theorem State.setTake_sxe (s : State) (h : Nat) (v : Take) : (s.setTake h v).sxe = s.sxe := rfl
@[simp] theorem State.setTake_vlvs (s : State) (h : Nat) (v : Take) : (s.setTake h v).vlvs = s.vlvs := rfl
@[simp] theorem State.setTake_vlvPeak (s : State) (h : Nat) (v : Take) : (s.setTake h v).vlvPeak = s.vlvPeak := rfl
@[simp] theorem State.setTake_rpl (s : State) (h : Nat) (v : Take) : (s.setTake h v).rpl = s.rpl := rfl
@[simp] theorem State.setTake_rplLast (s : State) (h : Nat) (v : Take) : (s.setTake h v).rplLast = s.rplLast := rfl
@[simp] theorem State.setTake_rails (s : State) (h : Nat) (v : Take) : (s.setTake h v).rails = s.rails := rfl
@[simp] theorem State.setTake_aon (s : State) (h : Nat) (v : Take) : (s.setTake h v).aon = s.aon := rfl
@[simp] theorem State.setTake_ppm (s : State) (h : Nat) (v : Take) : (s.setTake h v).ppm = s.ppm := rfl
@[simp] theorem State.setTake_dcl (s : State) (h : Nat) (v : Take) : (s.setTake h v).dcl = s.dcl := rfl
@[simp] theorem State.setTake_prec (s : State) (h : Nat) (v : Take) : (s.setTake h v).prec = s.prec := rfl
@[simp] theorem State.setTake_thm (s : State) (h : Nat) (v : Take) : (s.setTake h v).thm = s.thm := rfl
@[simp] theorem State.setTake_afe (s : State) (h : Nat) (v : Take) : (s.setTake h v).afe = s.afe := rfl
@[simp] theorem State.setTake_saf (s : State) (h : Nat) (v : Take) : (s.setTake h v).saf = s.saf := rfl
@[simp] theorem State.setTake_hif (s : State) (h : Nat) (v : Take) : (s.setTake h v).hif = { s.hif with takes := put s.hif.takes h v } := rfl
@[simp] theorem State.setTake_mbx (s : State) (h : Nat) (v : Take) : (s.setTake h v).mbx = s.mbx := rfl
@[simp] theorem State.setTake_evr (s : State) (h : Nat) (v : Take) : (s.setTake h v).evr = s.evr := rfl
@[simp] theorem State.setTake_cans (s : State) (h : Nat) (v : Take) : (s.setTake h v).cans = s.cans := rfl
@[simp] theorem State.setTake_canTsHi (s : State) (h : Nat) (v : Take) : (s.setTake h v).canTsHi = s.canTsHi := rfl
@[simp] theorem State.setTake_mem (s : State) (h : Nat) (v : Take) : (s.setTake h v).mem = s.mem := rfl
@[simp] theorem State.setTake_secu (s : State) (h : Nat) (v : Take) : (s.setTake h v).secu = s.secu := rfl
@[simp] theorem State.setTake_readout (s : State) (h : Nat) (v : Take) : (s.setTake h v).readout = s.readout := rfl
@[simp] theorem State.setTake_free (s : State) (h : Nat) (v : Take) : (s.setTake h v).free = s.free := rfl
@[simp] theorem State.setTake_pending (s : State) (h : Nat) (v : Take) : (s.setTake h v).pending = s.pending := rfl

/-! ### send -/

@[simp] theorem State.send_now (s : State) (m : HostMsg) : (s.send m).now = s.now := rfl
@[simp] theorem State.send_supply (s : State) (m : HostMsg) : (s.send m).supply = s.supply := rfl
@[simp] theorem State.send_regs (s : State) (m : HostMsg) : (s.send m).regs = s.regs := rfl
@[simp] theorem State.send_lock (s : State) (m : HostMsg) : (s.send m).lock = s.lock := rfl
@[simp] theorem State.send_gaf (s : State) (m : HostMsg) : (s.send m).gaf = s.gaf := rfl
@[simp] theorem State.send_tbu (s : State) (m : HostMsg) : (s.send m).tbu = s.tbu := rfl
@[simp] theorem State.send_mod (s : State) (m : HostMsg) : (s.send m).mod = s.mod := rfl
@[simp] theorem State.send_trm (s : State) (m : HostMsg) : (s.send m).trm = s.trm := rfl
@[simp] theorem State.send_gdv (s : State) (m : HostMsg) : (s.send m).gdv = s.gdv := rfl
@[simp] theorem State.send_fb (s : State) (m : HostMsg) : (s.send m).fb = s.fb := rfl
@[simp] theorem State.send_lpe (s : State) (m : HostMsg) : (s.send m).lpe = s.lpe := rfl
@[simp] theorem State.send_cmus (s : State) (m : HostMsg) : (s.send m).cmus = s.cmus := rfl
@[simp] theorem State.send_gbx (s : State) (m : HostMsg) : (s.send m).gbx = s.gbx := rfl
@[simp] theorem State.send_sxe (s : State) (m : HostMsg) : (s.send m).sxe = s.sxe := rfl
@[simp] theorem State.send_vlvs (s : State) (m : HostMsg) : (s.send m).vlvs = s.vlvs := rfl
@[simp] theorem State.send_vlvPeak (s : State) (m : HostMsg) : (s.send m).vlvPeak = s.vlvPeak := rfl
@[simp] theorem State.send_rpl (s : State) (m : HostMsg) : (s.send m).rpl = s.rpl := rfl
@[simp] theorem State.send_rplLast (s : State) (m : HostMsg) : (s.send m).rplLast = s.rplLast := rfl
@[simp] theorem State.send_rails (s : State) (m : HostMsg) : (s.send m).rails = s.rails := rfl
@[simp] theorem State.send_aon (s : State) (m : HostMsg) : (s.send m).aon = s.aon := rfl
@[simp] theorem State.send_ppm (s : State) (m : HostMsg) : (s.send m).ppm = s.ppm := rfl
@[simp] theorem State.send_dcl (s : State) (m : HostMsg) : (s.send m).dcl = s.dcl := rfl
@[simp] theorem State.send_prec (s : State) (m : HostMsg) : (s.send m).prec = s.prec := rfl
@[simp] theorem State.send_thm (s : State) (m : HostMsg) : (s.send m).thm = s.thm := rfl
@[simp] theorem State.send_afe (s : State) (m : HostMsg) : (s.send m).afe = s.afe := rfl
@[simp] theorem State.send_saf (s : State) (m : HostMsg) : (s.send m).saf = s.saf := rfl
@[simp] theorem State.send_hif (s : State) (m : HostMsg) : (s.send m).hif = { s.hif with sent := m :: s.hif.sent } := rfl
@[simp] theorem State.send_mbx (s : State) (m : HostMsg) : (s.send m).mbx = s.mbx := rfl
@[simp] theorem State.send_evr (s : State) (m : HostMsg) : (s.send m).evr = s.evr := rfl
@[simp] theorem State.send_cans (s : State) (m : HostMsg) : (s.send m).cans = s.cans := rfl
@[simp] theorem State.send_canTsHi (s : State) (m : HostMsg) : (s.send m).canTsHi = s.canTsHi := rfl
@[simp] theorem State.send_mem (s : State) (m : HostMsg) : (s.send m).mem = s.mem := rfl
@[simp] theorem State.send_secu (s : State) (m : HostMsg) : (s.send m).secu = s.secu := rfl
@[simp] theorem State.send_readout (s : State) (m : HostMsg) : (s.send m).readout = s.readout := rfl
@[simp] theorem State.send_free (s : State) (m : HostMsg) : (s.send m).free = s.free := rfl
@[simp] theorem State.send_pending (s : State) (m : HostMsg) : (s.send m).pending = s.pending := rfl

/-! ### setMbx -/

@[simp] theorem State.setMbx_now (s : State) (c : Nat) (v : Mbx) : (s.setMbx c v).now = s.now := rfl
@[simp] theorem State.setMbx_supply (s : State) (c : Nat) (v : Mbx) : (s.setMbx c v).supply = s.supply := rfl
@[simp] theorem State.setMbx_regs (s : State) (c : Nat) (v : Mbx) : (s.setMbx c v).regs = s.regs := rfl
@[simp] theorem State.setMbx_lock (s : State) (c : Nat) (v : Mbx) : (s.setMbx c v).lock = s.lock := rfl
@[simp] theorem State.setMbx_gaf (s : State) (c : Nat) (v : Mbx) : (s.setMbx c v).gaf = s.gaf := rfl
@[simp] theorem State.setMbx_tbu (s : State) (c : Nat) (v : Mbx) : (s.setMbx c v).tbu = s.tbu := rfl
@[simp] theorem State.setMbx_mod (s : State) (c : Nat) (v : Mbx) : (s.setMbx c v).mod = s.mod := rfl
@[simp] theorem State.setMbx_trm (s : State) (c : Nat) (v : Mbx) : (s.setMbx c v).trm = s.trm := rfl
@[simp] theorem State.setMbx_gdv (s : State) (c : Nat) (v : Mbx) : (s.setMbx c v).gdv = s.gdv := rfl
@[simp] theorem State.setMbx_fb (s : State) (c : Nat) (v : Mbx) : (s.setMbx c v).fb = s.fb := rfl
@[simp] theorem State.setMbx_lpe (s : State) (c : Nat) (v : Mbx) : (s.setMbx c v).lpe = s.lpe := rfl
@[simp] theorem State.setMbx_cmus (s : State) (c : Nat) (v : Mbx) : (s.setMbx c v).cmus = s.cmus := rfl
@[simp] theorem State.setMbx_gbx (s : State) (c : Nat) (v : Mbx) : (s.setMbx c v).gbx = s.gbx := rfl
@[simp] theorem State.setMbx_sxe (s : State) (c : Nat) (v : Mbx) : (s.setMbx c v).sxe = s.sxe := rfl
@[simp] theorem State.setMbx_vlvs (s : State) (c : Nat) (v : Mbx) : (s.setMbx c v).vlvs = s.vlvs := rfl
@[simp] theorem State.setMbx_vlvPeak (s : State) (c : Nat) (v : Mbx) : (s.setMbx c v).vlvPeak = s.vlvPeak := rfl
@[simp] theorem State.setMbx_rpl (s : State) (c : Nat) (v : Mbx) : (s.setMbx c v).rpl = s.rpl := rfl
@[simp] theorem State.setMbx_rplLast (s : State) (c : Nat) (v : Mbx) : (s.setMbx c v).rplLast = s.rplLast := rfl
@[simp] theorem State.setMbx_rails (s : State) (c : Nat) (v : Mbx) : (s.setMbx c v).rails = s.rails := rfl
@[simp] theorem State.setMbx_aon (s : State) (c : Nat) (v : Mbx) : (s.setMbx c v).aon = s.aon := rfl
@[simp] theorem State.setMbx_ppm (s : State) (c : Nat) (v : Mbx) : (s.setMbx c v).ppm = s.ppm := rfl
@[simp] theorem State.setMbx_dcl (s : State) (c : Nat) (v : Mbx) : (s.setMbx c v).dcl = s.dcl := rfl
@[simp] theorem State.setMbx_prec (s : State) (c : Nat) (v : Mbx) : (s.setMbx c v).prec = s.prec := rfl
@[simp] theorem State.setMbx_thm (s : State) (c : Nat) (v : Mbx) : (s.setMbx c v).thm = s.thm := rfl
@[simp] theorem State.setMbx_afe (s : State) (c : Nat) (v : Mbx) : (s.setMbx c v).afe = s.afe := rfl
@[simp] theorem State.setMbx_saf (s : State) (c : Nat) (v : Mbx) : (s.setMbx c v).saf = s.saf := rfl
@[simp] theorem State.setMbx_hif (s : State) (c : Nat) (v : Mbx) : (s.setMbx c v).hif = s.hif := rfl
@[simp] theorem State.setMbx_mbx (s : State) (c : Nat) (v : Mbx) : (s.setMbx c v).mbx = put s.mbx c v := rfl
@[simp] theorem State.setMbx_evr (s : State) (c : Nat) (v : Mbx) : (s.setMbx c v).evr = s.evr := rfl
@[simp] theorem State.setMbx_cans (s : State) (c : Nat) (v : Mbx) : (s.setMbx c v).cans = s.cans := rfl
@[simp] theorem State.setMbx_canTsHi (s : State) (c : Nat) (v : Mbx) : (s.setMbx c v).canTsHi = s.canTsHi := rfl
@[simp] theorem State.setMbx_mem (s : State) (c : Nat) (v : Mbx) : (s.setMbx c v).mem = s.mem := rfl
@[simp] theorem State.setMbx_secu (s : State) (c : Nat) (v : Mbx) : (s.setMbx c v).secu = s.secu := rfl
@[simp] theorem State.setMbx_readout (s : State) (c : Nat) (v : Mbx) : (s.setMbx c v).readout = s.readout := rfl
@[simp] theorem State.setMbx_free (s : State) (c : Nat) (v : Mbx) : (s.setMbx c v).free = s.free := rfl
@[simp] theorem State.setMbx_pending (s : State) (c : Nat) (v : Mbx) : (s.setMbx c v).pending = s.pending := rfl

/-! ### setCan -/

@[simp] theorem State.setCan_now (s : State) (k : Nat) (v : Can) : (s.setCan k v).now = s.now := rfl
@[simp] theorem State.setCan_supply (s : State) (k : Nat) (v : Can) : (s.setCan k v).supply = s.supply := rfl
@[simp] theorem State.setCan_regs (s : State) (k : Nat) (v : Can) : (s.setCan k v).regs = s.regs := rfl
@[simp] theorem State.setCan_lock (s : State) (k : Nat) (v : Can) : (s.setCan k v).lock = s.lock := rfl
@[simp] theorem State.setCan_gaf (s : State) (k : Nat) (v : Can) : (s.setCan k v).gaf = s.gaf := rfl
@[simp] theorem State.setCan_tbu (s : State) (k : Nat) (v : Can) : (s.setCan k v).tbu = s.tbu := rfl
@[simp] theorem State.setCan_mod (s : State) (k : Nat) (v : Can) : (s.setCan k v).mod = s.mod := rfl
@[simp] theorem State.setCan_trm (s : State) (k : Nat) (v : Can) : (s.setCan k v).trm = s.trm := rfl
@[simp] theorem State.setCan_gdv (s : State) (k : Nat) (v : Can) : (s.setCan k v).gdv = s.gdv := rfl
@[simp] theorem State.setCan_fb (s : State) (k : Nat) (v : Can) : (s.setCan k v).fb = s.fb := rfl
@[simp] theorem State.setCan_lpe (s : State) (k : Nat) (v : Can) : (s.setCan k v).lpe = s.lpe := rfl
@[simp] theorem State.setCan_cmus (s : State) (k : Nat) (v : Can) : (s.setCan k v).cmus = s.cmus := rfl
@[simp] theorem State.setCan_gbx (s : State) (k : Nat) (v : Can) : (s.setCan k v).gbx = s.gbx := rfl
@[simp] theorem State.setCan_sxe (s : State) (k : Nat) (v : Can) : (s.setCan k v).sxe = s.sxe := rfl
@[simp] theorem State.setCan_vlvs (s : State) (k : Nat) (v : Can) : (s.setCan k v).vlvs = s.vlvs := rfl
@[simp] theorem State.setCan_vlvPeak (s : State) (k : Nat) (v : Can) : (s.setCan k v).vlvPeak = s.vlvPeak := rfl
@[simp] theorem State.setCan_rpl (s : State) (k : Nat) (v : Can) : (s.setCan k v).rpl = s.rpl := rfl
@[simp] theorem State.setCan_rplLast (s : State) (k : Nat) (v : Can) : (s.setCan k v).rplLast = s.rplLast := rfl
@[simp] theorem State.setCan_rails (s : State) (k : Nat) (v : Can) : (s.setCan k v).rails = s.rails := rfl
@[simp] theorem State.setCan_aon (s : State) (k : Nat) (v : Can) : (s.setCan k v).aon = s.aon := rfl
@[simp] theorem State.setCan_ppm (s : State) (k : Nat) (v : Can) : (s.setCan k v).ppm = s.ppm := rfl
@[simp] theorem State.setCan_dcl (s : State) (k : Nat) (v : Can) : (s.setCan k v).dcl = s.dcl := rfl
@[simp] theorem State.setCan_prec (s : State) (k : Nat) (v : Can) : (s.setCan k v).prec = s.prec := rfl
@[simp] theorem State.setCan_thm (s : State) (k : Nat) (v : Can) : (s.setCan k v).thm = s.thm := rfl
@[simp] theorem State.setCan_afe (s : State) (k : Nat) (v : Can) : (s.setCan k v).afe = s.afe := rfl
@[simp] theorem State.setCan_saf (s : State) (k : Nat) (v : Can) : (s.setCan k v).saf = s.saf := rfl
@[simp] theorem State.setCan_hif (s : State) (k : Nat) (v : Can) : (s.setCan k v).hif = s.hif := rfl
@[simp] theorem State.setCan_mbx (s : State) (k : Nat) (v : Can) : (s.setCan k v).mbx = s.mbx := rfl
@[simp] theorem State.setCan_evr (s : State) (k : Nat) (v : Can) : (s.setCan k v).evr = s.evr := rfl
@[simp] theorem State.setCan_cans (s : State) (k : Nat) (v : Can) : (s.setCan k v).cans = put s.cans k v := rfl
@[simp] theorem State.setCan_canTsHi (s : State) (k : Nat) (v : Can) : (s.setCan k v).canTsHi = s.canTsHi := rfl
@[simp] theorem State.setCan_mem (s : State) (k : Nat) (v : Can) : (s.setCan k v).mem = s.mem := rfl
@[simp] theorem State.setCan_secu (s : State) (k : Nat) (v : Can) : (s.setCan k v).secu = s.secu := rfl
@[simp] theorem State.setCan_readout (s : State) (k : Nat) (v : Can) : (s.setCan k v).readout = s.readout := rfl
@[simp] theorem State.setCan_free (s : State) (k : Nat) (v : Can) : (s.setCan k v).free = s.free := rfl
@[simp] theorem State.setCan_pending (s : State) (k : Nat) (v : Can) : (s.setCan k v).pending = s.pending := rfl

/-! ### setGaf -/

@[simp] theorem State.setGaf_now (s : State) (v : Gaf) : (s.setGaf v).now = s.now := rfl
@[simp] theorem State.setGaf_supply (s : State) (v : Gaf) : (s.setGaf v).supply = s.supply := rfl
@[simp] theorem State.setGaf_regs (s : State) (v : Gaf) : (s.setGaf v).regs = s.regs := rfl
@[simp] theorem State.setGaf_lock (s : State) (v : Gaf) : (s.setGaf v).lock = s.lock := rfl
@[simp] theorem State.setGaf_gaf (s : State) (v : Gaf) : (s.setGaf v).gaf = v := rfl
@[simp] theorem State.setGaf_tbu (s : State) (v : Gaf) : (s.setGaf v).tbu = s.tbu := rfl
@[simp] theorem State.setGaf_mod (s : State) (v : Gaf) : (s.setGaf v).mod = s.mod := rfl
@[simp] theorem State.setGaf_trm (s : State) (v : Gaf) : (s.setGaf v).trm = s.trm := rfl
@[simp] theorem State.setGaf_gdv (s : State) (v : Gaf) : (s.setGaf v).gdv = s.gdv := rfl
@[simp] theorem State.setGaf_fb (s : State) (v : Gaf) : (s.setGaf v).fb = s.fb := rfl
@[simp] theorem State.setGaf_lpe (s : State) (v : Gaf) : (s.setGaf v).lpe = s.lpe := rfl
@[simp] theorem State.setGaf_cmus (s : State) (v : Gaf) : (s.setGaf v).cmus = s.cmus := rfl
@[simp] theorem State.setGaf_gbx (s : State) (v : Gaf) : (s.setGaf v).gbx = s.gbx := rfl
@[simp] theorem State.setGaf_sxe (s : State) (v : Gaf) : (s.setGaf v).sxe = s.sxe := rfl
@[simp] theorem State.setGaf_vlvs (s : State) (v : Gaf) : (s.setGaf v).vlvs = s.vlvs := rfl
@[simp] theorem State.setGaf_vlvPeak (s : State) (v : Gaf) : (s.setGaf v).vlvPeak = s.vlvPeak := rfl
@[simp] theorem State.setGaf_rpl (s : State) (v : Gaf) : (s.setGaf v).rpl = s.rpl := rfl
@[simp] theorem State.setGaf_rplLast (s : State) (v : Gaf) : (s.setGaf v).rplLast = s.rplLast := rfl
@[simp] theorem State.setGaf_rails (s : State) (v : Gaf) : (s.setGaf v).rails = s.rails := rfl
@[simp] theorem State.setGaf_aon (s : State) (v : Gaf) : (s.setGaf v).aon = s.aon := rfl
@[simp] theorem State.setGaf_ppm (s : State) (v : Gaf) : (s.setGaf v).ppm = s.ppm := rfl
@[simp] theorem State.setGaf_dcl (s : State) (v : Gaf) : (s.setGaf v).dcl = s.dcl := rfl
@[simp] theorem State.setGaf_prec (s : State) (v : Gaf) : (s.setGaf v).prec = s.prec := rfl
@[simp] theorem State.setGaf_thm (s : State) (v : Gaf) : (s.setGaf v).thm = s.thm := rfl
@[simp] theorem State.setGaf_afe (s : State) (v : Gaf) : (s.setGaf v).afe = s.afe := rfl
@[simp] theorem State.setGaf_saf (s : State) (v : Gaf) : (s.setGaf v).saf = s.saf := rfl
@[simp] theorem State.setGaf_hif (s : State) (v : Gaf) : (s.setGaf v).hif = s.hif := rfl
@[simp] theorem State.setGaf_mbx (s : State) (v : Gaf) : (s.setGaf v).mbx = s.mbx := rfl
@[simp] theorem State.setGaf_evr (s : State) (v : Gaf) : (s.setGaf v).evr = s.evr := rfl
@[simp] theorem State.setGaf_cans (s : State) (v : Gaf) : (s.setGaf v).cans = s.cans := rfl
@[simp] theorem State.setGaf_canTsHi (s : State) (v : Gaf) : (s.setGaf v).canTsHi = s.canTsHi := rfl
@[simp] theorem State.setGaf_mem (s : State) (v : Gaf) : (s.setGaf v).mem = s.mem := rfl
@[simp] theorem State.setGaf_secu (s : State) (v : Gaf) : (s.setGaf v).secu = s.secu := rfl
@[simp] theorem State.setGaf_readout (s : State) (v : Gaf) : (s.setGaf v).readout = s.readout := rfl
@[simp] theorem State.setGaf_free (s : State) (v : Gaf) : (s.setGaf v).free = s.free := rfl
@[simp] theorem State.setGaf_pending (s : State) (v : Gaf) : (s.setGaf v).pending = s.pending := rfl

/-! ### domPut -/

@[simp] theorem State.domPut_now (s : State) (d : Nat) (v : DomSt) : (s.domPut d v).now = s.now := rfl
@[simp] theorem State.domPut_supply (s : State) (d : Nat) (v : DomSt) : (s.domPut d v).supply = s.supply := rfl
@[simp] theorem State.domPut_regs (s : State) (d : Nat) (v : DomSt) : (s.domPut d v).regs = s.regs := rfl
@[simp] theorem State.domPut_lock (s : State) (d : Nat) (v : DomSt) : (s.domPut d v).lock = s.lock := rfl
@[simp] theorem State.domPut_gaf (s : State) (d : Nat) (v : DomSt) : (s.domPut d v).gaf = { s.gaf with dom := put s.gaf.dom d v } := rfl
@[simp] theorem State.domPut_tbu (s : State) (d : Nat) (v : DomSt) : (s.domPut d v).tbu = s.tbu := rfl
@[simp] theorem State.domPut_mod (s : State) (d : Nat) (v : DomSt) : (s.domPut d v).mod = s.mod := rfl
@[simp] theorem State.domPut_trm (s : State) (d : Nat) (v : DomSt) : (s.domPut d v).trm = s.trm := rfl
@[simp] theorem State.domPut_gdv (s : State) (d : Nat) (v : DomSt) : (s.domPut d v).gdv = s.gdv := rfl
@[simp] theorem State.domPut_fb (s : State) (d : Nat) (v : DomSt) : (s.domPut d v).fb = s.fb := rfl
@[simp] theorem State.domPut_lpe (s : State) (d : Nat) (v : DomSt) : (s.domPut d v).lpe = s.lpe := rfl
@[simp] theorem State.domPut_cmus (s : State) (d : Nat) (v : DomSt) : (s.domPut d v).cmus = s.cmus := rfl
@[simp] theorem State.domPut_gbx (s : State) (d : Nat) (v : DomSt) : (s.domPut d v).gbx = s.gbx := rfl
@[simp] theorem State.domPut_sxe (s : State) (d : Nat) (v : DomSt) : (s.domPut d v).sxe = s.sxe := rfl
@[simp] theorem State.domPut_vlvs (s : State) (d : Nat) (v : DomSt) : (s.domPut d v).vlvs = s.vlvs := rfl
@[simp] theorem State.domPut_vlvPeak (s : State) (d : Nat) (v : DomSt) : (s.domPut d v).vlvPeak = s.vlvPeak := rfl
@[simp] theorem State.domPut_rpl (s : State) (d : Nat) (v : DomSt) : (s.domPut d v).rpl = s.rpl := rfl
@[simp] theorem State.domPut_rplLast (s : State) (d : Nat) (v : DomSt) : (s.domPut d v).rplLast = s.rplLast := rfl
@[simp] theorem State.domPut_rails (s : State) (d : Nat) (v : DomSt) : (s.domPut d v).rails = s.rails := rfl
@[simp] theorem State.domPut_aon (s : State) (d : Nat) (v : DomSt) : (s.domPut d v).aon = s.aon := rfl
@[simp] theorem State.domPut_ppm (s : State) (d : Nat) (v : DomSt) : (s.domPut d v).ppm = s.ppm := rfl
@[simp] theorem State.domPut_dcl (s : State) (d : Nat) (v : DomSt) : (s.domPut d v).dcl = s.dcl := rfl
@[simp] theorem State.domPut_prec (s : State) (d : Nat) (v : DomSt) : (s.domPut d v).prec = s.prec := rfl
@[simp] theorem State.domPut_thm (s : State) (d : Nat) (v : DomSt) : (s.domPut d v).thm = s.thm := rfl
@[simp] theorem State.domPut_afe (s : State) (d : Nat) (v : DomSt) : (s.domPut d v).afe = s.afe := rfl
@[simp] theorem State.domPut_saf (s : State) (d : Nat) (v : DomSt) : (s.domPut d v).saf = s.saf := rfl
@[simp] theorem State.domPut_hif (s : State) (d : Nat) (v : DomSt) : (s.domPut d v).hif = s.hif := rfl
@[simp] theorem State.domPut_mbx (s : State) (d : Nat) (v : DomSt) : (s.domPut d v).mbx = s.mbx := rfl
@[simp] theorem State.domPut_evr (s : State) (d : Nat) (v : DomSt) : (s.domPut d v).evr = s.evr := rfl
@[simp] theorem State.domPut_cans (s : State) (d : Nat) (v : DomSt) : (s.domPut d v).cans = s.cans := rfl
@[simp] theorem State.domPut_canTsHi (s : State) (d : Nat) (v : DomSt) : (s.domPut d v).canTsHi = s.canTsHi := rfl
@[simp] theorem State.domPut_mem (s : State) (d : Nat) (v : DomSt) : (s.domPut d v).mem = s.mem := rfl
@[simp] theorem State.domPut_secu (s : State) (d : Nat) (v : DomSt) : (s.domPut d v).secu = s.secu := rfl
@[simp] theorem State.domPut_readout (s : State) (d : Nat) (v : DomSt) : (s.domPut d v).readout = s.readout := rfl
@[simp] theorem State.domPut_free (s : State) (d : Nat) (v : DomSt) : (s.domPut d v).free = s.free := rfl
@[simp] theorem State.domPut_pending (s : State) (d : Nat) (v : DomSt) : (s.domPut d v).pending = s.pending := rfl

/-! ### setSecu -/

@[simp] theorem State.setSecu_now (s : State) (v : Secu) : (s.setSecu v).now = s.now := rfl
@[simp] theorem State.setSecu_supply (s : State) (v : Secu) : (s.setSecu v).supply = s.supply := rfl
@[simp] theorem State.setSecu_regs (s : State) (v : Secu) : (s.setSecu v).regs = s.regs := rfl
@[simp] theorem State.setSecu_lock (s : State) (v : Secu) : (s.setSecu v).lock = s.lock := rfl
@[simp] theorem State.setSecu_gaf (s : State) (v : Secu) : (s.setSecu v).gaf = s.gaf := rfl
@[simp] theorem State.setSecu_tbu (s : State) (v : Secu) : (s.setSecu v).tbu = s.tbu := rfl
@[simp] theorem State.setSecu_mod (s : State) (v : Secu) : (s.setSecu v).mod = s.mod := rfl
@[simp] theorem State.setSecu_trm (s : State) (v : Secu) : (s.setSecu v).trm = s.trm := rfl
@[simp] theorem State.setSecu_gdv (s : State) (v : Secu) : (s.setSecu v).gdv = s.gdv := rfl
@[simp] theorem State.setSecu_fb (s : State) (v : Secu) : (s.setSecu v).fb = s.fb := rfl
@[simp] theorem State.setSecu_lpe (s : State) (v : Secu) : (s.setSecu v).lpe = s.lpe := rfl
@[simp] theorem State.setSecu_cmus (s : State) (v : Secu) : (s.setSecu v).cmus = s.cmus := rfl
@[simp] theorem State.setSecu_gbx (s : State) (v : Secu) : (s.setSecu v).gbx = s.gbx := rfl
@[simp] theorem State.setSecu_sxe (s : State) (v : Secu) : (s.setSecu v).sxe = s.sxe := rfl
@[simp] theorem State.setSecu_vlvs (s : State) (v : Secu) : (s.setSecu v).vlvs = s.vlvs := rfl
@[simp] theorem State.setSecu_vlvPeak (s : State) (v : Secu) : (s.setSecu v).vlvPeak = s.vlvPeak := rfl
@[simp] theorem State.setSecu_rpl (s : State) (v : Secu) : (s.setSecu v).rpl = s.rpl := rfl
@[simp] theorem State.setSecu_rplLast (s : State) (v : Secu) : (s.setSecu v).rplLast = s.rplLast := rfl
@[simp] theorem State.setSecu_rails (s : State) (v : Secu) : (s.setSecu v).rails = s.rails := rfl
@[simp] theorem State.setSecu_aon (s : State) (v : Secu) : (s.setSecu v).aon = s.aon := rfl
@[simp] theorem State.setSecu_ppm (s : State) (v : Secu) : (s.setSecu v).ppm = s.ppm := rfl
@[simp] theorem State.setSecu_dcl (s : State) (v : Secu) : (s.setSecu v).dcl = s.dcl := rfl
@[simp] theorem State.setSecu_prec (s : State) (v : Secu) : (s.setSecu v).prec = s.prec := rfl
@[simp] theorem State.setSecu_thm (s : State) (v : Secu) : (s.setSecu v).thm = s.thm := rfl
@[simp] theorem State.setSecu_afe (s : State) (v : Secu) : (s.setSecu v).afe = s.afe := rfl
@[simp] theorem State.setSecu_saf (s : State) (v : Secu) : (s.setSecu v).saf = s.saf := rfl
@[simp] theorem State.setSecu_hif (s : State) (v : Secu) : (s.setSecu v).hif = s.hif := rfl
@[simp] theorem State.setSecu_mbx (s : State) (v : Secu) : (s.setSecu v).mbx = s.mbx := rfl
@[simp] theorem State.setSecu_evr (s : State) (v : Secu) : (s.setSecu v).evr = s.evr := rfl
@[simp] theorem State.setSecu_cans (s : State) (v : Secu) : (s.setSecu v).cans = s.cans := rfl
@[simp] theorem State.setSecu_canTsHi (s : State) (v : Secu) : (s.setSecu v).canTsHi = s.canTsHi := rfl
@[simp] theorem State.setSecu_mem (s : State) (v : Secu) : (s.setSecu v).mem = s.mem := rfl
@[simp] theorem State.setSecu_secu (s : State) (v : Secu) : (s.setSecu v).secu = v := rfl
@[simp] theorem State.setSecu_readout (s : State) (v : Secu) : (s.setSecu v).readout = s.readout := rfl
@[simp] theorem State.setSecu_free (s : State) (v : Secu) : (s.setSecu v).free = s.free := rfl
@[simp] theorem State.setSecu_pending (s : State) (v : Secu) : (s.setSecu v).pending = s.pending := rfl

/-! ### setEccMem -/

@[simp] theorem State.setEccMem_now (s : State) (m : Nat) (v : EccMem) : (s.setEccMem m v).now = s.now := rfl
@[simp] theorem State.setEccMem_supply (s : State) (m : Nat) (v : EccMem) : (s.setEccMem m v).supply = s.supply := rfl
@[simp] theorem State.setEccMem_regs (s : State) (m : Nat) (v : EccMem) : (s.setEccMem m v).regs = s.regs := rfl
@[simp] theorem State.setEccMem_lock (s : State) (m : Nat) (v : EccMem) : (s.setEccMem m v).lock = s.lock := rfl
@[simp] theorem State.setEccMem_gaf (s : State) (m : Nat) (v : EccMem) : (s.setEccMem m v).gaf = s.gaf := rfl
@[simp] theorem State.setEccMem_tbu (s : State) (m : Nat) (v : EccMem) : (s.setEccMem m v).tbu = s.tbu := rfl
@[simp] theorem State.setEccMem_mod (s : State) (m : Nat) (v : EccMem) : (s.setEccMem m v).mod = s.mod := rfl
@[simp] theorem State.setEccMem_trm (s : State) (m : Nat) (v : EccMem) : (s.setEccMem m v).trm = s.trm := rfl
@[simp] theorem State.setEccMem_gdv (s : State) (m : Nat) (v : EccMem) : (s.setEccMem m v).gdv = s.gdv := rfl
@[simp] theorem State.setEccMem_fb (s : State) (m : Nat) (v : EccMem) : (s.setEccMem m v).fb = s.fb := rfl
@[simp] theorem State.setEccMem_lpe (s : State) (m : Nat) (v : EccMem) : (s.setEccMem m v).lpe = s.lpe := rfl
@[simp] theorem State.setEccMem_cmus (s : State) (m : Nat) (v : EccMem) : (s.setEccMem m v).cmus = s.cmus := rfl
@[simp] theorem State.setEccMem_gbx (s : State) (m : Nat) (v : EccMem) : (s.setEccMem m v).gbx = s.gbx := rfl
@[simp] theorem State.setEccMem_sxe (s : State) (m : Nat) (v : EccMem) : (s.setEccMem m v).sxe = s.sxe := rfl
@[simp] theorem State.setEccMem_vlvs (s : State) (m : Nat) (v : EccMem) : (s.setEccMem m v).vlvs = s.vlvs := rfl
@[simp] theorem State.setEccMem_vlvPeak (s : State) (m : Nat) (v : EccMem) : (s.setEccMem m v).vlvPeak = s.vlvPeak := rfl
@[simp] theorem State.setEccMem_rpl (s : State) (m : Nat) (v : EccMem) : (s.setEccMem m v).rpl = s.rpl := rfl
@[simp] theorem State.setEccMem_rplLast (s : State) (m : Nat) (v : EccMem) : (s.setEccMem m v).rplLast = s.rplLast := rfl
@[simp] theorem State.setEccMem_rails (s : State) (m : Nat) (v : EccMem) : (s.setEccMem m v).rails = s.rails := rfl
@[simp] theorem State.setEccMem_aon (s : State) (m : Nat) (v : EccMem) : (s.setEccMem m v).aon = s.aon := rfl
@[simp] theorem State.setEccMem_ppm (s : State) (m : Nat) (v : EccMem) : (s.setEccMem m v).ppm = s.ppm := rfl
@[simp] theorem State.setEccMem_dcl (s : State) (m : Nat) (v : EccMem) : (s.setEccMem m v).dcl = s.dcl := rfl
@[simp] theorem State.setEccMem_prec (s : State) (m : Nat) (v : EccMem) : (s.setEccMem m v).prec = s.prec := rfl
@[simp] theorem State.setEccMem_thm (s : State) (m : Nat) (v : EccMem) : (s.setEccMem m v).thm = s.thm := rfl
@[simp] theorem State.setEccMem_afe (s : State) (m : Nat) (v : EccMem) : (s.setEccMem m v).afe = s.afe := rfl
@[simp] theorem State.setEccMem_saf (s : State) (m : Nat) (v : EccMem) : (s.setEccMem m v).saf = s.saf := rfl
@[simp] theorem State.setEccMem_hif (s : State) (m : Nat) (v : EccMem) : (s.setEccMem m v).hif = s.hif := rfl
@[simp] theorem State.setEccMem_mbx (s : State) (m : Nat) (v : EccMem) : (s.setEccMem m v).mbx = s.mbx := rfl
@[simp] theorem State.setEccMem_evr (s : State) (m : Nat) (v : EccMem) : (s.setEccMem m v).evr = s.evr := rfl
@[simp] theorem State.setEccMem_cans (s : State) (m : Nat) (v : EccMem) : (s.setEccMem m v).cans = s.cans := rfl
@[simp] theorem State.setEccMem_canTsHi (s : State) (m : Nat) (v : EccMem) : (s.setEccMem m v).canTsHi = s.canTsHi := rfl
@[simp] theorem State.setEccMem_mem (s : State) (m : Nat) (v : EccMem) : (s.setEccMem m v).mem = { s.mem with mems := put s.mem.mems m v } := rfl
@[simp] theorem State.setEccMem_secu (s : State) (m : Nat) (v : EccMem) : (s.setEccMem m v).secu = s.secu := rfl
@[simp] theorem State.setEccMem_readout (s : State) (m : Nat) (v : EccMem) : (s.setEccMem m v).readout = s.readout := rfl
@[simp] theorem State.setEccMem_free (s : State) (m : Nat) (v : EccMem) : (s.setEccMem m v).free = s.free := rfl
@[simp] theorem State.setEccMem_pending (s : State) (m : Nat) (v : EccMem) : (s.setEccMem m v).pending = s.pending := rfl

/-! ### setReg -/

@[simp] theorem State.setReg_now (s : State) (k v : Nat) : (s.setReg k v).now = s.now := rfl
@[simp] theorem State.setReg_supply (s : State) (k v : Nat) : (s.setReg k v).supply = s.supply := rfl
@[simp] theorem State.setReg_regs (s : State) (k v : Nat) : (s.setReg k v).regs = put s.regs k (BitVec.ofNat 32 v) := rfl
@[simp] theorem State.setReg_lock (s : State) (k v : Nat) : (s.setReg k v).lock = s.lock := rfl
@[simp] theorem State.setReg_gaf (s : State) (k v : Nat) : (s.setReg k v).gaf = s.gaf := rfl
@[simp] theorem State.setReg_tbu (s : State) (k v : Nat) : (s.setReg k v).tbu = s.tbu := rfl
@[simp] theorem State.setReg_mod (s : State) (k v : Nat) : (s.setReg k v).mod = s.mod := rfl
@[simp] theorem State.setReg_trm (s : State) (k v : Nat) : (s.setReg k v).trm = s.trm := rfl
@[simp] theorem State.setReg_gdv (s : State) (k v : Nat) : (s.setReg k v).gdv = s.gdv := rfl
@[simp] theorem State.setReg_fb (s : State) (k v : Nat) : (s.setReg k v).fb = s.fb := rfl
@[simp] theorem State.setReg_lpe (s : State) (k v : Nat) : (s.setReg k v).lpe = s.lpe := rfl
@[simp] theorem State.setReg_cmus (s : State) (k v : Nat) : (s.setReg k v).cmus = s.cmus := rfl
@[simp] theorem State.setReg_gbx (s : State) (k v : Nat) : (s.setReg k v).gbx = s.gbx := rfl
@[simp] theorem State.setReg_sxe (s : State) (k v : Nat) : (s.setReg k v).sxe = s.sxe := rfl
@[simp] theorem State.setReg_vlvs (s : State) (k v : Nat) : (s.setReg k v).vlvs = s.vlvs := rfl
@[simp] theorem State.setReg_vlvPeak (s : State) (k v : Nat) : (s.setReg k v).vlvPeak = s.vlvPeak := rfl
@[simp] theorem State.setReg_rpl (s : State) (k v : Nat) : (s.setReg k v).rpl = s.rpl := rfl
@[simp] theorem State.setReg_rplLast (s : State) (k v : Nat) : (s.setReg k v).rplLast = s.rplLast := rfl
@[simp] theorem State.setReg_rails (s : State) (k v : Nat) : (s.setReg k v).rails = s.rails := rfl
@[simp] theorem State.setReg_aon (s : State) (k v : Nat) : (s.setReg k v).aon = s.aon := rfl
@[simp] theorem State.setReg_ppm (s : State) (k v : Nat) : (s.setReg k v).ppm = s.ppm := rfl
@[simp] theorem State.setReg_dcl (s : State) (k v : Nat) : (s.setReg k v).dcl = s.dcl := rfl
@[simp] theorem State.setReg_prec (s : State) (k v : Nat) : (s.setReg k v).prec = s.prec := rfl
@[simp] theorem State.setReg_thm (s : State) (k v : Nat) : (s.setReg k v).thm = s.thm := rfl
@[simp] theorem State.setReg_afe (s : State) (k v : Nat) : (s.setReg k v).afe = s.afe := rfl
@[simp] theorem State.setReg_saf (s : State) (k v : Nat) : (s.setReg k v).saf = s.saf := rfl
@[simp] theorem State.setReg_hif (s : State) (k v : Nat) : (s.setReg k v).hif = s.hif := rfl
@[simp] theorem State.setReg_mbx (s : State) (k v : Nat) : (s.setReg k v).mbx = s.mbx := rfl
@[simp] theorem State.setReg_evr (s : State) (k v : Nat) : (s.setReg k v).evr = s.evr := rfl
@[simp] theorem State.setReg_cans (s : State) (k v : Nat) : (s.setReg k v).cans = s.cans := rfl
@[simp] theorem State.setReg_canTsHi (s : State) (k v : Nat) : (s.setReg k v).canTsHi = s.canTsHi := rfl
@[simp] theorem State.setReg_mem (s : State) (k v : Nat) : (s.setReg k v).mem = s.mem := rfl
@[simp] theorem State.setReg_secu (s : State) (k v : Nat) : (s.setReg k v).secu = s.secu := rfl
@[simp] theorem State.setReg_readout (s : State) (k v : Nat) : (s.setReg k v).readout = s.readout := rfl
@[simp] theorem State.setReg_free (s : State) (k v : Nat) : (s.setReg k v).free = s.free := rfl
@[simp] theorem State.setReg_pending (s : State) (k v : Nat) : (s.setReg k v).pending = s.pending := rfl

/-! ### keeping -/

@[simp] theorem State.keeping_now (s' s : State) : (s'.keeping s).now = s.now := rfl
@[simp] theorem State.keeping_supply (s' s : State) : (s'.keeping s).supply = s'.supply := rfl
@[simp] theorem State.keeping_regs (s' s : State) : (s'.keeping s).regs = s.regs := rfl
@[simp] theorem State.keeping_lock (s' s : State) : (s'.keeping s).lock = s.lock := rfl
@[simp] theorem State.keeping_gaf (s' s : State) : (s'.keeping s).gaf = s'.gaf := rfl
@[simp] theorem State.keeping_tbu (s' s : State) : (s'.keeping s).tbu = s'.tbu := rfl
@[simp] theorem State.keeping_mod (s' s : State) : (s'.keeping s).mod = s'.mod := rfl
@[simp] theorem State.keeping_trm (s' s : State) : (s'.keeping s).trm = s'.trm := rfl
@[simp] theorem State.keeping_gdv (s' s : State) : (s'.keeping s).gdv = s'.gdv := rfl
@[simp] theorem State.keeping_fb (s' s : State) : (s'.keeping s).fb = s'.fb := rfl
@[simp] theorem State.keeping_lpe (s' s : State) : (s'.keeping s).lpe = s'.lpe := rfl
@[simp] theorem State.keeping_cmus (s' s : State) : (s'.keeping s).cmus = s'.cmus := rfl
@[simp] theorem State.keeping_gbx (s' s : State) : (s'.keeping s).gbx = s'.gbx := rfl
@[simp] theorem State.keeping_sxe (s' s : State) : (s'.keeping s).sxe = s'.sxe := rfl
@[simp] theorem State.keeping_vlvs (s' s : State) : (s'.keeping s).vlvs = s'.vlvs := rfl
@[simp] theorem State.keeping_vlvPeak (s' s : State) : (s'.keeping s).vlvPeak = s'.vlvPeak := rfl
@[simp] theorem State.keeping_rpl (s' s : State) : (s'.keeping s).rpl = s'.rpl := rfl
@[simp] theorem State.keeping_rplLast (s' s : State) : (s'.keeping s).rplLast = s'.rplLast := rfl
@[simp] theorem State.keeping_rails (s' s : State) : (s'.keeping s).rails = s'.rails := rfl
@[simp] theorem State.keeping_aon (s' s : State) : (s'.keeping s).aon = s'.aon := rfl
@[simp] theorem State.keeping_ppm (s' s : State) : (s'.keeping s).ppm = s'.ppm := rfl
@[simp] theorem State.keeping_dcl (s' s : State) : (s'.keeping s).dcl = s'.dcl := rfl
@[simp] theorem State.keeping_prec (s' s : State) : (s'.keeping s).prec = s'.prec := rfl
@[simp] theorem State.keeping_thm (s' s : State) : (s'.keeping s).thm = s'.thm := rfl
@[simp] theorem State.keeping_afe (s' s : State) : (s'.keeping s).afe = s'.afe := rfl
@[simp] theorem State.keeping_saf (s' s : State) : (s'.keeping s).saf = s'.saf := rfl
@[simp] theorem State.keeping_hif (s' s : State) : (s'.keeping s).hif = s'.hif := rfl
@[simp] theorem State.keeping_mbx (s' s : State) : (s'.keeping s).mbx = s'.mbx := rfl
@[simp] theorem State.keeping_evr (s' s : State) : (s'.keeping s).evr = s'.evr := rfl
@[simp] theorem State.keeping_cans (s' s : State) : (s'.keeping s).cans = s'.cans := rfl
@[simp] theorem State.keeping_canTsHi (s' s : State) : (s'.keeping s).canTsHi = s'.canTsHi := rfl
@[simp] theorem State.keeping_mem (s' s : State) : (s'.keeping s).mem = s'.mem := rfl
@[simp] theorem State.keeping_secu (s' s : State) : (s'.keeping s).secu = s'.secu := rfl
@[simp] theorem State.keeping_readout (s' s : State) : (s'.keeping s).readout = s'.readout := rfl
@[simp] theorem State.keeping_free (s' s : State) : (s'.keeping s).free = s'.free := rfl
@[simp] theorem State.keeping_pending (s' s : State) : (s'.keeping s).pending = s.pending := rfl

/-! ### queueing -/

@[simp] theorem State.queueing_now (s' s : State) : (s'.queueing s).now = s.now := rfl
@[simp] theorem State.queueing_supply (s' s : State) : (s'.queueing s).supply = s'.supply := rfl
@[simp] theorem State.queueing_regs (s' s : State) : (s'.queueing s).regs = s'.regs := rfl
@[simp] theorem State.queueing_lock (s' s : State) : (s'.queueing s).lock = s'.lock := rfl
@[simp] theorem State.queueing_gaf (s' s : State) : (s'.queueing s).gaf = s'.gaf := rfl
@[simp] theorem State.queueing_tbu (s' s : State) : (s'.queueing s).tbu = s'.tbu := rfl
@[simp] theorem State.queueing_mod (s' s : State) : (s'.queueing s).mod = s'.mod := rfl
@[simp] theorem State.queueing_trm (s' s : State) : (s'.queueing s).trm = s'.trm := rfl
@[simp] theorem State.queueing_gdv (s' s : State) : (s'.queueing s).gdv = s'.gdv := rfl
@[simp] theorem State.queueing_fb (s' s : State) : (s'.queueing s).fb = s'.fb := rfl
@[simp] theorem State.queueing_lpe (s' s : State) : (s'.queueing s).lpe = s'.lpe := rfl
@[simp] theorem State.queueing_cmus (s' s : State) : (s'.queueing s).cmus = s'.cmus := rfl
@[simp] theorem State.queueing_gbx (s' s : State) : (s'.queueing s).gbx = s'.gbx := rfl
@[simp] theorem State.queueing_sxe (s' s : State) : (s'.queueing s).sxe = s'.sxe := rfl
@[simp] theorem State.queueing_vlvs (s' s : State) : (s'.queueing s).vlvs = s'.vlvs := rfl
@[simp] theorem State.queueing_vlvPeak (s' s : State) : (s'.queueing s).vlvPeak = s'.vlvPeak := rfl
@[simp] theorem State.queueing_rpl (s' s : State) : (s'.queueing s).rpl = s'.rpl := rfl
@[simp] theorem State.queueing_rplLast (s' s : State) : (s'.queueing s).rplLast = s'.rplLast := rfl
@[simp] theorem State.queueing_rails (s' s : State) : (s'.queueing s).rails = s'.rails := rfl
@[simp] theorem State.queueing_aon (s' s : State) : (s'.queueing s).aon = s'.aon := rfl
@[simp] theorem State.queueing_ppm (s' s : State) : (s'.queueing s).ppm = s'.ppm := rfl
@[simp] theorem State.queueing_dcl (s' s : State) : (s'.queueing s).dcl = s'.dcl := rfl
@[simp] theorem State.queueing_prec (s' s : State) : (s'.queueing s).prec = s'.prec := rfl
@[simp] theorem State.queueing_thm (s' s : State) : (s'.queueing s).thm = s'.thm := rfl
@[simp] theorem State.queueing_afe (s' s : State) : (s'.queueing s).afe = s'.afe := rfl
@[simp] theorem State.queueing_saf (s' s : State) : (s'.queueing s).saf = s'.saf := rfl
@[simp] theorem State.queueing_hif (s' s : State) : (s'.queueing s).hif = s'.hif := rfl
@[simp] theorem State.queueing_mbx (s' s : State) : (s'.queueing s).mbx = s'.mbx := rfl
@[simp] theorem State.queueing_evr (s' s : State) : (s'.queueing s).evr = s'.evr := rfl
@[simp] theorem State.queueing_cans (s' s : State) : (s'.queueing s).cans = s'.cans := rfl
@[simp] theorem State.queueing_canTsHi (s' s : State) : (s'.queueing s).canTsHi = s'.canTsHi := rfl
@[simp] theorem State.queueing_mem (s' s : State) : (s'.queueing s).mem = s'.mem := rfl
@[simp] theorem State.queueing_secu (s' s : State) : (s'.queueing s).secu = s'.secu := rfl
@[simp] theorem State.queueing_readout (s' s : State) : (s'.queueing s).readout = s'.readout := rfl
@[simp] theorem State.queueing_free (s' s : State) : (s'.queueing s).free = s'.free := rfl
@[simp] theorem State.queueing_pending (s' s : State) : (s'.queueing s).pending = s.pending := rfl

end Sys2Proof.Machine
end

