-- ==== Sys2Proof/Laws/Ops.lean ====
section
/-! SUPPORT. For each shared operation, what it can change: one lemma that says it whole, and every other field
unchanged. -/

namespace Sys2Proof.Machine

/-- A quotient that is a whole number is not open. -/
theorem divOpen_of_dvd (a : Int) (b : Nat) (h : (b : Int) ∣ a) : divOpen a b = a / (b : Int) := by
  simp [divOpen, Int.emod_eq_zero_of_dvd h]

/-- Whatever is left open, the quotient is one of the two neighbours. -/
theorem divOpen_cases (a : Int) (b : Nat) : divOpen a b = a / (b : Int) ∨ divOpen a b = a / (b : Int) + 1 := by
  unfold divOpen
  split
  · exact .inl rfl
  · split
    · exact .inr rfl
    · exact .inl rfl

/-- Signalling a vector changes HIF only (R473). -/
theorem State.signal_only (s : State) (v : Nat) : ∃ v0, s.signal v = { s with hif := v0 } := by
  unfold State.signal
  split <;> exact ⟨_, rfl⟩

@[simp] theorem State.signal_now (s : State) (v : Nat) : (s.signal v).now = s.now := by
  obtain ⟨_, h⟩ := s.signal_only v; rw [h]
@[simp] theorem State.signal_supply (s : State) (v : Nat) : (s.signal v).supply = s.supply := by
  obtain ⟨_, h⟩ := s.signal_only v; rw [h]
@[simp] theorem State.signal_regs (s : State) (v : Nat) : (s.signal v).regs = s.regs := by
  obtain ⟨_, h⟩ := s.signal_only v; rw [h]
@[simp] theorem State.signal_lock (s : State) (v : Nat) : (s.signal v).lock = s.lock := by
  obtain ⟨_, h⟩ := s.signal_only v; rw [h]
@[simp] theorem State.signal_gaf (s : State) (v : Nat) : (s.signal v).gaf = s.gaf := by
  obtain ⟨_, h⟩ := s.signal_only v; rw [h]
@[simp] theorem State.signal_tbu (s : State) (v : Nat) : (s.signal v).tbu = s.tbu := by
  obtain ⟨_, h⟩ := s.signal_only v; rw [h]
@[simp] theorem State.signal_mod (s : State) (v : Nat) : (s.signal v).mod = s.mod := by
  obtain ⟨_, h⟩ := s.signal_only v; rw [h]
@[simp] theorem State.signal_trm (s : State) (v : Nat) : (s.signal v).trm = s.trm := by
  obtain ⟨_, h⟩ := s.signal_only v; rw [h]
@[simp] theorem State.signal_gdv (s : State) (v : Nat) : (s.signal v).gdv = s.gdv := by
  obtain ⟨_, h⟩ := s.signal_only v; rw [h]
@[simp] theorem State.signal_fb (s : State) (v : Nat) : (s.signal v).fb = s.fb := by
  obtain ⟨_, h⟩ := s.signal_only v; rw [h]
@[simp] theorem State.signal_lpe (s : State) (v : Nat) : (s.signal v).lpe = s.lpe := by
  obtain ⟨_, h⟩ := s.signal_only v; rw [h]
@[simp] theorem State.signal_cmus (s : State) (v : Nat) : (s.signal v).cmus = s.cmus := by
  obtain ⟨_, h⟩ := s.signal_only v; rw [h]
@[simp] theorem State.signal_gbx (s : State) (v : Nat) : (s.signal v).gbx = s.gbx := by
  obtain ⟨_, h⟩ := s.signal_only v; rw [h]
@[simp] theorem State.signal_sxe (s : State) (v : Nat) : (s.signal v).sxe = s.sxe := by
  obtain ⟨_, h⟩ := s.signal_only v; rw [h]
@[simp] theorem State.signal_vlvs (s : State) (v : Nat) : (s.signal v).vlvs = s.vlvs := by
  obtain ⟨_, h⟩ := s.signal_only v; rw [h]
@[simp] theorem State.signal_vlvPeak (s : State) (v : Nat) : (s.signal v).vlvPeak = s.vlvPeak := by
  obtain ⟨_, h⟩ := s.signal_only v; rw [h]
@[simp] theorem State.signal_rpl (s : State) (v : Nat) : (s.signal v).rpl = s.rpl := by
  obtain ⟨_, h⟩ := s.signal_only v; rw [h]
@[simp] theorem State.signal_rplLast (s : State) (v : Nat) : (s.signal v).rplLast = s.rplLast := by
  obtain ⟨_, h⟩ := s.signal_only v; rw [h]
@[simp] theorem State.signal_rails (s : State) (v : Nat) : (s.signal v).rails = s.rails := by
  obtain ⟨_, h⟩ := s.signal_only v; rw [h]
@[simp] theorem State.signal_aon (s : State) (v : Nat) : (s.signal v).aon = s.aon := by
  obtain ⟨_, h⟩ := s.signal_only v; rw [h]
@[simp] theorem State.signal_ppm (s : State) (v : Nat) : (s.signal v).ppm = s.ppm := by
  obtain ⟨_, h⟩ := s.signal_only v; rw [h]
@[simp] theorem State.signal_dcl (s : State) (v : Nat) : (s.signal v).dcl = s.dcl := by
  obtain ⟨_, h⟩ := s.signal_only v; rw [h]
@[simp] theorem State.signal_prec (s : State) (v : Nat) : (s.signal v).prec = s.prec := by
  obtain ⟨_, h⟩ := s.signal_only v; rw [h]
@[simp] theorem State.signal_thm (s : State) (v : Nat) : (s.signal v).thm = s.thm := by
  obtain ⟨_, h⟩ := s.signal_only v; rw [h]
@[simp] theorem State.signal_afe (s : State) (v : Nat) : (s.signal v).afe = s.afe := by
  obtain ⟨_, h⟩ := s.signal_only v; rw [h]
@[simp] theorem State.signal_saf (s : State) (v : Nat) : (s.signal v).saf = s.saf := by
  obtain ⟨_, h⟩ := s.signal_only v; rw [h]
@[simp] theorem State.signal_mbx (s : State) (v : Nat) : (s.signal v).mbx = s.mbx := by
  obtain ⟨_, h⟩ := s.signal_only v; rw [h]
@[simp] theorem State.signal_evr (s : State) (v : Nat) : (s.signal v).evr = s.evr := by
  obtain ⟨_, h⟩ := s.signal_only v; rw [h]
@[simp] theorem State.signal_cans (s : State) (v : Nat) : (s.signal v).cans = s.cans := by
  obtain ⟨_, h⟩ := s.signal_only v; rw [h]
@[simp] theorem State.signal_canTsHi (s : State) (v : Nat) : (s.signal v).canTsHi = s.canTsHi := by
  obtain ⟨_, h⟩ := s.signal_only v; rw [h]
@[simp] theorem State.signal_mem (s : State) (v : Nat) : (s.signal v).mem = s.mem := by
  obtain ⟨_, h⟩ := s.signal_only v; rw [h]
@[simp] theorem State.signal_secu (s : State) (v : Nat) : (s.signal v).secu = s.secu := by
  obtain ⟨_, h⟩ := s.signal_only v; rw [h]
@[simp] theorem State.signal_readout (s : State) (v : Nat) : (s.signal v).readout = s.readout := by
  obtain ⟨_, h⟩ := s.signal_only v; rw [h]
@[simp] theorem State.signal_free (s : State) (v : Nat) : (s.signal v).free = s.free := by
  obtain ⟨_, h⟩ := s.signal_only v; rw [h]
@[simp] theorem State.signal_pending (s : State) (v : Nat) : (s.signal v).pending = s.pending := by
  obtain ⟨_, h⟩ := s.signal_only v; rw [h]

/-- Signalling a ring changes HIF only (R473). -/
theorem State.signalRing_only (s : State) (r : Nat) (irq : Bool) : ∃ v0, s.signalRing r irq = { s with hif := v0 } := by
  unfold State.signalRing
  dsimp only
  split
  · exact s.signal_only _
  · exact ⟨_, rfl⟩

@[simp] theorem State.signalRing_now (s : State) (r : Nat) (irq : Bool) : (s.signalRing r irq).now = s.now := by
  obtain ⟨_, h⟩ := s.signalRing_only r irq; rw [h]
@[simp] theorem State.signalRing_supply (s : State) (r : Nat) (irq : Bool) : (s.signalRing r irq).supply = s.supply := by
  obtain ⟨_, h⟩ := s.signalRing_only r irq; rw [h]
@[simp] theorem State.signalRing_regs (s : State) (r : Nat) (irq : Bool) : (s.signalRing r irq).regs = s.regs := by
  obtain ⟨_, h⟩ := s.signalRing_only r irq; rw [h]
@[simp] theorem State.signalRing_lock (s : State) (r : Nat) (irq : Bool) : (s.signalRing r irq).lock = s.lock := by
  obtain ⟨_, h⟩ := s.signalRing_only r irq; rw [h]
@[simp] theorem State.signalRing_gaf (s : State) (r : Nat) (irq : Bool) : (s.signalRing r irq).gaf = s.gaf := by
  obtain ⟨_, h⟩ := s.signalRing_only r irq; rw [h]
@[simp] theorem State.signalRing_tbu (s : State) (r : Nat) (irq : Bool) : (s.signalRing r irq).tbu = s.tbu := by
  obtain ⟨_, h⟩ := s.signalRing_only r irq; rw [h]
@[simp] theorem State.signalRing_mod (s : State) (r : Nat) (irq : Bool) : (s.signalRing r irq).mod = s.mod := by
  obtain ⟨_, h⟩ := s.signalRing_only r irq; rw [h]
@[simp] theorem State.signalRing_trm (s : State) (r : Nat) (irq : Bool) : (s.signalRing r irq).trm = s.trm := by
  obtain ⟨_, h⟩ := s.signalRing_only r irq; rw [h]
@[simp] theorem State.signalRing_gdv (s : State) (r : Nat) (irq : Bool) : (s.signalRing r irq).gdv = s.gdv := by
  obtain ⟨_, h⟩ := s.signalRing_only r irq; rw [h]
@[simp] theorem State.signalRing_fb (s : State) (r : Nat) (irq : Bool) : (s.signalRing r irq).fb = s.fb := by
  obtain ⟨_, h⟩ := s.signalRing_only r irq; rw [h]
@[simp] theorem State.signalRing_lpe (s : State) (r : Nat) (irq : Bool) : (s.signalRing r irq).lpe = s.lpe := by
  obtain ⟨_, h⟩ := s.signalRing_only r irq; rw [h]
@[simp] theorem State.signalRing_cmus (s : State) (r : Nat) (irq : Bool) : (s.signalRing r irq).cmus = s.cmus := by
  obtain ⟨_, h⟩ := s.signalRing_only r irq; rw [h]
@[simp] theorem State.signalRing_gbx (s : State) (r : Nat) (irq : Bool) : (s.signalRing r irq).gbx = s.gbx := by
  obtain ⟨_, h⟩ := s.signalRing_only r irq; rw [h]
@[simp] theorem State.signalRing_sxe (s : State) (r : Nat) (irq : Bool) : (s.signalRing r irq).sxe = s.sxe := by
  obtain ⟨_, h⟩ := s.signalRing_only r irq; rw [h]
@[simp] theorem State.signalRing_vlvs (s : State) (r : Nat) (irq : Bool) : (s.signalRing r irq).vlvs = s.vlvs := by
  obtain ⟨_, h⟩ := s.signalRing_only r irq; rw [h]
@[simp] theorem State.signalRing_vlvPeak (s : State) (r : Nat) (irq : Bool) : (s.signalRing r irq).vlvPeak = s.vlvPeak := by
  obtain ⟨_, h⟩ := s.signalRing_only r irq; rw [h]
@[simp] theorem State.signalRing_rpl (s : State) (r : Nat) (irq : Bool) : (s.signalRing r irq).rpl = s.rpl := by
  obtain ⟨_, h⟩ := s.signalRing_only r irq; rw [h]
@[simp] theorem State.signalRing_rplLast (s : State) (r : Nat) (irq : Bool) : (s.signalRing r irq).rplLast = s.rplLast := by
  obtain ⟨_, h⟩ := s.signalRing_only r irq; rw [h]
@[simp] theorem State.signalRing_rails (s : State) (r : Nat) (irq : Bool) : (s.signalRing r irq).rails = s.rails := by
  obtain ⟨_, h⟩ := s.signalRing_only r irq; rw [h]
@[simp] theorem State.signalRing_aon (s : State) (r : Nat) (irq : Bool) : (s.signalRing r irq).aon = s.aon := by
  obtain ⟨_, h⟩ := s.signalRing_only r irq; rw [h]
@[simp] theorem State.signalRing_ppm (s : State) (r : Nat) (irq : Bool) : (s.signalRing r irq).ppm = s.ppm := by
  obtain ⟨_, h⟩ := s.signalRing_only r irq; rw [h]
@[simp] theorem State.signalRing_dcl (s : State) (r : Nat) (irq : Bool) : (s.signalRing r irq).dcl = s.dcl := by
  obtain ⟨_, h⟩ := s.signalRing_only r irq; rw [h]
@[simp] theorem State.signalRing_prec (s : State) (r : Nat) (irq : Bool) : (s.signalRing r irq).prec = s.prec := by
  obtain ⟨_, h⟩ := s.signalRing_only r irq; rw [h]
@[simp] theorem State.signalRing_thm (s : State) (r : Nat) (irq : Bool) : (s.signalRing r irq).thm = s.thm := by
  obtain ⟨_, h⟩ := s.signalRing_only r irq; rw [h]
@[simp] theorem State.signalRing_afe (s : State) (r : Nat) (irq : Bool) : (s.signalRing r irq).afe = s.afe := by
  obtain ⟨_, h⟩ := s.signalRing_only r irq; rw [h]
@[simp] theorem State.signalRing_saf (s : State) (r : Nat) (irq : Bool) : (s.signalRing r irq).saf = s.saf := by
  obtain ⟨_, h⟩ := s.signalRing_only r irq; rw [h]
@[simp] theorem State.signalRing_mbx (s : State) (r : Nat) (irq : Bool) : (s.signalRing r irq).mbx = s.mbx := by
  obtain ⟨_, h⟩ := s.signalRing_only r irq; rw [h]
@[simp] theorem State.signalRing_evr (s : State) (r : Nat) (irq : Bool) : (s.signalRing r irq).evr = s.evr := by
  obtain ⟨_, h⟩ := s.signalRing_only r irq; rw [h]
@[simp] theorem State.signalRing_cans (s : State) (r : Nat) (irq : Bool) : (s.signalRing r irq).cans = s.cans := by
  obtain ⟨_, h⟩ := s.signalRing_only r irq; rw [h]
@[simp] theorem State.signalRing_canTsHi (s : State) (r : Nat) (irq : Bool) : (s.signalRing r irq).canTsHi = s.canTsHi := by
  obtain ⟨_, h⟩ := s.signalRing_only r irq; rw [h]
@[simp] theorem State.signalRing_mem (s : State) (r : Nat) (irq : Bool) : (s.signalRing r irq).mem = s.mem := by
  obtain ⟨_, h⟩ := s.signalRing_only r irq; rw [h]
@[simp] theorem State.signalRing_secu (s : State) (r : Nat) (irq : Bool) : (s.signalRing r irq).secu = s.secu := by
  obtain ⟨_, h⟩ := s.signalRing_only r irq; rw [h]
@[simp] theorem State.signalRing_readout (s : State) (r : Nat) (irq : Bool) : (s.signalRing r irq).readout = s.readout := by
  obtain ⟨_, h⟩ := s.signalRing_only r irq; rw [h]
@[simp] theorem State.signalRing_free (s : State) (r : Nat) (irq : Bool) : (s.signalRing r irq).free = s.free := by
  obtain ⟨_, h⟩ := s.signalRing_only r irq; rw [h]
@[simp] theorem State.signalRing_pending (s : State) (r : Nat) (irq : Bool) : (s.signalRing r irq).pending = s.pending := by
  obtain ⟨_, h⟩ := s.signalRing_only r irq; rw [h]

/-- Writing an event record changes HIF only (R461). -/
theorem State.evqWrite_only (s : State) (n : Nat) (p : List Nat) : ∃ v0, s.evqWrite n p = { s with hif := v0 } := by
  unfold State.evqWrite
  dsimp only
  split
  · exact ⟨_, rfl⟩
  · split
    · exact ⟨_, rfl⟩
    · obtain ⟨v, h⟩ := State.signalRing_only (State.send (s.setRing evq _) _) evq false
      exact ⟨v, h.trans rfl⟩

@[simp] theorem State.evqWrite_now (s : State) (n : Nat) (p : List Nat) : (s.evqWrite n p).now = s.now := by
  obtain ⟨_, h⟩ := s.evqWrite_only n p; rw [h]
@[simp] theorem State.evqWrite_supply (s : State) (n : Nat) (p : List Nat) : (s.evqWrite n p).supply = s.supply := by
  obtain ⟨_, h⟩ := s.evqWrite_only n p; rw [h]
@[simp] theorem State.evqWrite_regs (s : State) (n : Nat) (p : List Nat) : (s.evqWrite n p).regs = s.regs := by
  obtain ⟨_, h⟩ := s.evqWrite_only n p; rw [h]
@[simp] theorem State.evqWrite_lock (s : State) (n : Nat) (p : List Nat) : (s.evqWrite n p).lock = s.lock := by
  obtain ⟨_, h⟩ := s.evqWrite_only n p; rw [h]
@[simp] theorem State.evqWrite_gaf (s : State) (n : Nat) (p : List Nat) : (s.evqWrite n p).gaf = s.gaf := by
  obtain ⟨_, h⟩ := s.evqWrite_only n p; rw [h]
@[simp] theorem State.evqWrite_tbu (s : State) (n : Nat) (p : List Nat) : (s.evqWrite n p).tbu = s.tbu := by
  obtain ⟨_, h⟩ := s.evqWrite_only n p; rw [h]
@[simp] theorem State.evqWrite_mod (s : State) (n : Nat) (p : List Nat) : (s.evqWrite n p).mod = s.mod := by
  obtain ⟨_, h⟩ := s.evqWrite_only n p; rw [h]
@[simp] theorem State.evqWrite_trm (s : State) (n : Nat) (p : List Nat) : (s.evqWrite n p).trm = s.trm := by
  obtain ⟨_, h⟩ := s.evqWrite_only n p; rw [h]
@[simp] theorem State.evqWrite_gdv (s : State) (n : Nat) (p : List Nat) : (s.evqWrite n p).gdv = s.gdv := by
  obtain ⟨_, h⟩ := s.evqWrite_only n p; rw [h]
@[simp] theorem State.evqWrite_fb (s : State) (n : Nat) (p : List Nat) : (s.evqWrite n p).fb = s.fb := by
  obtain ⟨_, h⟩ := s.evqWrite_only n p; rw [h]
@[simp] theorem State.evqWrite_lpe (s : State) (n : Nat) (p : List Nat) : (s.evqWrite n p).lpe = s.lpe := by
  obtain ⟨_, h⟩ := s.evqWrite_only n p; rw [h]
@[simp] theorem State.evqWrite_cmus (s : State) (n : Nat) (p : List Nat) : (s.evqWrite n p).cmus = s.cmus := by
  obtain ⟨_, h⟩ := s.evqWrite_only n p; rw [h]
@[simp] theorem State.evqWrite_gbx (s : State) (n : Nat) (p : List Nat) : (s.evqWrite n p).gbx = s.gbx := by
  obtain ⟨_, h⟩ := s.evqWrite_only n p; rw [h]
@[simp] theorem State.evqWrite_sxe (s : State) (n : Nat) (p : List Nat) : (s.evqWrite n p).sxe = s.sxe := by
  obtain ⟨_, h⟩ := s.evqWrite_only n p; rw [h]
@[simp] theorem State.evqWrite_vlvs (s : State) (n : Nat) (p : List Nat) : (s.evqWrite n p).vlvs = s.vlvs := by
  obtain ⟨_, h⟩ := s.evqWrite_only n p; rw [h]
@[simp] theorem State.evqWrite_vlvPeak (s : State) (n : Nat) (p : List Nat) : (s.evqWrite n p).vlvPeak = s.vlvPeak := by
  obtain ⟨_, h⟩ := s.evqWrite_only n p; rw [h]
@[simp] theorem State.evqWrite_rpl (s : State) (n : Nat) (p : List Nat) : (s.evqWrite n p).rpl = s.rpl := by
  obtain ⟨_, h⟩ := s.evqWrite_only n p; rw [h]
@[simp] theorem State.evqWrite_rplLast (s : State) (n : Nat) (p : List Nat) : (s.evqWrite n p).rplLast = s.rplLast := by
  obtain ⟨_, h⟩ := s.evqWrite_only n p; rw [h]
@[simp] theorem State.evqWrite_rails (s : State) (n : Nat) (p : List Nat) : (s.evqWrite n p).rails = s.rails := by
  obtain ⟨_, h⟩ := s.evqWrite_only n p; rw [h]
@[simp] theorem State.evqWrite_aon (s : State) (n : Nat) (p : List Nat) : (s.evqWrite n p).aon = s.aon := by
  obtain ⟨_, h⟩ := s.evqWrite_only n p; rw [h]
@[simp] theorem State.evqWrite_ppm (s : State) (n : Nat) (p : List Nat) : (s.evqWrite n p).ppm = s.ppm := by
  obtain ⟨_, h⟩ := s.evqWrite_only n p; rw [h]
@[simp] theorem State.evqWrite_dcl (s : State) (n : Nat) (p : List Nat) : (s.evqWrite n p).dcl = s.dcl := by
  obtain ⟨_, h⟩ := s.evqWrite_only n p; rw [h]
@[simp] theorem State.evqWrite_prec (s : State) (n : Nat) (p : List Nat) : (s.evqWrite n p).prec = s.prec := by
  obtain ⟨_, h⟩ := s.evqWrite_only n p; rw [h]
@[simp] theorem State.evqWrite_thm (s : State) (n : Nat) (p : List Nat) : (s.evqWrite n p).thm = s.thm := by
  obtain ⟨_, h⟩ := s.evqWrite_only n p; rw [h]
@[simp] theorem State.evqWrite_afe (s : State) (n : Nat) (p : List Nat) : (s.evqWrite n p).afe = s.afe := by
  obtain ⟨_, h⟩ := s.evqWrite_only n p; rw [h]
@[simp] theorem State.evqWrite_saf (s : State) (n : Nat) (p : List Nat) : (s.evqWrite n p).saf = s.saf := by
  obtain ⟨_, h⟩ := s.evqWrite_only n p; rw [h]
@[simp] theorem State.evqWrite_mbx (s : State) (n : Nat) (p : List Nat) : (s.evqWrite n p).mbx = s.mbx := by
  obtain ⟨_, h⟩ := s.evqWrite_only n p; rw [h]
@[simp] theorem State.evqWrite_evr (s : State) (n : Nat) (p : List Nat) : (s.evqWrite n p).evr = s.evr := by
  obtain ⟨_, h⟩ := s.evqWrite_only n p; rw [h]
@[simp] theorem State.evqWrite_cans (s : State) (n : Nat) (p : List Nat) : (s.evqWrite n p).cans = s.cans := by
  obtain ⟨_, h⟩ := s.evqWrite_only n p; rw [h]
@[simp] theorem State.evqWrite_canTsHi (s : State) (n : Nat) (p : List Nat) : (s.evqWrite n p).canTsHi = s.canTsHi := by
  obtain ⟨_, h⟩ := s.evqWrite_only n p; rw [h]
@[simp] theorem State.evqWrite_mem (s : State) (n : Nat) (p : List Nat) : (s.evqWrite n p).mem = s.mem := by
  obtain ⟨_, h⟩ := s.evqWrite_only n p; rw [h]
@[simp] theorem State.evqWrite_secu (s : State) (n : Nat) (p : List Nat) : (s.evqWrite n p).secu = s.secu := by
  obtain ⟨_, h⟩ := s.evqWrite_only n p; rw [h]
@[simp] theorem State.evqWrite_readout (s : State) (n : Nat) (p : List Nat) : (s.evqWrite n p).readout = s.readout := by
  obtain ⟨_, h⟩ := s.evqWrite_only n p; rw [h]
@[simp] theorem State.evqWrite_free (s : State) (n : Nat) (p : List Nat) : (s.evqWrite n p).free = s.free := by
  obtain ⟨_, h⟩ := s.evqWrite_only n p; rw [h]
@[simp] theorem State.evqWrite_pending (s : State) (n : Nat) (p : List Nat) : (s.evqWrite n p).pending = s.pending := by
  obtain ⟨_, h⟩ := s.evqWrite_only n p; rw [h]

/-- Raising an event changes the router and HIF only (R504). -/
theorem State.raise_only (s : State) (n : Nat) (p : List Nat) : ∃ v0 v1, s.raise n p = { s with evr := v0, hif := v1 } := by
  unfold State.raise
  split
  · dsimp only
    split
    · obtain ⟨v, h⟩ := State.evqWrite_only { s with evr := _, hif := _ } n p
      exact ⟨_, v, h.trans rfl⟩
    · exact ⟨_, _, rfl⟩
  · exact ⟨_, _, rfl⟩

@[simp] theorem State.raise_now (s : State) (n : Nat) (p : List Nat) : (s.raise n p).now = s.now := by
  obtain ⟨_, _, h⟩ := s.raise_only n p; rw [h]
@[simp] theorem State.raise_supply (s : State) (n : Nat) (p : List Nat) : (s.raise n p).supply = s.supply := by
  obtain ⟨_, _, h⟩ := s.raise_only n p; rw [h]
@[simp] theorem State.raise_regs (s : State) (n : Nat) (p : List Nat) : (s.raise n p).regs = s.regs := by
  obtain ⟨_, _, h⟩ := s.raise_only n p; rw [h]
@[simp] theorem State.raise_lock (s : State) (n : Nat) (p : List Nat) : (s.raise n p).lock = s.lock := by
  obtain ⟨_, _, h⟩ := s.raise_only n p; rw [h]
@[simp] theorem State.raise_gaf (s : State) (n : Nat) (p : List Nat) : (s.raise n p).gaf = s.gaf := by
  obtain ⟨_, _, h⟩ := s.raise_only n p; rw [h]
@[simp] theorem State.raise_tbu (s : State) (n : Nat) (p : List Nat) : (s.raise n p).tbu = s.tbu := by
  obtain ⟨_, _, h⟩ := s.raise_only n p; rw [h]
@[simp] theorem State.raise_mod (s : State) (n : Nat) (p : List Nat) : (s.raise n p).mod = s.mod := by
  obtain ⟨_, _, h⟩ := s.raise_only n p; rw [h]
@[simp] theorem State.raise_trm (s : State) (n : Nat) (p : List Nat) : (s.raise n p).trm = s.trm := by
  obtain ⟨_, _, h⟩ := s.raise_only n p; rw [h]
@[simp] theorem State.raise_gdv (s : State) (n : Nat) (p : List Nat) : (s.raise n p).gdv = s.gdv := by
  obtain ⟨_, _, h⟩ := s.raise_only n p; rw [h]
@[simp] theorem State.raise_fb (s : State) (n : Nat) (p : List Nat) : (s.raise n p).fb = s.fb := by
  obtain ⟨_, _, h⟩ := s.raise_only n p; rw [h]
@[simp] theorem State.raise_lpe (s : State) (n : Nat) (p : List Nat) : (s.raise n p).lpe = s.lpe := by
  obtain ⟨_, _, h⟩ := s.raise_only n p; rw [h]
@[simp] theorem State.raise_cmus (s : State) (n : Nat) (p : List Nat) : (s.raise n p).cmus = s.cmus := by
  obtain ⟨_, _, h⟩ := s.raise_only n p; rw [h]
@[simp] theorem State.raise_gbx (s : State) (n : Nat) (p : List Nat) : (s.raise n p).gbx = s.gbx := by
  obtain ⟨_, _, h⟩ := s.raise_only n p; rw [h]
@[simp] theorem State.raise_sxe (s : State) (n : Nat) (p : List Nat) : (s.raise n p).sxe = s.sxe := by
  obtain ⟨_, _, h⟩ := s.raise_only n p; rw [h]
@[simp] theorem State.raise_vlvs (s : State) (n : Nat) (p : List Nat) : (s.raise n p).vlvs = s.vlvs := by
  obtain ⟨_, _, h⟩ := s.raise_only n p; rw [h]
@[simp] theorem State.raise_vlvPeak (s : State) (n : Nat) (p : List Nat) : (s.raise n p).vlvPeak = s.vlvPeak := by
  obtain ⟨_, _, h⟩ := s.raise_only n p; rw [h]
@[simp] theorem State.raise_rpl (s : State) (n : Nat) (p : List Nat) : (s.raise n p).rpl = s.rpl := by
  obtain ⟨_, _, h⟩ := s.raise_only n p; rw [h]
@[simp] theorem State.raise_rplLast (s : State) (n : Nat) (p : List Nat) : (s.raise n p).rplLast = s.rplLast := by
  obtain ⟨_, _, h⟩ := s.raise_only n p; rw [h]
@[simp] theorem State.raise_rails (s : State) (n : Nat) (p : List Nat) : (s.raise n p).rails = s.rails := by
  obtain ⟨_, _, h⟩ := s.raise_only n p; rw [h]
@[simp] theorem State.raise_aon (s : State) (n : Nat) (p : List Nat) : (s.raise n p).aon = s.aon := by
  obtain ⟨_, _, h⟩ := s.raise_only n p; rw [h]
@[simp] theorem State.raise_ppm (s : State) (n : Nat) (p : List Nat) : (s.raise n p).ppm = s.ppm := by
  obtain ⟨_, _, h⟩ := s.raise_only n p; rw [h]
@[simp] theorem State.raise_dcl (s : State) (n : Nat) (p : List Nat) : (s.raise n p).dcl = s.dcl := by
  obtain ⟨_, _, h⟩ := s.raise_only n p; rw [h]
@[simp] theorem State.raise_prec (s : State) (n : Nat) (p : List Nat) : (s.raise n p).prec = s.prec := by
  obtain ⟨_, _, h⟩ := s.raise_only n p; rw [h]
@[simp] theorem State.raise_thm (s : State) (n : Nat) (p : List Nat) : (s.raise n p).thm = s.thm := by
  obtain ⟨_, _, h⟩ := s.raise_only n p; rw [h]
@[simp] theorem State.raise_afe (s : State) (n : Nat) (p : List Nat) : (s.raise n p).afe = s.afe := by
  obtain ⟨_, _, h⟩ := s.raise_only n p; rw [h]
@[simp] theorem State.raise_saf (s : State) (n : Nat) (p : List Nat) : (s.raise n p).saf = s.saf := by
  obtain ⟨_, _, h⟩ := s.raise_only n p; rw [h]
@[simp] theorem State.raise_mbx (s : State) (n : Nat) (p : List Nat) : (s.raise n p).mbx = s.mbx := by
  obtain ⟨_, _, h⟩ := s.raise_only n p; rw [h]
@[simp] theorem State.raise_cans (s : State) (n : Nat) (p : List Nat) : (s.raise n p).cans = s.cans := by
  obtain ⟨_, _, h⟩ := s.raise_only n p; rw [h]
@[simp] theorem State.raise_canTsHi (s : State) (n : Nat) (p : List Nat) : (s.raise n p).canTsHi = s.canTsHi := by
  obtain ⟨_, _, h⟩ := s.raise_only n p; rw [h]
@[simp] theorem State.raise_mem (s : State) (n : Nat) (p : List Nat) : (s.raise n p).mem = s.mem := by
  obtain ⟨_, _, h⟩ := s.raise_only n p; rw [h]
@[simp] theorem State.raise_secu (s : State) (n : Nat) (p : List Nat) : (s.raise n p).secu = s.secu := by
  obtain ⟨_, _, h⟩ := s.raise_only n p; rw [h]
@[simp] theorem State.raise_readout (s : State) (n : Nat) (p : List Nat) : (s.raise n p).readout = s.readout := by
  obtain ⟨_, _, h⟩ := s.raise_only n p; rw [h]
@[simp] theorem State.raise_free (s : State) (n : Nat) (p : List Nat) : (s.raise n p).free = s.free := by
  obtain ⟨_, _, h⟩ := s.raise_only n p; rw [h]
@[simp] theorem State.raise_pending (s : State) (n : Nat) (p : List Nat) : (s.raise n p).pending = s.pending := by
  obtain ⟨_, _, h⟩ := s.raise_only n p; rw [h]

/-- Raising an event on a condition changes the router and HIF only. -/
theorem State.raiseIf_only (s : State) (b : Bool) (n : Nat) (p : List Nat) : ∃ v0 v1, s.raiseIf b n p = { s with evr := v0, hif := v1 } := by
  unfold State.raiseIf
  split
  · exact s.raise_only n p
  · exact ⟨_, _, rfl⟩

@[simp] theorem State.raiseIf_now (s : State) (b : Bool) (n : Nat) (p : List Nat) : (s.raiseIf b n p).now = s.now := by
  obtain ⟨_, _, h⟩ := s.raiseIf_only b n p; rw [h]
@[simp] theorem State.raiseIf_supply (s : State) (b : Bool) (n : Nat) (p : List Nat) : (s.raiseIf b n p).supply = s.supply := by
  obtain ⟨_, _, h⟩ := s.raiseIf_only b n p; rw [h]
@[simp] theorem State.raiseIf_regs (s : State) (b : Bool) (n : Nat) (p : List Nat) : (s.raiseIf b n p).regs = s.regs := by
  obtain ⟨_, _, h⟩ := s.raiseIf_only b n p; rw [h]
@[simp] theorem State.raiseIf_lock (s : State) (b : Bool) (n : Nat) (p : List Nat) : (s.raiseIf b n p).lock = s.lock := by
  obtain ⟨_, _, h⟩ := s.raiseIf_only b n p; rw [h]
@[simp] theorem State.raiseIf_gaf (s : State) (b : Bool) (n : Nat) (p : List Nat) : (s.raiseIf b n p).gaf = s.gaf := by
  obtain ⟨_, _, h⟩ := s.raiseIf_only b n p; rw [h]
@[simp] theorem State.raiseIf_tbu (s : State) (b : Bool) (n : Nat) (p : List Nat) : (s.raiseIf b n p).tbu = s.tbu := by
  obtain ⟨_, _, h⟩ := s.raiseIf_only b n p; rw [h]
@[simp] theorem State.raiseIf_mod (s : State) (b : Bool) (n : Nat) (p : List Nat) : (s.raiseIf b n p).mod = s.mod := by
  obtain ⟨_, _, h⟩ := s.raiseIf_only b n p; rw [h]
@[simp] theorem State.raiseIf_trm (s : State) (b : Bool) (n : Nat) (p : List Nat) : (s.raiseIf b n p).trm = s.trm := by
  obtain ⟨_, _, h⟩ := s.raiseIf_only b n p; rw [h]
@[simp] theorem State.raiseIf_gdv (s : State) (b : Bool) (n : Nat) (p : List Nat) : (s.raiseIf b n p).gdv = s.gdv := by
  obtain ⟨_, _, h⟩ := s.raiseIf_only b n p; rw [h]
@[simp] theorem State.raiseIf_fb (s : State) (b : Bool) (n : Nat) (p : List Nat) : (s.raiseIf b n p).fb = s.fb := by
  obtain ⟨_, _, h⟩ := s.raiseIf_only b n p; rw [h]
@[simp] theorem State.raiseIf_lpe (s : State) (b : Bool) (n : Nat) (p : List Nat) : (s.raiseIf b n p).lpe = s.lpe := by
  obtain ⟨_, _, h⟩ := s.raiseIf_only b n p; rw [h]
@[simp] theorem State.raiseIf_cmus (s : State) (b : Bool) (n : Nat) (p : List Nat) : (s.raiseIf b n p).cmus = s.cmus := by
  obtain ⟨_, _, h⟩ := s.raiseIf_only b n p; rw [h]
@[simp] theorem State.raiseIf_gbx (s : State) (b : Bool) (n : Nat) (p : List Nat) : (s.raiseIf b n p).gbx = s.gbx := by
  obtain ⟨_, _, h⟩ := s.raiseIf_only b n p; rw [h]
@[simp] theorem State.raiseIf_sxe (s : State) (b : Bool) (n : Nat) (p : List Nat) : (s.raiseIf b n p).sxe = s.sxe := by
  obtain ⟨_, _, h⟩ := s.raiseIf_only b n p; rw [h]
@[simp] theorem State.raiseIf_vlvs (s : State) (b : Bool) (n : Nat) (p : List Nat) : (s.raiseIf b n p).vlvs = s.vlvs := by
  obtain ⟨_, _, h⟩ := s.raiseIf_only b n p; rw [h]
@[simp] theorem State.raiseIf_vlvPeak (s : State) (b : Bool) (n : Nat) (p : List Nat) : (s.raiseIf b n p).vlvPeak = s.vlvPeak := by
  obtain ⟨_, _, h⟩ := s.raiseIf_only b n p; rw [h]
@[simp] theorem State.raiseIf_rpl (s : State) (b : Bool) (n : Nat) (p : List Nat) : (s.raiseIf b n p).rpl = s.rpl := by
  obtain ⟨_, _, h⟩ := s.raiseIf_only b n p; rw [h]
@[simp] theorem State.raiseIf_rplLast (s : State) (b : Bool) (n : Nat) (p : List Nat) : (s.raiseIf b n p).rplLast = s.rplLast := by
  obtain ⟨_, _, h⟩ := s.raiseIf_only b n p; rw [h]
@[simp] theorem State.raiseIf_rails (s : State) (b : Bool) (n : Nat) (p : List Nat) : (s.raiseIf b n p).rails = s.rails := by
  obtain ⟨_, _, h⟩ := s.raiseIf_only b n p; rw [h]
@[simp] theorem State.raiseIf_aon (s : State) (b : Bool) (n : Nat) (p : List Nat) : (s.raiseIf b n p).aon = s.aon := by
  obtain ⟨_, _, h⟩ := s.raiseIf_only b n p; rw [h]
@[simp] theorem State.raiseIf_ppm (s : State) (b : Bool) (n : Nat) (p : List Nat) : (s.raiseIf b n p).ppm = s.ppm := by
  obtain ⟨_, _, h⟩ := s.raiseIf_only b n p; rw [h]
@[simp] theorem State.raiseIf_dcl (s : State) (b : Bool) (n : Nat) (p : List Nat) : (s.raiseIf b n p).dcl = s.dcl := by
  obtain ⟨_, _, h⟩ := s.raiseIf_only b n p; rw [h]
@[simp] theorem State.raiseIf_prec (s : State) (b : Bool) (n : Nat) (p : List Nat) : (s.raiseIf b n p).prec = s.prec := by
  obtain ⟨_, _, h⟩ := s.raiseIf_only b n p; rw [h]
@[simp] theorem State.raiseIf_thm (s : State) (b : Bool) (n : Nat) (p : List Nat) : (s.raiseIf b n p).thm = s.thm := by
  obtain ⟨_, _, h⟩ := s.raiseIf_only b n p; rw [h]
@[simp] theorem State.raiseIf_afe (s : State) (b : Bool) (n : Nat) (p : List Nat) : (s.raiseIf b n p).afe = s.afe := by
  obtain ⟨_, _, h⟩ := s.raiseIf_only b n p; rw [h]
@[simp] theorem State.raiseIf_saf (s : State) (b : Bool) (n : Nat) (p : List Nat) : (s.raiseIf b n p).saf = s.saf := by
  obtain ⟨_, _, h⟩ := s.raiseIf_only b n p; rw [h]
@[simp] theorem State.raiseIf_mbx (s : State) (b : Bool) (n : Nat) (p : List Nat) : (s.raiseIf b n p).mbx = s.mbx := by
  obtain ⟨_, _, h⟩ := s.raiseIf_only b n p; rw [h]
@[simp] theorem State.raiseIf_cans (s : State) (b : Bool) (n : Nat) (p : List Nat) : (s.raiseIf b n p).cans = s.cans := by
  obtain ⟨_, _, h⟩ := s.raiseIf_only b n p; rw [h]
@[simp] theorem State.raiseIf_canTsHi (s : State) (b : Bool) (n : Nat) (p : List Nat) : (s.raiseIf b n p).canTsHi = s.canTsHi := by
  obtain ⟨_, _, h⟩ := s.raiseIf_only b n p; rw [h]
@[simp] theorem State.raiseIf_mem (s : State) (b : Bool) (n : Nat) (p : List Nat) : (s.raiseIf b n p).mem = s.mem := by
  obtain ⟨_, _, h⟩ := s.raiseIf_only b n p; rw [h]
@[simp] theorem State.raiseIf_secu (s : State) (b : Bool) (n : Nat) (p : List Nat) : (s.raiseIf b n p).secu = s.secu := by
  obtain ⟨_, _, h⟩ := s.raiseIf_only b n p; rw [h]
@[simp] theorem State.raiseIf_readout (s : State) (b : Bool) (n : Nat) (p : List Nat) : (s.raiseIf b n p).readout = s.readout := by
  obtain ⟨_, _, h⟩ := s.raiseIf_only b n p; rw [h]
@[simp] theorem State.raiseIf_free (s : State) (b : Bool) (n : Nat) (p : List Nat) : (s.raiseIf b n p).free = s.free := by
  obtain ⟨_, _, h⟩ := s.raiseIf_only b n p; rw [h]
@[simp] theorem State.raiseIf_pending (s : State) (b : Bool) (n : Nat) (p : List Nat) : (s.raiseIf b n p).pending = s.pending := by
  obtain ⟨_, _, h⟩ := s.raiseIf_only b n p; rw [h]

/-- Deciding a completion changes HIF only (R467). -/
theorem State.decide_only (s : State) (sq id : Nat) (st : Status) (r d : Nat) : ∃ v0, s.decide sq id st r d = { s with hif := v0 } := by
  exact ⟨_, rfl⟩

@[simp] theorem State.decide_now (s : State) (sq id : Nat) (st : Status) (r d : Nat) : (s.decide sq id st r d).now = s.now := by
  obtain ⟨_, h⟩ := s.decide_only sq id st r d; rw [h]
@[simp] theorem State.decide_supply (s : State) (sq id : Nat) (st : Status) (r d : Nat) : (s.decide sq id st r d).supply = s.supply := by
  obtain ⟨_, h⟩ := s.decide_only sq id st r d; rw [h]
@[simp] theorem State.decide_regs (s : State) (sq id : Nat) (st : Status) (r d : Nat) : (s.decide sq id st r d).regs = s.regs := by
  obtain ⟨_, h⟩ := s.decide_only sq id st r d; rw [h]
@[simp] theorem State.decide_lock (s : State) (sq id : Nat) (st : Status) (r d : Nat) : (s.decide sq id st r d).lock = s.lock := by
  obtain ⟨_, h⟩ := s.decide_only sq id st r d; rw [h]
@[simp] theorem State.decide_gaf (s : State) (sq id : Nat) (st : Status) (r d : Nat) : (s.decide sq id st r d).gaf = s.gaf := by
  obtain ⟨_, h⟩ := s.decide_only sq id st r d; rw [h]
@[simp] theorem State.decide_tbu (s : State) (sq id : Nat) (st : Status) (r d : Nat) : (s.decide sq id st r d).tbu = s.tbu := by
  obtain ⟨_, h⟩ := s.decide_only sq id st r d; rw [h]
@[simp] theorem State.decide_mod (s : State) (sq id : Nat) (st : Status) (r d : Nat) : (s.decide sq id st r d).mod = s.mod := by
  obtain ⟨_, h⟩ := s.decide_only sq id st r d; rw [h]
@[simp] theorem State.decide_trm (s : State) (sq id : Nat) (st : Status) (r d : Nat) : (s.decide sq id st r d).trm = s.trm := by
  obtain ⟨_, h⟩ := s.decide_only sq id st r d; rw [h]
@[simp] theorem State.decide_gdv (s : State) (sq id : Nat) (st : Status) (r d : Nat) : (s.decide sq id st r d).gdv = s.gdv := by
  obtain ⟨_, h⟩ := s.decide_only sq id st r d; rw [h]
@[simp] theorem State.decide_fb (s : State) (sq id : Nat) (st : Status) (r d : Nat) : (s.decide sq id st r d).fb = s.fb := by
  obtain ⟨_, h⟩ := s.decide_only sq id st r d; rw [h]
@[simp] theorem State.decide_lpe (s : State) (sq id : Nat) (st : Status) (r d : Nat) : (s.decide sq id st r d).lpe = s.lpe := by
  obtain ⟨_, h⟩ := s.decide_only sq id st r d; rw [h]
@[simp] theorem State.decide_cmus (s : State) (sq id : Nat) (st : Status) (r d : Nat) : (s.decide sq id st r d).cmus = s.cmus := by
  obtain ⟨_, h⟩ := s.decide_only sq id st r d; rw [h]
@[simp] theorem State.decide_gbx (s : State) (sq id : Nat) (st : Status) (r d : Nat) : (s.decide sq id st r d).gbx = s.gbx := by
  obtain ⟨_, h⟩ := s.decide_only sq id st r d; rw [h]
@[simp] theorem State.decide_sxe (s : State) (sq id : Nat) (st : Status) (r d : Nat) : (s.decide sq id st r d).sxe = s.sxe := by
  obtain ⟨_, h⟩ := s.decide_only sq id st r d; rw [h]
@[simp] theorem State.decide_vlvs (s : State) (sq id : Nat) (st : Status) (r d : Nat) : (s.decide sq id st r d).vlvs = s.vlvs := by
  obtain ⟨_, h⟩ := s.decide_only sq id st r d; rw [h]
@[simp] theorem State.decide_vlvPeak (s : State) (sq id : Nat) (st : Status) (r d : Nat) : (s.decide sq id st r d).vlvPeak = s.vlvPeak := by
  obtain ⟨_, h⟩ := s.decide_only sq id st r d; rw [h]
@[simp] theorem State.decide_rpl (s : State) (sq id : Nat) (st : Status) (r d : Nat) : (s.decide sq id st r d).rpl = s.rpl := by
  obtain ⟨_, h⟩ := s.decide_only sq id st r d; rw [h]
@[simp] theorem State.decide_rplLast (s : State) (sq id : Nat) (st : Status) (r d : Nat) : (s.decide sq id st r d).rplLast = s.rplLast := by
  obtain ⟨_, h⟩ := s.decide_only sq id st r d; rw [h]
@[simp] theorem State.decide_rails (s : State) (sq id : Nat) (st : Status) (r d : Nat) : (s.decide sq id st r d).rails = s.rails := by
  obtain ⟨_, h⟩ := s.decide_only sq id st r d; rw [h]
@[simp] theorem State.decide_aon (s : State) (sq id : Nat) (st : Status) (r d : Nat) : (s.decide sq id st r d).aon = s.aon := by
  obtain ⟨_, h⟩ := s.decide_only sq id st r d; rw [h]
@[simp] theorem State.decide_ppm (s : State) (sq id : Nat) (st : Status) (r d : Nat) : (s.decide sq id st r d).ppm = s.ppm := by
  obtain ⟨_, h⟩ := s.decide_only sq id st r d; rw [h]
@[simp] theorem State.decide_dcl (s : State) (sq id : Nat) (st : Status) (r d : Nat) : (s.decide sq id st r d).dcl = s.dcl := by
  obtain ⟨_, h⟩ := s.decide_only sq id st r d; rw [h]
@[simp] theorem State.decide_prec (s : State) (sq id : Nat) (st : Status) (r d : Nat) : (s.decide sq id st r d).prec = s.prec := by
  obtain ⟨_, h⟩ := s.decide_only sq id st r d; rw [h]
@[simp] theorem State.decide_thm (s : State) (sq id : Nat) (st : Status) (r d : Nat) : (s.decide sq id st r d).thm = s.thm := by
  obtain ⟨_, h⟩ := s.decide_only sq id st r d; rw [h]
@[simp] theorem State.decide_afe (s : State) (sq id : Nat) (st : Status) (r d : Nat) : (s.decide sq id st r d).afe = s.afe := by
  obtain ⟨_, h⟩ := s.decide_only sq id st r d; rw [h]
@[simp] theorem State.decide_saf (s : State) (sq id : Nat) (st : Status) (r d : Nat) : (s.decide sq id st r d).saf = s.saf := by
  obtain ⟨_, h⟩ := s.decide_only sq id st r d; rw [h]
@[simp] theorem State.decide_mbx (s : State) (sq id : Nat) (st : Status) (r d : Nat) : (s.decide sq id st r d).mbx = s.mbx := by
  obtain ⟨_, h⟩ := s.decide_only sq id st r d; rw [h]
@[simp] theorem State.decide_evr (s : State) (sq id : Nat) (st : Status) (r d : Nat) : (s.decide sq id st r d).evr = s.evr := by
  obtain ⟨_, h⟩ := s.decide_only sq id st r d; rw [h]
@[simp] theorem State.decide_cans (s : State) (sq id : Nat) (st : Status) (r d : Nat) : (s.decide sq id st r d).cans = s.cans := by
  obtain ⟨_, h⟩ := s.decide_only sq id st r d; rw [h]
@[simp] theorem State.decide_canTsHi (s : State) (sq id : Nat) (st : Status) (r d : Nat) : (s.decide sq id st r d).canTsHi = s.canTsHi := by
  obtain ⟨_, h⟩ := s.decide_only sq id st r d; rw [h]
@[simp] theorem State.decide_mem (s : State) (sq id : Nat) (st : Status) (r d : Nat) : (s.decide sq id st r d).mem = s.mem := by
  obtain ⟨_, h⟩ := s.decide_only sq id st r d; rw [h]
@[simp] theorem State.decide_secu (s : State) (sq id : Nat) (st : Status) (r d : Nat) : (s.decide sq id st r d).secu = s.secu := by
  obtain ⟨_, h⟩ := s.decide_only sq id st r d; rw [h]
@[simp] theorem State.decide_readout (s : State) (sq id : Nat) (st : Status) (r d : Nat) : (s.decide sq id st r d).readout = s.readout := by
  obtain ⟨_, h⟩ := s.decide_only sq id st r d; rw [h]
@[simp] theorem State.decide_free (s : State) (sq id : Nat) (st : Status) (r d : Nat) : (s.decide sq id st r d).free = s.free := by
  obtain ⟨_, h⟩ := s.decide_only sq id st r d; rw [h]
@[simp] theorem State.decide_pending (s : State) (sq id : Nat) (st : Status) (r d : Nat) : (s.decide sq id st r d).pending = s.pending := by
  obtain ⟨_, h⟩ := s.decide_only sq id st r d; rw [h]

/-- Completing a command changes HIF only (R467). -/
theorem State.complete_only (s : State) (d : Desc) (st : Status) (r : Nat) : ∃ v0, s.complete d st r = { s with hif := v0 } := by
  exact ⟨_, rfl⟩

@[simp] theorem State.complete_now (s : State) (d : Desc) (st : Status) (r : Nat) : (s.complete d st r).now = s.now := by
  obtain ⟨_, h⟩ := s.complete_only d st r; rw [h]
@[simp] theorem State.complete_supply (s : State) (d : Desc) (st : Status) (r : Nat) : (s.complete d st r).supply = s.supply := by
  obtain ⟨_, h⟩ := s.complete_only d st r; rw [h]
@[simp] theorem State.complete_regs (s : State) (d : Desc) (st : Status) (r : Nat) : (s.complete d st r).regs = s.regs := by
  obtain ⟨_, h⟩ := s.complete_only d st r; rw [h]
@[simp] theorem State.complete_lock (s : State) (d : Desc) (st : Status) (r : Nat) : (s.complete d st r).lock = s.lock := by
  obtain ⟨_, h⟩ := s.complete_only d st r; rw [h]
@[simp] theorem State.complete_gaf (s : State) (d : Desc) (st : Status) (r : Nat) : (s.complete d st r).gaf = s.gaf := by
  obtain ⟨_, h⟩ := s.complete_only d st r; rw [h]
@[simp] theorem State.complete_tbu (s : State) (d : Desc) (st : Status) (r : Nat) : (s.complete d st r).tbu = s.tbu := by
  obtain ⟨_, h⟩ := s.complete_only d st r; rw [h]
@[simp] theorem State.complete_mod (s : State) (d : Desc) (st : Status) (r : Nat) : (s.complete d st r).mod = s.mod := by
  obtain ⟨_, h⟩ := s.complete_only d st r; rw [h]
@[simp] theorem State.complete_trm (s : State) (d : Desc) (st : Status) (r : Nat) : (s.complete d st r).trm = s.trm := by
  obtain ⟨_, h⟩ := s.complete_only d st r; rw [h]
@[simp] theorem State.complete_gdv (s : State) (d : Desc) (st : Status) (r : Nat) : (s.complete d st r).gdv = s.gdv := by
  obtain ⟨_, h⟩ := s.complete_only d st r; rw [h]
@[simp] theorem State.complete_fb (s : State) (d : Desc) (st : Status) (r : Nat) : (s.complete d st r).fb = s.fb := by
  obtain ⟨_, h⟩ := s.complete_only d st r; rw [h]
@[simp] theorem State.complete_lpe (s : State) (d : Desc) (st : Status) (r : Nat) : (s.complete d st r).lpe = s.lpe := by
  obtain ⟨_, h⟩ := s.complete_only d st r; rw [h]
@[simp] theorem State.complete_cmus (s : State) (d : Desc) (st : Status) (r : Nat) : (s.complete d st r).cmus = s.cmus := by
  obtain ⟨_, h⟩ := s.complete_only d st r; rw [h]
@[simp] theorem State.complete_gbx (s : State) (d : Desc) (st : Status) (r : Nat) : (s.complete d st r).gbx = s.gbx := by
  obtain ⟨_, h⟩ := s.complete_only d st r; rw [h]
@[simp] theorem State.complete_sxe (s : State) (d : Desc) (st : Status) (r : Nat) : (s.complete d st r).sxe = s.sxe := by
  obtain ⟨_, h⟩ := s.complete_only d st r; rw [h]
@[simp] theorem State.complete_vlvs (s : State) (d : Desc) (st : Status) (r : Nat) : (s.complete d st r).vlvs = s.vlvs := by
  obtain ⟨_, h⟩ := s.complete_only d st r; rw [h]
@[simp] theorem State.complete_vlvPeak (s : State) (d : Desc) (st : Status) (r : Nat) : (s.complete d st r).vlvPeak = s.vlvPeak := by
  obtain ⟨_, h⟩ := s.complete_only d st r; rw [h]
@[simp] theorem State.complete_rpl (s : State) (d : Desc) (st : Status) (r : Nat) : (s.complete d st r).rpl = s.rpl := by
  obtain ⟨_, h⟩ := s.complete_only d st r; rw [h]
@[simp] theorem State.complete_rplLast (s : State) (d : Desc) (st : Status) (r : Nat) : (s.complete d st r).rplLast = s.rplLast := by
  obtain ⟨_, h⟩ := s.complete_only d st r; rw [h]
@[simp] theorem State.complete_rails (s : State) (d : Desc) (st : Status) (r : Nat) : (s.complete d st r).rails = s.rails := by
  obtain ⟨_, h⟩ := s.complete_only d st r; rw [h]
@[simp] theorem State.complete_aon (s : State) (d : Desc) (st : Status) (r : Nat) : (s.complete d st r).aon = s.aon := by
  obtain ⟨_, h⟩ := s.complete_only d st r; rw [h]
@[simp] theorem State.complete_ppm (s : State) (d : Desc) (st : Status) (r : Nat) : (s.complete d st r).ppm = s.ppm := by
  obtain ⟨_, h⟩ := s.complete_only d st r; rw [h]
@[simp] theorem State.complete_dcl (s : State) (d : Desc) (st : Status) (r : Nat) : (s.complete d st r).dcl = s.dcl := by
  obtain ⟨_, h⟩ := s.complete_only d st r; rw [h]
@[simp] theorem State.complete_prec (s : State) (d : Desc) (st : Status) (r : Nat) : (s.complete d st r).prec = s.prec := by
  obtain ⟨_, h⟩ := s.complete_only d st r; rw [h]
@[simp] theorem State.complete_thm (s : State) (d : Desc) (st : Status) (r : Nat) : (s.complete d st r).thm = s.thm := by
  obtain ⟨_, h⟩ := s.complete_only d st r; rw [h]
@[simp] theorem State.complete_afe (s : State) (d : Desc) (st : Status) (r : Nat) : (s.complete d st r).afe = s.afe := by
  obtain ⟨_, h⟩ := s.complete_only d st r; rw [h]
@[simp] theorem State.complete_saf (s : State) (d : Desc) (st : Status) (r : Nat) : (s.complete d st r).saf = s.saf := by
  obtain ⟨_, h⟩ := s.complete_only d st r; rw [h]
@[simp] theorem State.complete_mbx (s : State) (d : Desc) (st : Status) (r : Nat) : (s.complete d st r).mbx = s.mbx := by
  obtain ⟨_, h⟩ := s.complete_only d st r; rw [h]
@[simp] theorem State.complete_evr (s : State) (d : Desc) (st : Status) (r : Nat) : (s.complete d st r).evr = s.evr := by
  obtain ⟨_, h⟩ := s.complete_only d st r; rw [h]
@[simp] theorem State.complete_cans (s : State) (d : Desc) (st : Status) (r : Nat) : (s.complete d st r).cans = s.cans := by
  obtain ⟨_, h⟩ := s.complete_only d st r; rw [h]
@[simp] theorem State.complete_canTsHi (s : State) (d : Desc) (st : Status) (r : Nat) : (s.complete d st r).canTsHi = s.canTsHi := by
  obtain ⟨_, h⟩ := s.complete_only d st r; rw [h]
@[simp] theorem State.complete_mem (s : State) (d : Desc) (st : Status) (r : Nat) : (s.complete d st r).mem = s.mem := by
  obtain ⟨_, h⟩ := s.complete_only d st r; rw [h]
@[simp] theorem State.complete_secu (s : State) (d : Desc) (st : Status) (r : Nat) : (s.complete d st r).secu = s.secu := by
  obtain ⟨_, h⟩ := s.complete_only d st r; rw [h]
@[simp] theorem State.complete_readout (s : State) (d : Desc) (st : Status) (r : Nat) : (s.complete d st r).readout = s.readout := by
  obtain ⟨_, h⟩ := s.complete_only d st r; rw [h]
@[simp] theorem State.complete_free (s : State) (d : Desc) (st : Status) (r : Nat) : (s.complete d st r).free = s.free := by
  obtain ⟨_, h⟩ := s.complete_only d st r; rw [h]
@[simp] theorem State.complete_pending (s : State) (d : Desc) (st : Status) (r : Nat) : (s.complete d st r).pending = s.pending := by
  obtain ⟨_, h⟩ := s.complete_only d st r; rw [h]

/-- Completing a command with OK changes HIF only. -/
theorem State.ok_only (s : State) (d : Desc) : ∃ v0, s.ok d = { s with hif := v0 } := by
  exact ⟨_, rfl⟩

@[simp] theorem State.ok_now (s : State) (d : Desc) : (s.ok d).now = s.now := by
  obtain ⟨_, h⟩ := s.ok_only d; rw [h]
@[simp] theorem State.ok_supply (s : State) (d : Desc) : (s.ok d).supply = s.supply := by
  obtain ⟨_, h⟩ := s.ok_only d; rw [h]
@[simp] theorem State.ok_regs (s : State) (d : Desc) : (s.ok d).regs = s.regs := by
  obtain ⟨_, h⟩ := s.ok_only d; rw [h]
@[simp] theorem State.ok_lock (s : State) (d : Desc) : (s.ok d).lock = s.lock := by
  obtain ⟨_, h⟩ := s.ok_only d; rw [h]
@[simp] theorem State.ok_gaf (s : State) (d : Desc) : (s.ok d).gaf = s.gaf := by
  obtain ⟨_, h⟩ := s.ok_only d; rw [h]
@[simp] theorem State.ok_tbu (s : State) (d : Desc) : (s.ok d).tbu = s.tbu := by
  obtain ⟨_, h⟩ := s.ok_only d; rw [h]
@[simp] theorem State.ok_mod (s : State) (d : Desc) : (s.ok d).mod = s.mod := by
  obtain ⟨_, h⟩ := s.ok_only d; rw [h]
@[simp] theorem State.ok_trm (s : State) (d : Desc) : (s.ok d).trm = s.trm := by
  obtain ⟨_, h⟩ := s.ok_only d; rw [h]
@[simp] theorem State.ok_gdv (s : State) (d : Desc) : (s.ok d).gdv = s.gdv := by
  obtain ⟨_, h⟩ := s.ok_only d; rw [h]
@[simp] theorem State.ok_fb (s : State) (d : Desc) : (s.ok d).fb = s.fb := by
  obtain ⟨_, h⟩ := s.ok_only d; rw [h]
@[simp] theorem State.ok_lpe (s : State) (d : Desc) : (s.ok d).lpe = s.lpe := by
  obtain ⟨_, h⟩ := s.ok_only d; rw [h]
@[simp] theorem State.ok_cmus (s : State) (d : Desc) : (s.ok d).cmus = s.cmus := by
  obtain ⟨_, h⟩ := s.ok_only d; rw [h]
@[simp] theorem State.ok_gbx (s : State) (d : Desc) : (s.ok d).gbx = s.gbx := by
  obtain ⟨_, h⟩ := s.ok_only d; rw [h]
@[simp] theorem State.ok_sxe (s : State) (d : Desc) : (s.ok d).sxe = s.sxe := by
  obtain ⟨_, h⟩ := s.ok_only d; rw [h]
@[simp] theorem State.ok_vlvs (s : State) (d : Desc) : (s.ok d).vlvs = s.vlvs := by
  obtain ⟨_, h⟩ := s.ok_only d; rw [h]
@[simp] theorem State.ok_vlvPeak (s : State) (d : Desc) : (s.ok d).vlvPeak = s.vlvPeak := by
  obtain ⟨_, h⟩ := s.ok_only d; rw [h]
@[simp] theorem State.ok_rpl (s : State) (d : Desc) : (s.ok d).rpl = s.rpl := by
  obtain ⟨_, h⟩ := s.ok_only d; rw [h]
@[simp] theorem State.ok_rplLast (s : State) (d : Desc) : (s.ok d).rplLast = s.rplLast := by
  obtain ⟨_, h⟩ := s.ok_only d; rw [h]
@[simp] theorem State.ok_rails (s : State) (d : Desc) : (s.ok d).rails = s.rails := by
  obtain ⟨_, h⟩ := s.ok_only d; rw [h]
@[simp] theorem State.ok_aon (s : State) (d : Desc) : (s.ok d).aon = s.aon := by
  obtain ⟨_, h⟩ := s.ok_only d; rw [h]
@[simp] theorem State.ok_ppm (s : State) (d : Desc) : (s.ok d).ppm = s.ppm := by
  obtain ⟨_, h⟩ := s.ok_only d; rw [h]
@[simp] theorem State.ok_dcl (s : State) (d : Desc) : (s.ok d).dcl = s.dcl := by
  obtain ⟨_, h⟩ := s.ok_only d; rw [h]
@[simp] theorem State.ok_prec (s : State) (d : Desc) : (s.ok d).prec = s.prec := by
  obtain ⟨_, h⟩ := s.ok_only d; rw [h]
@[simp] theorem State.ok_thm (s : State) (d : Desc) : (s.ok d).thm = s.thm := by
  obtain ⟨_, h⟩ := s.ok_only d; rw [h]
@[simp] theorem State.ok_afe (s : State) (d : Desc) : (s.ok d).afe = s.afe := by
  obtain ⟨_, h⟩ := s.ok_only d; rw [h]
@[simp] theorem State.ok_saf (s : State) (d : Desc) : (s.ok d).saf = s.saf := by
  obtain ⟨_, h⟩ := s.ok_only d; rw [h]
@[simp] theorem State.ok_mbx (s : State) (d : Desc) : (s.ok d).mbx = s.mbx := by
  obtain ⟨_, h⟩ := s.ok_only d; rw [h]
@[simp] theorem State.ok_evr (s : State) (d : Desc) : (s.ok d).evr = s.evr := by
  obtain ⟨_, h⟩ := s.ok_only d; rw [h]
@[simp] theorem State.ok_cans (s : State) (d : Desc) : (s.ok d).cans = s.cans := by
  obtain ⟨_, h⟩ := s.ok_only d; rw [h]
@[simp] theorem State.ok_canTsHi (s : State) (d : Desc) : (s.ok d).canTsHi = s.canTsHi := by
  obtain ⟨_, h⟩ := s.ok_only d; rw [h]
@[simp] theorem State.ok_mem (s : State) (d : Desc) : (s.ok d).mem = s.mem := by
  obtain ⟨_, h⟩ := s.ok_only d; rw [h]
@[simp] theorem State.ok_secu (s : State) (d : Desc) : (s.ok d).secu = s.secu := by
  obtain ⟨_, h⟩ := s.ok_only d; rw [h]
@[simp] theorem State.ok_readout (s : State) (d : Desc) : (s.ok d).readout = s.readout := by
  obtain ⟨_, h⟩ := s.ok_only d; rw [h]
@[simp] theorem State.ok_free (s : State) (d : Desc) : (s.ok d).free = s.free := by
  obtain ⟨_, h⟩ := s.ok_only d; rw [h]
@[simp] theorem State.ok_pending (s : State) (d : Desc) : (s.ok d).pending = s.pending := by
  obtain ⟨_, h⟩ := s.ok_only d; rw [h]

/-- Completing a command with REFUSED changes HIF only. -/
theorem State.refuse_only (s : State) (d : Desc) : ∃ v0, s.refuse d = { s with hif := v0 } := by
  exact ⟨_, rfl⟩

@[simp] theorem State.refuse_now (s : State) (d : Desc) : (s.refuse d).now = s.now := by
  obtain ⟨_, h⟩ := s.refuse_only d; rw [h]
@[simp] theorem State.refuse_supply (s : State) (d : Desc) : (s.refuse d).supply = s.supply := by
  obtain ⟨_, h⟩ := s.refuse_only d; rw [h]
@[simp] theorem State.refuse_regs (s : State) (d : Desc) : (s.refuse d).regs = s.regs := by
  obtain ⟨_, h⟩ := s.refuse_only d; rw [h]
@[simp] theorem State.refuse_lock (s : State) (d : Desc) : (s.refuse d).lock = s.lock := by
  obtain ⟨_, h⟩ := s.refuse_only d; rw [h]
@[simp] theorem State.refuse_gaf (s : State) (d : Desc) : (s.refuse d).gaf = s.gaf := by
  obtain ⟨_, h⟩ := s.refuse_only d; rw [h]
@[simp] theorem State.refuse_tbu (s : State) (d : Desc) : (s.refuse d).tbu = s.tbu := by
  obtain ⟨_, h⟩ := s.refuse_only d; rw [h]
@[simp] theorem State.refuse_mod (s : State) (d : Desc) : (s.refuse d).mod = s.mod := by
  obtain ⟨_, h⟩ := s.refuse_only d; rw [h]
@[simp] theorem State.refuse_trm (s : State) (d : Desc) : (s.refuse d).trm = s.trm := by
  obtain ⟨_, h⟩ := s.refuse_only d; rw [h]
@[simp] theorem State.refuse_gdv (s : State) (d : Desc) : (s.refuse d).gdv = s.gdv := by
  obtain ⟨_, h⟩ := s.refuse_only d; rw [h]
@[simp] theorem State.refuse_fb (s : State) (d : Desc) : (s.refuse d).fb = s.fb := by
  obtain ⟨_, h⟩ := s.refuse_only d; rw [h]
@[simp] theorem State.refuse_lpe (s : State) (d : Desc) : (s.refuse d).lpe = s.lpe := by
  obtain ⟨_, h⟩ := s.refuse_only d; rw [h]
@[simp] theorem State.refuse_cmus (s : State) (d : Desc) : (s.refuse d).cmus = s.cmus := by
  obtain ⟨_, h⟩ := s.refuse_only d; rw [h]
@[simp] theorem State.refuse_gbx (s : State) (d : Desc) : (s.refuse d).gbx = s.gbx := by
  obtain ⟨_, h⟩ := s.refuse_only d; rw [h]
@[simp] theorem State.refuse_sxe (s : State) (d : Desc) : (s.refuse d).sxe = s.sxe := by
  obtain ⟨_, h⟩ := s.refuse_only d; rw [h]
@[simp] theorem State.refuse_vlvs (s : State) (d : Desc) : (s.refuse d).vlvs = s.vlvs := by
  obtain ⟨_, h⟩ := s.refuse_only d; rw [h]
@[simp] theorem State.refuse_vlvPeak (s : State) (d : Desc) : (s.refuse d).vlvPeak = s.vlvPeak := by
  obtain ⟨_, h⟩ := s.refuse_only d; rw [h]
@[simp] theorem State.refuse_rpl (s : State) (d : Desc) : (s.refuse d).rpl = s.rpl := by
  obtain ⟨_, h⟩ := s.refuse_only d; rw [h]
@[simp] theorem State.refuse_rplLast (s : State) (d : Desc) : (s.refuse d).rplLast = s.rplLast := by
  obtain ⟨_, h⟩ := s.refuse_only d; rw [h]
@[simp] theorem State.refuse_rails (s : State) (d : Desc) : (s.refuse d).rails = s.rails := by
  obtain ⟨_, h⟩ := s.refuse_only d; rw [h]
@[simp] theorem State.refuse_aon (s : State) (d : Desc) : (s.refuse d).aon = s.aon := by
  obtain ⟨_, h⟩ := s.refuse_only d; rw [h]
@[simp] theorem State.refuse_ppm (s : State) (d : Desc) : (s.refuse d).ppm = s.ppm := by
  obtain ⟨_, h⟩ := s.refuse_only d; rw [h]
@[simp] theorem State.refuse_dcl (s : State) (d : Desc) : (s.refuse d).dcl = s.dcl := by
  obtain ⟨_, h⟩ := s.refuse_only d; rw [h]
@[simp] theorem State.refuse_prec (s : State) (d : Desc) : (s.refuse d).prec = s.prec := by
  obtain ⟨_, h⟩ := s.refuse_only d; rw [h]
@[simp] theorem State.refuse_thm (s : State) (d : Desc) : (s.refuse d).thm = s.thm := by
  obtain ⟨_, h⟩ := s.refuse_only d; rw [h]
@[simp] theorem State.refuse_afe (s : State) (d : Desc) : (s.refuse d).afe = s.afe := by
  obtain ⟨_, h⟩ := s.refuse_only d; rw [h]
@[simp] theorem State.refuse_saf (s : State) (d : Desc) : (s.refuse d).saf = s.saf := by
  obtain ⟨_, h⟩ := s.refuse_only d; rw [h]
@[simp] theorem State.refuse_mbx (s : State) (d : Desc) : (s.refuse d).mbx = s.mbx := by
  obtain ⟨_, h⟩ := s.refuse_only d; rw [h]
@[simp] theorem State.refuse_evr (s : State) (d : Desc) : (s.refuse d).evr = s.evr := by
  obtain ⟨_, h⟩ := s.refuse_only d; rw [h]
@[simp] theorem State.refuse_cans (s : State) (d : Desc) : (s.refuse d).cans = s.cans := by
  obtain ⟨_, h⟩ := s.refuse_only d; rw [h]
@[simp] theorem State.refuse_canTsHi (s : State) (d : Desc) : (s.refuse d).canTsHi = s.canTsHi := by
  obtain ⟨_, h⟩ := s.refuse_only d; rw [h]
@[simp] theorem State.refuse_mem (s : State) (d : Desc) : (s.refuse d).mem = s.mem := by
  obtain ⟨_, h⟩ := s.refuse_only d; rw [h]
@[simp] theorem State.refuse_secu (s : State) (d : Desc) : (s.refuse d).secu = s.secu := by
  obtain ⟨_, h⟩ := s.refuse_only d; rw [h]
@[simp] theorem State.refuse_readout (s : State) (d : Desc) : (s.refuse d).readout = s.readout := by
  obtain ⟨_, h⟩ := s.refuse_only d; rw [h]
@[simp] theorem State.refuse_free (s : State) (d : Desc) : (s.refuse d).free = s.free := by
  obtain ⟨_, h⟩ := s.refuse_only d; rw [h]
@[simp] theorem State.refuse_pending (s : State) (d : Desc) : (s.refuse d).pending = s.pending := by
  obtain ⟨_, h⟩ := s.refuse_only d; rw [h]

/-- Noting a command changes HIF only. -/
theorem State.enter_only (s : State) (code : Nat) (d : Desc) : ∃ v0, s.enter code d = { s with hif := v0 } := by
  unfold State.enter
  split <;> exact ⟨_, rfl⟩

@[simp] theorem State.enter_now (s : State) (code : Nat) (d : Desc) : (s.enter code d).now = s.now := by
  obtain ⟨_, h⟩ := s.enter_only code d; rw [h]
@[simp] theorem State.enter_supply (s : State) (code : Nat) (d : Desc) : (s.enter code d).supply = s.supply := by
  obtain ⟨_, h⟩ := s.enter_only code d; rw [h]
@[simp] theorem State.enter_regs (s : State) (code : Nat) (d : Desc) : (s.enter code d).regs = s.regs := by
  obtain ⟨_, h⟩ := s.enter_only code d; rw [h]
@[simp] theorem State.enter_lock (s : State) (code : Nat) (d : Desc) : (s.enter code d).lock = s.lock := by
  obtain ⟨_, h⟩ := s.enter_only code d; rw [h]
@[simp] theorem State.enter_gaf (s : State) (code : Nat) (d : Desc) : (s.enter code d).gaf = s.gaf := by
  obtain ⟨_, h⟩ := s.enter_only code d; rw [h]
@[simp] theorem State.enter_tbu (s : State) (code : Nat) (d : Desc) : (s.enter code d).tbu = s.tbu := by
  obtain ⟨_, h⟩ := s.enter_only code d; rw [h]
@[simp] theorem State.enter_mod (s : State) (code : Nat) (d : Desc) : (s.enter code d).mod = s.mod := by
  obtain ⟨_, h⟩ := s.enter_only code d; rw [h]
@[simp] theorem State.enter_trm (s : State) (code : Nat) (d : Desc) : (s.enter code d).trm = s.trm := by
  obtain ⟨_, h⟩ := s.enter_only code d; rw [h]
@[simp] theorem State.enter_gdv (s : State) (code : Nat) (d : Desc) : (s.enter code d).gdv = s.gdv := by
  obtain ⟨_, h⟩ := s.enter_only code d; rw [h]
@[simp] theorem State.enter_fb (s : State) (code : Nat) (d : Desc) : (s.enter code d).fb = s.fb := by
  obtain ⟨_, h⟩ := s.enter_only code d; rw [h]
@[simp] theorem State.enter_lpe (s : State) (code : Nat) (d : Desc) : (s.enter code d).lpe = s.lpe := by
  obtain ⟨_, h⟩ := s.enter_only code d; rw [h]
@[simp] theorem State.enter_cmus (s : State) (code : Nat) (d : Desc) : (s.enter code d).cmus = s.cmus := by
  obtain ⟨_, h⟩ := s.enter_only code d; rw [h]
@[simp] theorem State.enter_gbx (s : State) (code : Nat) (d : Desc) : (s.enter code d).gbx = s.gbx := by
  obtain ⟨_, h⟩ := s.enter_only code d; rw [h]
@[simp] theorem State.enter_sxe (s : State) (code : Nat) (d : Desc) : (s.enter code d).sxe = s.sxe := by
  obtain ⟨_, h⟩ := s.enter_only code d; rw [h]
@[simp] theorem State.enter_vlvs (s : State) (code : Nat) (d : Desc) : (s.enter code d).vlvs = s.vlvs := by
  obtain ⟨_, h⟩ := s.enter_only code d; rw [h]
@[simp] theorem State.enter_vlvPeak (s : State) (code : Nat) (d : Desc) : (s.enter code d).vlvPeak = s.vlvPeak := by
  obtain ⟨_, h⟩ := s.enter_only code d; rw [h]
@[simp] theorem State.enter_rpl (s : State) (code : Nat) (d : Desc) : (s.enter code d).rpl = s.rpl := by
  obtain ⟨_, h⟩ := s.enter_only code d; rw [h]
@[simp] theorem State.enter_rplLast (s : State) (code : Nat) (d : Desc) : (s.enter code d).rplLast = s.rplLast := by
  obtain ⟨_, h⟩ := s.enter_only code d; rw [h]
@[simp] theorem State.enter_rails (s : State) (code : Nat) (d : Desc) : (s.enter code d).rails = s.rails := by
  obtain ⟨_, h⟩ := s.enter_only code d; rw [h]
@[simp] theorem State.enter_aon (s : State) (code : Nat) (d : Desc) : (s.enter code d).aon = s.aon := by
  obtain ⟨_, h⟩ := s.enter_only code d; rw [h]
@[simp] theorem State.enter_ppm (s : State) (code : Nat) (d : Desc) : (s.enter code d).ppm = s.ppm := by
  obtain ⟨_, h⟩ := s.enter_only code d; rw [h]
@[simp] theorem State.enter_dcl (s : State) (code : Nat) (d : Desc) : (s.enter code d).dcl = s.dcl := by
  obtain ⟨_, h⟩ := s.enter_only code d; rw [h]
@[simp] theorem State.enter_prec (s : State) (code : Nat) (d : Desc) : (s.enter code d).prec = s.prec := by
  obtain ⟨_, h⟩ := s.enter_only code d; rw [h]
@[simp] theorem State.enter_thm (s : State) (code : Nat) (d : Desc) : (s.enter code d).thm = s.thm := by
  obtain ⟨_, h⟩ := s.enter_only code d; rw [h]
@[simp] theorem State.enter_afe (s : State) (code : Nat) (d : Desc) : (s.enter code d).afe = s.afe := by
  obtain ⟨_, h⟩ := s.enter_only code d; rw [h]
@[simp] theorem State.enter_saf (s : State) (code : Nat) (d : Desc) : (s.enter code d).saf = s.saf := by
  obtain ⟨_, h⟩ := s.enter_only code d; rw [h]
@[simp] theorem State.enter_mbx (s : State) (code : Nat) (d : Desc) : (s.enter code d).mbx = s.mbx := by
  obtain ⟨_, h⟩ := s.enter_only code d; rw [h]
@[simp] theorem State.enter_evr (s : State) (code : Nat) (d : Desc) : (s.enter code d).evr = s.evr := by
  obtain ⟨_, h⟩ := s.enter_only code d; rw [h]
@[simp] theorem State.enter_cans (s : State) (code : Nat) (d : Desc) : (s.enter code d).cans = s.cans := by
  obtain ⟨_, h⟩ := s.enter_only code d; rw [h]
@[simp] theorem State.enter_canTsHi (s : State) (code : Nat) (d : Desc) : (s.enter code d).canTsHi = s.canTsHi := by
  obtain ⟨_, h⟩ := s.enter_only code d; rw [h]
@[simp] theorem State.enter_mem (s : State) (code : Nat) (d : Desc) : (s.enter code d).mem = s.mem := by
  obtain ⟨_, h⟩ := s.enter_only code d; rw [h]
@[simp] theorem State.enter_secu (s : State) (code : Nat) (d : Desc) : (s.enter code d).secu = s.secu := by
  obtain ⟨_, h⟩ := s.enter_only code d; rw [h]
@[simp] theorem State.enter_readout (s : State) (code : Nat) (d : Desc) : (s.enter code d).readout = s.readout := by
  obtain ⟨_, h⟩ := s.enter_only code d; rw [h]
@[simp] theorem State.enter_free (s : State) (code : Nat) (d : Desc) : (s.enter code d).free = s.free := by
  obtain ⟨_, h⟩ := s.enter_only code d; rw [h]
@[simp] theorem State.enter_pending (s : State) (code : Nat) (d : Desc) : (s.enter code d).pending = s.pending := by
  obtain ⟨_, h⟩ := s.enter_only code d; rw [h]

/-- Putting an effect off changes HIF only (R467). -/
theorem State.await_only (s : State) (code : Nat) (d : Desc) (a : BoundaryAct) : ∃ v0, s.await code d a = { s with hif := v0 } := by
  exact ⟨_, rfl⟩

@[simp] theorem State.await_now (s : State) (code : Nat) (d : Desc) (a : BoundaryAct) : (s.await code d a).now = s.now := by
  obtain ⟨_, h⟩ := s.await_only code d a; rw [h]
@[simp] theorem State.await_supply (s : State) (code : Nat) (d : Desc) (a : BoundaryAct) : (s.await code d a).supply = s.supply := by
  obtain ⟨_, h⟩ := s.await_only code d a; rw [h]
@[simp] theorem State.await_regs (s : State) (code : Nat) (d : Desc) (a : BoundaryAct) : (s.await code d a).regs = s.regs := by
  obtain ⟨_, h⟩ := s.await_only code d a; rw [h]
@[simp] theorem State.await_lock (s : State) (code : Nat) (d : Desc) (a : BoundaryAct) : (s.await code d a).lock = s.lock := by
  obtain ⟨_, h⟩ := s.await_only code d a; rw [h]
@[simp] theorem State.await_gaf (s : State) (code : Nat) (d : Desc) (a : BoundaryAct) : (s.await code d a).gaf = s.gaf := by
  obtain ⟨_, h⟩ := s.await_only code d a; rw [h]
@[simp] theorem State.await_tbu (s : State) (code : Nat) (d : Desc) (a : BoundaryAct) : (s.await code d a).tbu = s.tbu := by
  obtain ⟨_, h⟩ := s.await_only code d a; rw [h]
@[simp] theorem State.await_mod (s : State) (code : Nat) (d : Desc) (a : BoundaryAct) : (s.await code d a).mod = s.mod := by
  obtain ⟨_, h⟩ := s.await_only code d a; rw [h]
@[simp] theorem State.await_trm (s : State) (code : Nat) (d : Desc) (a : BoundaryAct) : (s.await code d a).trm = s.trm := by
  obtain ⟨_, h⟩ := s.await_only code d a; rw [h]
@[simp] theorem State.await_gdv (s : State) (code : Nat) (d : Desc) (a : BoundaryAct) : (s.await code d a).gdv = s.gdv := by
  obtain ⟨_, h⟩ := s.await_only code d a; rw [h]
@[simp] theorem State.await_fb (s : State) (code : Nat) (d : Desc) (a : BoundaryAct) : (s.await code d a).fb = s.fb := by
  obtain ⟨_, h⟩ := s.await_only code d a; rw [h]
@[simp] theorem State.await_lpe (s : State) (code : Nat) (d : Desc) (a : BoundaryAct) : (s.await code d a).lpe = s.lpe := by
  obtain ⟨_, h⟩ := s.await_only code d a; rw [h]
@[simp] theorem State.await_cmus (s : State) (code : Nat) (d : Desc) (a : BoundaryAct) : (s.await code d a).cmus = s.cmus := by
  obtain ⟨_, h⟩ := s.await_only code d a; rw [h]
@[simp] theorem State.await_gbx (s : State) (code : Nat) (d : Desc) (a : BoundaryAct) : (s.await code d a).gbx = s.gbx := by
  obtain ⟨_, h⟩ := s.await_only code d a; rw [h]
@[simp] theorem State.await_sxe (s : State) (code : Nat) (d : Desc) (a : BoundaryAct) : (s.await code d a).sxe = s.sxe := by
  obtain ⟨_, h⟩ := s.await_only code d a; rw [h]
@[simp] theorem State.await_vlvs (s : State) (code : Nat) (d : Desc) (a : BoundaryAct) : (s.await code d a).vlvs = s.vlvs := by
  obtain ⟨_, h⟩ := s.await_only code d a; rw [h]
@[simp] theorem State.await_vlvPeak (s : State) (code : Nat) (d : Desc) (a : BoundaryAct) : (s.await code d a).vlvPeak = s.vlvPeak := by
  obtain ⟨_, h⟩ := s.await_only code d a; rw [h]
@[simp] theorem State.await_rpl (s : State) (code : Nat) (d : Desc) (a : BoundaryAct) : (s.await code d a).rpl = s.rpl := by
  obtain ⟨_, h⟩ := s.await_only code d a; rw [h]
@[simp] theorem State.await_rplLast (s : State) (code : Nat) (d : Desc) (a : BoundaryAct) : (s.await code d a).rplLast = s.rplLast := by
  obtain ⟨_, h⟩ := s.await_only code d a; rw [h]
@[simp] theorem State.await_rails (s : State) (code : Nat) (d : Desc) (a : BoundaryAct) : (s.await code d a).rails = s.rails := by
  obtain ⟨_, h⟩ := s.await_only code d a; rw [h]
@[simp] theorem State.await_aon (s : State) (code : Nat) (d : Desc) (a : BoundaryAct) : (s.await code d a).aon = s.aon := by
  obtain ⟨_, h⟩ := s.await_only code d a; rw [h]
@[simp] theorem State.await_ppm (s : State) (code : Nat) (d : Desc) (a : BoundaryAct) : (s.await code d a).ppm = s.ppm := by
  obtain ⟨_, h⟩ := s.await_only code d a; rw [h]
@[simp] theorem State.await_dcl (s : State) (code : Nat) (d : Desc) (a : BoundaryAct) : (s.await code d a).dcl = s.dcl := by
  obtain ⟨_, h⟩ := s.await_only code d a; rw [h]
@[simp] theorem State.await_prec (s : State) (code : Nat) (d : Desc) (a : BoundaryAct) : (s.await code d a).prec = s.prec := by
  obtain ⟨_, h⟩ := s.await_only code d a; rw [h]
@[simp] theorem State.await_thm (s : State) (code : Nat) (d : Desc) (a : BoundaryAct) : (s.await code d a).thm = s.thm := by
  obtain ⟨_, h⟩ := s.await_only code d a; rw [h]
@[simp] theorem State.await_afe (s : State) (code : Nat) (d : Desc) (a : BoundaryAct) : (s.await code d a).afe = s.afe := by
  obtain ⟨_, h⟩ := s.await_only code d a; rw [h]
@[simp] theorem State.await_saf (s : State) (code : Nat) (d : Desc) (a : BoundaryAct) : (s.await code d a).saf = s.saf := by
  obtain ⟨_, h⟩ := s.await_only code d a; rw [h]
@[simp] theorem State.await_mbx (s : State) (code : Nat) (d : Desc) (a : BoundaryAct) : (s.await code d a).mbx = s.mbx := by
  obtain ⟨_, h⟩ := s.await_only code d a; rw [h]
@[simp] theorem State.await_evr (s : State) (code : Nat) (d : Desc) (a : BoundaryAct) : (s.await code d a).evr = s.evr := by
  obtain ⟨_, h⟩ := s.await_only code d a; rw [h]
@[simp] theorem State.await_cans (s : State) (code : Nat) (d : Desc) (a : BoundaryAct) : (s.await code d a).cans = s.cans := by
  obtain ⟨_, h⟩ := s.await_only code d a; rw [h]
@[simp] theorem State.await_canTsHi (s : State) (code : Nat) (d : Desc) (a : BoundaryAct) : (s.await code d a).canTsHi = s.canTsHi := by
  obtain ⟨_, h⟩ := s.await_only code d a; rw [h]
@[simp] theorem State.await_mem (s : State) (code : Nat) (d : Desc) (a : BoundaryAct) : (s.await code d a).mem = s.mem := by
  obtain ⟨_, h⟩ := s.await_only code d a; rw [h]
@[simp] theorem State.await_secu (s : State) (code : Nat) (d : Desc) (a : BoundaryAct) : (s.await code d a).secu = s.secu := by
  obtain ⟨_, h⟩ := s.await_only code d a; rw [h]
@[simp] theorem State.await_readout (s : State) (code : Nat) (d : Desc) (a : BoundaryAct) : (s.await code d a).readout = s.readout := by
  obtain ⟨_, h⟩ := s.await_only code d a; rw [h]
@[simp] theorem State.await_free (s : State) (code : Nat) (d : Desc) (a : BoundaryAct) : (s.await code d a).free = s.free := by
  obtain ⟨_, h⟩ := s.await_only code d a; rw [h]
@[simp] theorem State.await_pending (s : State) (code : Nat) (d : Desc) (a : BoundaryAct) : (s.await code d a).pending = s.pending := by
  obtain ⟨_, h⟩ := s.await_only code d a; rw [h]

/-- Putting the rest of an effect off changes HIF only (R467). -/
theorem State.awaitRest_only (s : State) (code : Nat) (d : Desc) (a : BoundaryAct) : ∃ v0, s.awaitRest code d a = { s with hif := v0 } := by
  exact ⟨_, rfl⟩

@[simp] theorem State.awaitRest_now (s : State) (code : Nat) (d : Desc) (a : BoundaryAct) : (s.awaitRest code d a).now = s.now := by
  obtain ⟨_, h⟩ := s.awaitRest_only code d a; rw [h]
@[simp] theorem State.awaitRest_supply (s : State) (code : Nat) (d : Desc) (a : BoundaryAct) : (s.awaitRest code d a).supply = s.supply := by
  obtain ⟨_, h⟩ := s.awaitRest_only code d a; rw [h]
@[simp] theorem State.awaitRest_regs (s : State) (code : Nat) (d : Desc) (a : BoundaryAct) : (s.awaitRest code d a).regs = s.regs := by
  obtain ⟨_, h⟩ := s.awaitRest_only code d a; rw [h]
@[simp] theorem State.awaitRest_lock (s : State) (code : Nat) (d : Desc) (a : BoundaryAct) : (s.awaitRest code d a).lock = s.lock := by
  obtain ⟨_, h⟩ := s.awaitRest_only code d a; rw [h]
@[simp] theorem State.awaitRest_gaf (s : State) (code : Nat) (d : Desc) (a : BoundaryAct) : (s.awaitRest code d a).gaf = s.gaf := by
  obtain ⟨_, h⟩ := s.awaitRest_only code d a; rw [h]
@[simp] theorem State.awaitRest_tbu (s : State) (code : Nat) (d : Desc) (a : BoundaryAct) : (s.awaitRest code d a).tbu = s.tbu := by
  obtain ⟨_, h⟩ := s.awaitRest_only code d a; rw [h]
@[simp] theorem State.awaitRest_mod (s : State) (code : Nat) (d : Desc) (a : BoundaryAct) : (s.awaitRest code d a).mod = s.mod := by
  obtain ⟨_, h⟩ := s.awaitRest_only code d a; rw [h]
@[simp] theorem State.awaitRest_trm (s : State) (code : Nat) (d : Desc) (a : BoundaryAct) : (s.awaitRest code d a).trm = s.trm := by
  obtain ⟨_, h⟩ := s.awaitRest_only code d a; rw [h]
@[simp] theorem State.awaitRest_gdv (s : State) (code : Nat) (d : Desc) (a : BoundaryAct) : (s.awaitRest code d a).gdv = s.gdv := by
  obtain ⟨_, h⟩ := s.awaitRest_only code d a; rw [h]
@[simp] theorem State.awaitRest_fb (s : State) (code : Nat) (d : Desc) (a : BoundaryAct) : (s.awaitRest code d a).fb = s.fb := by
  obtain ⟨_, h⟩ := s.awaitRest_only code d a; rw [h]
@[simp] theorem State.awaitRest_lpe (s : State) (code : Nat) (d : Desc) (a : BoundaryAct) : (s.awaitRest code d a).lpe = s.lpe := by
  obtain ⟨_, h⟩ := s.awaitRest_only code d a; rw [h]
@[simp] theorem State.awaitRest_cmus (s : State) (code : Nat) (d : Desc) (a : BoundaryAct) : (s.awaitRest code d a).cmus = s.cmus := by
  obtain ⟨_, h⟩ := s.awaitRest_only code d a; rw [h]
@[simp] theorem State.awaitRest_gbx (s : State) (code : Nat) (d : Desc) (a : BoundaryAct) : (s.awaitRest code d a).gbx = s.gbx := by
  obtain ⟨_, h⟩ := s.awaitRest_only code d a; rw [h]
@[simp] theorem State.awaitRest_sxe (s : State) (code : Nat) (d : Desc) (a : BoundaryAct) : (s.awaitRest code d a).sxe = s.sxe := by
  obtain ⟨_, h⟩ := s.awaitRest_only code d a; rw [h]
@[simp] theorem State.awaitRest_vlvs (s : State) (code : Nat) (d : Desc) (a : BoundaryAct) : (s.awaitRest code d a).vlvs = s.vlvs := by
  obtain ⟨_, h⟩ := s.awaitRest_only code d a; rw [h]
@[simp] theorem State.awaitRest_vlvPeak (s : State) (code : Nat) (d : Desc) (a : BoundaryAct) : (s.awaitRest code d a).vlvPeak = s.vlvPeak := by
  obtain ⟨_, h⟩ := s.awaitRest_only code d a; rw [h]
@[simp] theorem State.awaitRest_rpl (s : State) (code : Nat) (d : Desc) (a : BoundaryAct) : (s.awaitRest code d a).rpl = s.rpl := by
  obtain ⟨_, h⟩ := s.awaitRest_only code d a; rw [h]
@[simp] theorem State.awaitRest_rplLast (s : State) (code : Nat) (d : Desc) (a : BoundaryAct) : (s.awaitRest code d a).rplLast = s.rplLast := by
  obtain ⟨_, h⟩ := s.awaitRest_only code d a; rw [h]
@[simp] theorem State.awaitRest_rails (s : State) (code : Nat) (d : Desc) (a : BoundaryAct) : (s.awaitRest code d a).rails = s.rails := by
  obtain ⟨_, h⟩ := s.awaitRest_only code d a; rw [h]
@[simp] theorem State.awaitRest_aon (s : State) (code : Nat) (d : Desc) (a : BoundaryAct) : (s.awaitRest code d a).aon = s.aon := by
  obtain ⟨_, h⟩ := s.awaitRest_only code d a; rw [h]
@[simp] theorem State.awaitRest_ppm (s : State) (code : Nat) (d : Desc) (a : BoundaryAct) : (s.awaitRest code d a).ppm = s.ppm := by
  obtain ⟨_, h⟩ := s.awaitRest_only code d a; rw [h]
@[simp] theorem State.awaitRest_dcl (s : State) (code : Nat) (d : Desc) (a : BoundaryAct) : (s.awaitRest code d a).dcl = s.dcl := by
  obtain ⟨_, h⟩ := s.awaitRest_only code d a; rw [h]
@[simp] theorem State.awaitRest_prec (s : State) (code : Nat) (d : Desc) (a : BoundaryAct) : (s.awaitRest code d a).prec = s.prec := by
  obtain ⟨_, h⟩ := s.awaitRest_only code d a; rw [h]
@[simp] theorem State.awaitRest_thm (s : State) (code : Nat) (d : Desc) (a : BoundaryAct) : (s.awaitRest code d a).thm = s.thm := by
  obtain ⟨_, h⟩ := s.awaitRest_only code d a; rw [h]
@[simp] theorem State.awaitRest_afe (s : State) (code : Nat) (d : Desc) (a : BoundaryAct) : (s.awaitRest code d a).afe = s.afe := by
  obtain ⟨_, h⟩ := s.awaitRest_only code d a; rw [h]
@[simp] theorem State.awaitRest_saf (s : State) (code : Nat) (d : Desc) (a : BoundaryAct) : (s.awaitRest code d a).saf = s.saf := by
  obtain ⟨_, h⟩ := s.awaitRest_only code d a; rw [h]
@[simp] theorem State.awaitRest_mbx (s : State) (code : Nat) (d : Desc) (a : BoundaryAct) : (s.awaitRest code d a).mbx = s.mbx := by
  obtain ⟨_, h⟩ := s.awaitRest_only code d a; rw [h]
@[simp] theorem State.awaitRest_evr (s : State) (code : Nat) (d : Desc) (a : BoundaryAct) : (s.awaitRest code d a).evr = s.evr := by
  obtain ⟨_, h⟩ := s.awaitRest_only code d a; rw [h]
@[simp] theorem State.awaitRest_cans (s : State) (code : Nat) (d : Desc) (a : BoundaryAct) : (s.awaitRest code d a).cans = s.cans := by
  obtain ⟨_, h⟩ := s.awaitRest_only code d a; rw [h]
@[simp] theorem State.awaitRest_canTsHi (s : State) (code : Nat) (d : Desc) (a : BoundaryAct) : (s.awaitRest code d a).canTsHi = s.canTsHi := by
  obtain ⟨_, h⟩ := s.awaitRest_only code d a; rw [h]
@[simp] theorem State.awaitRest_mem (s : State) (code : Nat) (d : Desc) (a : BoundaryAct) : (s.awaitRest code d a).mem = s.mem := by
  obtain ⟨_, h⟩ := s.awaitRest_only code d a; rw [h]
@[simp] theorem State.awaitRest_secu (s : State) (code : Nat) (d : Desc) (a : BoundaryAct) : (s.awaitRest code d a).secu = s.secu := by
  obtain ⟨_, h⟩ := s.awaitRest_only code d a; rw [h]
@[simp] theorem State.awaitRest_readout (s : State) (code : Nat) (d : Desc) (a : BoundaryAct) : (s.awaitRest code d a).readout = s.readout := by
  obtain ⟨_, h⟩ := s.awaitRest_only code d a; rw [h]
@[simp] theorem State.awaitRest_free (s : State) (code : Nat) (d : Desc) (a : BoundaryAct) : (s.awaitRest code d a).free = s.free := by
  obtain ⟨_, h⟩ := s.awaitRest_only code d a; rw [h]
@[simp] theorem State.awaitRest_pending (s : State) (code : Nat) (d : Desc) (a : BoundaryAct) : (s.awaitRest code d a).pending = s.pending := by
  obtain ⟨_, h⟩ := s.awaitRest_only code d a; rw [h]

/-- A replacement advice changes its record, the router and HIF only (R551). -/
theorem State.advise_only (s : State) (cause obj : Nat) : ∃ v0 v1 v2 v3, s.advise cause obj = { s with rpl := v0, rplLast := v1, evr := v2, hif := v3 } := by
  unfold State.advise
  split
  · exact ⟨_, _, _, _, rfl⟩
  · obtain ⟨v, w, h⟩ := State.raise_only { s with rpl := _, rplLast := _ } 250 [cause, obj]
    exact ⟨_, _, v, w, h.trans rfl⟩

@[simp] theorem State.advise_now (s : State) (cause obj : Nat) : (s.advise cause obj).now = s.now := by
  obtain ⟨_, _, _, _, h⟩ := s.advise_only cause obj; rw [h]
@[simp] theorem State.advise_supply (s : State) (cause obj : Nat) : (s.advise cause obj).supply = s.supply := by
  obtain ⟨_, _, _, _, h⟩ := s.advise_only cause obj; rw [h]
@[simp] theorem State.advise_regs (s : State) (cause obj : Nat) : (s.advise cause obj).regs = s.regs := by
  obtain ⟨_, _, _, _, h⟩ := s.advise_only cause obj; rw [h]
@[simp] theorem State.advise_lock (s : State) (cause obj : Nat) : (s.advise cause obj).lock = s.lock := by
  obtain ⟨_, _, _, _, h⟩ := s.advise_only cause obj; rw [h]
@[simp] theorem State.advise_gaf (s : State) (cause obj : Nat) : (s.advise cause obj).gaf = s.gaf := by
  obtain ⟨_, _, _, _, h⟩ := s.advise_only cause obj; rw [h]
@[simp] theorem State.advise_tbu (s : State) (cause obj : Nat) : (s.advise cause obj).tbu = s.tbu := by
  obtain ⟨_, _, _, _, h⟩ := s.advise_only cause obj; rw [h]
@[simp] theorem State.advise_mod (s : State) (cause obj : Nat) : (s.advise cause obj).mod = s.mod := by
  obtain ⟨_, _, _, _, h⟩ := s.advise_only cause obj; rw [h]
@[simp] theorem State.advise_trm (s : State) (cause obj : Nat) : (s.advise cause obj).trm = s.trm := by
  obtain ⟨_, _, _, _, h⟩ := s.advise_only cause obj; rw [h]
@[simp] theorem State.advise_gdv (s : State) (cause obj : Nat) : (s.advise cause obj).gdv = s.gdv := by
  obtain ⟨_, _, _, _, h⟩ := s.advise_only cause obj; rw [h]
@[simp] theorem State.advise_fb (s : State) (cause obj : Nat) : (s.advise cause obj).fb = s.fb := by
  obtain ⟨_, _, _, _, h⟩ := s.advise_only cause obj; rw [h]
@[simp] theorem State.advise_lpe (s : State) (cause obj : Nat) : (s.advise cause obj).lpe = s.lpe := by
  obtain ⟨_, _, _, _, h⟩ := s.advise_only cause obj; rw [h]
@[simp] theorem State.advise_cmus (s : State) (cause obj : Nat) : (s.advise cause obj).cmus = s.cmus := by
  obtain ⟨_, _, _, _, h⟩ := s.advise_only cause obj; rw [h]
@[simp] theorem State.advise_gbx (s : State) (cause obj : Nat) : (s.advise cause obj).gbx = s.gbx := by
  obtain ⟨_, _, _, _, h⟩ := s.advise_only cause obj; rw [h]
@[simp] theorem State.advise_sxe (s : State) (cause obj : Nat) : (s.advise cause obj).sxe = s.sxe := by
  obtain ⟨_, _, _, _, h⟩ := s.advise_only cause obj; rw [h]
@[simp] theorem State.advise_vlvs (s : State) (cause obj : Nat) : (s.advise cause obj).vlvs = s.vlvs := by
  obtain ⟨_, _, _, _, h⟩ := s.advise_only cause obj; rw [h]
@[simp] theorem State.advise_vlvPeak (s : State) (cause obj : Nat) : (s.advise cause obj).vlvPeak = s.vlvPeak := by
  obtain ⟨_, _, _, _, h⟩ := s.advise_only cause obj; rw [h]
@[simp] theorem State.advise_rails (s : State) (cause obj : Nat) : (s.advise cause obj).rails = s.rails := by
  obtain ⟨_, _, _, _, h⟩ := s.advise_only cause obj; rw [h]
@[simp] theorem State.advise_aon (s : State) (cause obj : Nat) : (s.advise cause obj).aon = s.aon := by
  obtain ⟨_, _, _, _, h⟩ := s.advise_only cause obj; rw [h]
@[simp] theorem State.advise_ppm (s : State) (cause obj : Nat) : (s.advise cause obj).ppm = s.ppm := by
  obtain ⟨_, _, _, _, h⟩ := s.advise_only cause obj; rw [h]
@[simp] theorem State.advise_dcl (s : State) (cause obj : Nat) : (s.advise cause obj).dcl = s.dcl := by
  obtain ⟨_, _, _, _, h⟩ := s.advise_only cause obj; rw [h]
@[simp] theorem State.advise_prec (s : State) (cause obj : Nat) : (s.advise cause obj).prec = s.prec := by
  obtain ⟨_, _, _, _, h⟩ := s.advise_only cause obj; rw [h]
@[simp] theorem State.advise_thm (s : State) (cause obj : Nat) : (s.advise cause obj).thm = s.thm := by
  obtain ⟨_, _, _, _, h⟩ := s.advise_only cause obj; rw [h]
@[simp] theorem State.advise_afe (s : State) (cause obj : Nat) : (s.advise cause obj).afe = s.afe := by
  obtain ⟨_, _, _, _, h⟩ := s.advise_only cause obj; rw [h]
@[simp] theorem State.advise_saf (s : State) (cause obj : Nat) : (s.advise cause obj).saf = s.saf := by
  obtain ⟨_, _, _, _, h⟩ := s.advise_only cause obj; rw [h]
@[simp] theorem State.advise_mbx (s : State) (cause obj : Nat) : (s.advise cause obj).mbx = s.mbx := by
  obtain ⟨_, _, _, _, h⟩ := s.advise_only cause obj; rw [h]
@[simp] theorem State.advise_cans (s : State) (cause obj : Nat) : (s.advise cause obj).cans = s.cans := by
  obtain ⟨_, _, _, _, h⟩ := s.advise_only cause obj; rw [h]
@[simp] theorem State.advise_canTsHi (s : State) (cause obj : Nat) : (s.advise cause obj).canTsHi = s.canTsHi := by
  obtain ⟨_, _, _, _, h⟩ := s.advise_only cause obj; rw [h]
@[simp] theorem State.advise_mem (s : State) (cause obj : Nat) : (s.advise cause obj).mem = s.mem := by
  obtain ⟨_, _, _, _, h⟩ := s.advise_only cause obj; rw [h]
@[simp] theorem State.advise_secu (s : State) (cause obj : Nat) : (s.advise cause obj).secu = s.secu := by
  obtain ⟨_, _, _, _, h⟩ := s.advise_only cause obj; rw [h]
@[simp] theorem State.advise_readout (s : State) (cause obj : Nat) : (s.advise cause obj).readout = s.readout := by
  obtain ⟨_, _, _, _, h⟩ := s.advise_only cause obj; rw [h]
@[simp] theorem State.advise_free (s : State) (cause obj : Nat) : (s.advise cause obj).free = s.free := by
  obtain ⟨_, _, _, _, h⟩ := s.advise_only cause obj; rw [h]
@[simp] theorem State.advise_pending (s : State) (cause obj : Nat) : (s.advise cause obj).pending = s.pending := by
  obtain ⟨_, _, _, _, h⟩ := s.advise_only cause obj; rw [h]

/-- A field that lies within the first part of a buffer. -/
theorem field_append_left (a b : List Nat) (o k : Nat) (h : o + k ≤ a.length) : field (a ++ b) o k = field a o k := by
  simp only [field]
  rw [List.drop_append_of_le_length (by omega), List.take_append_of_le_length (by simp; omega)]

end Sys2Proof.Machine
end

