-- ==== Sys2Proof/Laws/Exec.lean ====
section
/-! SUPPORT. Running a command: what each way of running answers, how a ring command meets HIF, and the sparse
tables' read after write. -/

namespace Sys2Proof.Machine

/-! ### Sparse tables -/

@[simp] theorem getD_put_same {α : Type} (t : Tab α) (k : Nat) (v d : α) : getD (put t k v) k d = v := by
  induction t with
  | nil => simp [put, getD]
  | cons x r ih =>
    obtain ⟨i, a⟩ := x
    unfold put
    split
    · simp [getD]
    · split
      · simp [getD]
      · simp only [getD, if_neg ‹¬k = i›, ih]

theorem getD_put_ne {α : Type} (t : Tab α) (k j : Nat) (v d : α) (h : j ≠ k) : getD (put t k v) j d = getD t j d := by
  induction t with
  | nil => simp [put, getD, h]
  | cons x r ih =>
    obtain ⟨i, a⟩ := x
    unfold put
    split
    · simp [getD, h]
    · split
      · subst_vars; simp [getD, h]
      · simp only [getD, ih]

/-- Reading a written table: the written record at its own index, the old ones elsewhere. -/
theorem getD_put {α : Type} (t : Tab α) (k j : Nat) (v d : α) :
    getD (put t k v) j d = if j = k then v else getD t j d := by
  split
  · subst_vars; simp
  · exact getD_put_ne t k j v d ‹_›

@[simp] theorem State.setRing_ring (s : State) (r : Nat) (v : Ring) : (s.setRing r v).ring r = v := by
  simp [State.ring, State.setRing]

theorem State.setRing_ring_ne (s : State) (r q : Nat) (v : Ring) (h : q ≠ r) : (s.setRing r v).ring q = s.ring q := by
  simp [State.ring, State.setRing, getD_put_ne, h]

/-! ### Folds -/

/-- What every step of a fold keeps, the fold keeps. -/
theorem foldl_keeps {α β γ : Type} (π : β → γ) (f : β → α → β) (h : ∀ b a, π (f b a) = π b) (l : List α) (b : β) :
    π (l.foldl f b) = π b := by
  induction l generalizing b with
  | nil => rfl
  | cons a r ih => simp only [List.foldl_cons, ih, h]

/-! ### Ways of running -/

theorem State.advance_eq (s : State) (t : Nat) : s.advance t = { s with now := max s.now t } := rfl

theorem run_ok {t : Nat} {s : State} (h : s.supply.ok = true) (k : State → State) :
    run t s k = .next ((k (s.advance t)).keeping (s.advance t)) := by simp [run, h]

theorem runCfg_ok {t : Nat} {s : State} (h : s.supply.ok = true) (k : State → State) :
    runCfg t s k = .next ((k (s.advance t)).queueing (s.advance t)) := by simp [runCfg, h]

theorem runIf_yes {t : Nat} {s : State} (h : s.supply.ok = true) {c : State → Bool} (hc : c (s.advance t) = true)
    (k : State → State) : runIf t s c k = .next ((k (s.advance t)).keeping (s.advance t)) := by simp [runIf, run, h, hc]

/-- When its condition does not hold a command lets time pass, no more. -/
theorem runIf_no {t : Nat} {s : State} (h : s.supply.ok = true) {c : State → Bool} (hc : c (s.advance t) = false)
    (k : State → State) : runIf t s c k = .next (s.advance t) := by
  simp only [runIf, run, h, hc, if_true]
  rfl

/-! ### Ring commands -/

theorem State.enter_flights (s : State) (code : Nat) (d : Desc) :
    ∃ f, s.enter code d = { s with hif := { s.hif with flights := f } } := by
  unfold State.enter
  split
  · exact ⟨s.hif.flights, rfl⟩
  · exact ⟨_, rfl⟩

/-- Receiving a ring command changes the time and HIF's entries only. -/
theorem State.received_eq (s : State) (code : Nat) (d : Desc) :
    s.received code d = { s with now := max s.now d.t
                                 hif := { s.hif with flights := (s.received code d).hif.flights } } := by
  obtain ⟨f, h⟩ := (s.advance d.t).enter_flights code d
  unfold State.received
  rw [h]
  rfl

/-- The same with the entries named. -/
theorem State.received_form (s : State) (code : Nat) (d : Desc) :
    ∃ f, s.received code d = { s with now := max s.now d.t, hif := { s.hif with flights := f } }
      ∧ (s.received code d).hif.flights = f :=
  ⟨_, s.received_eq code d, rfl⟩

@[simp] theorem State.received_now (s : State) (code : Nat) (d : Desc) : (s.received code d).now = max s.now d.t := by
  rw [s.received_eq]
@[simp] theorem State.received_supply (s : State) (code : Nat) (d : Desc) : (s.received code d).supply = s.supply := by
  rw [s.received_eq]
@[simp] theorem State.received_regs (s : State) (code : Nat) (d : Desc) : (s.received code d).regs = s.regs := by
  rw [s.received_eq]
@[simp] theorem State.received_lock (s : State) (code : Nat) (d : Desc) : (s.received code d).lock = s.lock := by
  rw [s.received_eq]
@[simp] theorem State.received_gaf (s : State) (code : Nat) (d : Desc) : (s.received code d).gaf = s.gaf := by
  rw [s.received_eq]
@[simp] theorem State.received_tbu (s : State) (code : Nat) (d : Desc) : (s.received code d).tbu = s.tbu := by
  rw [s.received_eq]
@[simp] theorem State.received_mod (s : State) (code : Nat) (d : Desc) : (s.received code d).mod = s.mod := by
  rw [s.received_eq]
@[simp] theorem State.received_trm (s : State) (code : Nat) (d : Desc) : (s.received code d).trm = s.trm := by
  rw [s.received_eq]
@[simp] theorem State.received_gdv (s : State) (code : Nat) (d : Desc) : (s.received code d).gdv = s.gdv := by
  rw [s.received_eq]
@[simp] theorem State.received_fb (s : State) (code : Nat) (d : Desc) : (s.received code d).fb = s.fb := by
  rw [s.received_eq]
@[simp] theorem State.received_lpe (s : State) (code : Nat) (d : Desc) : (s.received code d).lpe = s.lpe := by
  rw [s.received_eq]
@[simp] theorem State.received_cmus (s : State) (code : Nat) (d : Desc) : (s.received code d).cmus = s.cmus := by
  rw [s.received_eq]
@[simp] theorem State.received_gbx (s : State) (code : Nat) (d : Desc) : (s.received code d).gbx = s.gbx := by
  rw [s.received_eq]
@[simp] theorem State.received_sxe (s : State) (code : Nat) (d : Desc) : (s.received code d).sxe = s.sxe := by
  rw [s.received_eq]
@[simp] theorem State.received_vlvs (s : State) (code : Nat) (d : Desc) : (s.received code d).vlvs = s.vlvs := by
  rw [s.received_eq]
@[simp] theorem State.received_vlvPeak (s : State) (code : Nat) (d : Desc) : (s.received code d).vlvPeak = s.vlvPeak := by
  rw [s.received_eq]
@[simp] theorem State.received_rpl (s : State) (code : Nat) (d : Desc) : (s.received code d).rpl = s.rpl := by
  rw [s.received_eq]
@[simp] theorem State.received_rplLast (s : State) (code : Nat) (d : Desc) : (s.received code d).rplLast = s.rplLast := by
  rw [s.received_eq]
@[simp] theorem State.received_rails (s : State) (code : Nat) (d : Desc) : (s.received code d).rails = s.rails := by
  rw [s.received_eq]
@[simp] theorem State.received_aon (s : State) (code : Nat) (d : Desc) : (s.received code d).aon = s.aon := by
  rw [s.received_eq]
@[simp] theorem State.received_ppm (s : State) (code : Nat) (d : Desc) : (s.received code d).ppm = s.ppm := by
  rw [s.received_eq]
@[simp] theorem State.received_dcl (s : State) (code : Nat) (d : Desc) : (s.received code d).dcl = s.dcl := by
  rw [s.received_eq]
@[simp] theorem State.received_prec (s : State) (code : Nat) (d : Desc) : (s.received code d).prec = s.prec := by
  rw [s.received_eq]
@[simp] theorem State.received_thm (s : State) (code : Nat) (d : Desc) : (s.received code d).thm = s.thm := by
  rw [s.received_eq]
@[simp] theorem State.received_afe (s : State) (code : Nat) (d : Desc) : (s.received code d).afe = s.afe := by
  rw [s.received_eq]
@[simp] theorem State.received_saf (s : State) (code : Nat) (d : Desc) : (s.received code d).saf = s.saf := by
  rw [s.received_eq]
@[simp] theorem State.received_mbx (s : State) (code : Nat) (d : Desc) : (s.received code d).mbx = s.mbx := by
  rw [s.received_eq]
@[simp] theorem State.received_evr (s : State) (code : Nat) (d : Desc) : (s.received code d).evr = s.evr := by
  rw [s.received_eq]
@[simp] theorem State.received_cans (s : State) (code : Nat) (d : Desc) : (s.received code d).cans = s.cans := by
  rw [s.received_eq]
@[simp] theorem State.received_canTsHi (s : State) (code : Nat) (d : Desc) : (s.received code d).canTsHi = s.canTsHi := by
  rw [s.received_eq]
@[simp] theorem State.received_mem (s : State) (code : Nat) (d : Desc) : (s.received code d).mem = s.mem := by
  rw [s.received_eq]
@[simp] theorem State.received_secu (s : State) (code : Nat) (d : Desc) : (s.received code d).secu = s.secu := by
  rw [s.received_eq]
@[simp] theorem State.received_readout (s : State) (code : Nat) (d : Desc) : (s.received code d).readout = s.readout := by
  rw [s.received_eq]
@[simp] theorem State.received_free (s : State) (code : Nat) (d : Desc) : (s.received code d).free = s.free := by
  rw [s.received_eq]
@[simp] theorem State.received_pending (s : State) (code : Nat) (d : Desc) : (s.received code d).pending = s.pending := by
  rw [s.received_eq]
@[simp] theorem State.received_hif_sqBase (s : State) (code : Nat) (d : Desc) : (s.received code d).hif.sqBase = s.hif.sqBase := by
  rw [s.received_eq]
@[simp] theorem State.received_hif_cqBase (s : State) (code : Nat) (d : Desc) : (s.received code d).hif.cqBase = s.hif.cqBase := by
  rw [s.received_eq]
@[simp] theorem State.received_hif_admEn (s : State) (code : Nat) (d : Desc) : (s.received code d).hif.admEn = s.hif.admEn := by
  rw [s.received_eq]
@[simp] theorem State.received_hif_admRdy (s : State) (code : Nat) (d : Desc) : (s.received code d).hif.admRdy = s.hif.admRdy := by
  rw [s.received_eq]
@[simp] theorem State.received_hif_admErr (s : State) (code : Nat) (d : Desc) : (s.received code d).hif.admErr = s.hif.admErr := by
  rw [s.received_eq]
@[simp] theorem State.received_hif_sqLg (s : State) (code : Nat) (d : Desc) : (s.received code d).hif.sqLg = s.hif.sqLg := by
  rw [s.received_eq]
@[simp] theorem State.received_hif_cqLg (s : State) (code : Nat) (d : Desc) : (s.received code d).hif.cqLg = s.hif.cqLg := by
  rw [s.received_eq]
@[simp] theorem State.received_hif_admVec (s : State) (code : Nat) (d : Desc) : (s.received code d).hif.admVec = s.hif.admVec := by
  rw [s.received_eq]
@[simp] theorem State.received_hif_link (s : State) (code : Nat) (d : Desc) : (s.received code d).hif.link = s.hif.link := by
  rw [s.received_eq]
@[simp] theorem State.received_hif_rings (s : State) (code : Nat) (d : Desc) : (s.received code d).hif.rings = s.hif.rings := by
  rw [s.received_eq]
@[simp] theorem State.received_hif_pend (s : State) (code : Nat) (d : Desc) : (s.received code d).hif.pend = s.hif.pend := by
  rw [s.received_eq]
@[simp] theorem State.received_hif_lastNormal (s : State) (code : Nat) (d : Desc) : (s.received code d).hif.lastNormal = s.hif.lastNormal := by
  rw [s.received_eq]
@[simp] theorem State.received_hif_lastUrgent (s : State) (code : Nat) (d : Desc) : (s.received code d).hif.lastUrgent = s.hif.lastUrgent := by
  rw [s.received_eq]
@[simp] theorem State.received_hif_lastFetch (s : State) (code : Nat) (d : Desc) : (s.received code d).hif.lastFetch = s.hif.lastFetch := by
  rw [s.received_eq]
@[simp] theorem State.received_hif_unmasked (s : State) (code : Nat) (d : Desc) : (s.received code d).hif.unmasked = s.hif.unmasked := by
  rw [s.received_eq]
@[simp] theorem State.received_hif_pendingVec (s : State) (code : Nat) (d : Desc) : (s.received code d).hif.pendingVec = s.hif.pendingVec := by
  rw [s.received_eq]
@[simp] theorem State.received_hif_sent (s : State) (code : Nat) (d : Desc) : (s.received code d).hif.sent = s.hif.sent := by
  rw [s.received_eq]
@[simp] theorem State.received_hif_takes (s : State) (code : Nat) (d : Desc) : (s.received code d).hif.takes = s.hif.takes := by
  rw [s.received_eq]
@[simp] theorem State.received_hif_dlyNext (s : State) (code : Nat) (d : Desc) : (s.received code d).hif.dlyNext = s.hif.dlyNext := by
  rw [s.received_eq]
@[simp] theorem State.received_hif_dlyOn (s : State) (code : Nat) (d : Desc) : (s.received code d).hif.dlyOn = s.hif.dlyOn := by
  rw [s.received_eq]
@[simp] theorem State.received_hif_canDrop (s : State) (code : Nat) (d : Desc) : (s.received code d).hif.canDrop = s.hif.canDrop := by
  rw [s.received_eq]
@[simp] theorem State.received_hif_dlyEcc (s : State) (code : Nat) (d : Desc) : (s.received code d).hif.dlyEcc = s.hif.dlyEcc := by
  rw [s.received_eq]
@[simp] theorem State.received_hif_dlyEvents (s : State) (code : Nat) (d : Desc) : (s.received code d).hif.dlyEvents = s.hif.dlyEvents := by
  rw [s.received_eq]
@[simp] theorem State.received_ring (s : State) (code : Nat) (d : Desc) (q : Nat) :
    (s.received code d).ring q = s.ring q := by simp [State.ring]
@[simp] theorem State.received_reg (s : State) (code : Nat) (d : Desc) (k : Nat) :
    (s.received code d).reg k = s.reg k := by simp [State.reg]
@[simp] theorem State.received_up (s : State) (code : Nat) (d : Desc) (x : Nat) :
    (s.received code d).up x = s.up x := by simp [State.up, State.domSt]
@[simp] theorem State.advance_ring (s : State) (t q : Nat) : (s.advance t).ring q = s.ring q := rfl
@[simp] theorem State.advance_reg (s : State) (t k : Nat) : (s.advance t).reg k = s.reg k := rfl
@[simp] theorem State.advance_fld (s : State) (t k a b : Nat) : (s.advance t).fld k a b = s.fld k a b := rfl
@[simp] theorem State.advance_rb (s : State) (t k a : Nat) : (s.advance t).rb k a = s.rb k a := rfl
@[simp] theorem State.advance_up (s : State) (t x : Nat) : (s.advance t).up x = s.up x := rfl
@[simp] theorem State.received_fld (s : State) (code : Nat) (d : Desc) (k a b : Nat) :
    (s.received code d).fld k a b = s.fld k a b := by simp [State.fld]
@[simp] theorem State.received_rb (s : State) (code : Nat) (d : Desc) (k a : Nat) :
    (s.received code d).rb k a = s.rb k a := by simp [State.rb]

theorem hostRun_accepts {code : Nat} {d : Desc} {s : State} (h : Accepts code d s) (k : State → State) :
    hostRun code d s k = .next ((k (s.received code d)).keeping (s.advance d.t)) := by
  obtain ⟨h0, h1, h2⟩ := h
  simp only [hostRun, run_ok h0]
  simp only [State.received] at h1
  simp [State.received, h1, h2]

/-! ### Completion: o is the meaning that c's arm calls -/

/-- A command that runs an effect completes with it. -/
theorem completes_run {c : Instr} (o : Out) {s : State} {P : State → Prop} {t : Nat} {k : State → State} (hx : exec c s = o) (ho : o = run t s k)
    (h : s.supply.ok = true) (hp : P ((k (s.advance t)).keeping (s.advance t))) : Completes c s P :=
  ⟨_, (hx.trans ho).trans (run_ok h k), hp⟩

theorem completes_runCfg {c : Instr} (o : Out) {s : State} {P : State → Prop} {t : Nat} {k : State → State}
    (hx : exec c s = o) (ho : o = runCfg t s k) (h : s.supply.ok = true) (hp : P ((k (s.advance t)).queueing (s.advance t))) :
    Completes c s P :=
  ⟨_, (hx.trans ho).trans (runCfg_ok h k), hp⟩

/-- A command whose condition holds completes with its effect. -/
theorem completes_if {c : Instr} (o : Out) {s : State} {P : State → Prop} {t : Nat} {b : State → Bool} {k : State → State}
    (hx : exec c s = o) (ho : o = runIf t s b k) (h : s.supply.ok = true) (hb : b (s.advance t) = true)
    (hp : P ((k (s.advance t)).keeping (s.advance t))) : Completes c s P :=
  ⟨_, (hx.trans ho).trans (runIf_yes h hb k), hp⟩

/-- A ring command that its owner gets completes with the owner's effect. -/
theorem completes_host {c : Instr} (o : Out) {s : State} {P : State → Prop} {code : Nat} {d : Desc} {k : State → State}
    (hx : exec c s = o) (ho : o = hostRun code d s k) (h : Accepts code d s)
    (hp : P ((k (s.received code d)).keeping (s.advance d.t))) : Completes c s P :=
  ⟨_, (hx.trans ho).trans (hostRun_accepts h k), hp⟩

end Sys2Proof.Machine
end

