-- ==== Sys2Proof/Laws/PerInstr.lean ====
section
/-! SUPPORT. Per command: the descriptor of a well-formed host command fits its fields (Table 19.3). -/

namespace Sys2Proof.Laws.HostDesc

/-- A well-formed host command has a ring, an identifier and a target that fit their fields. -/
def Statement (i : Instr) : Prop :=
  ∀ code d, i.host? = some (code, d) → i.wf = true → d.sq < 32 ∧ d.cmdId < 4294967296 ∧ d.target < 65536 ∧ d.count < 65536

/-- The fields of a descriptor that fits. -/
theorem desc_fits (d : Desc) (h : d.wf = true) : d.sq < 32 ∧ d.cmdId < 4294967296 ∧ d.target < 65536 ∧ d.count < 65536 := by
  simp only [Desc.wf, Bool.and_eq_true, decide_eq_true_eq] at h; omega

/-- Of a command whose host? is its descriptor. -/
theorem of_desc (i : Instr) (c0 : Nat) (d0 : Desc) (hh : i.host? = some (c0, d0)) (hw : i.wf = d0.wf) : Statement i := by
  intro code d h w
  rw [hh] at h
  cases h
  exact desc_fits d0 (hw ▸ w)

/-- Of a command without a descriptor. -/
theorem of_none (i : Instr) (hh : i.host? = none) : Statement i := by
  intro code d h
  rw [hh] at h
  cases h

theorem nop (d : Desc) : Statement (.nop d) := of_desc _ _ d rfl rfl
theorem ringCreate (d : Desc) : Statement (.ringCreate d) := of_desc _ _ d rfl rfl
theorem ringDelete (d : Desc) : Statement (.ringDelete d) := of_desc _ _ d rfl rfl
theorem takeStart (d : Desc) : Statement (.takeStart d) := of_desc _ _ d rfl rfl
theorem takeSuspend (d : Desc) : Statement (.takeSuspend d) := of_desc _ _ d rfl rfl
theorem takeResume (d : Desc) : Statement (.takeResume d) := of_desc _ _ d rfl rfl
theorem takeCancel (d : Desc) : Statement (.takeCancel d) := of_desc _ _ d rfl rfl
theorem grpEnable (d : Desc) : Statement (.grpEnable d) := of_desc _ _ d rfl rfl
theorem grpDisable (d : Desc) : Statement (.grpDisable d) := of_desc _ _ d rfl rfl
theorem grpRun (d : Desc) : Statement (.grpRun d) := of_desc _ _ d rfl rfl
theorem tripClear (d : Desc) : Statement (.tripClear d) := of_desc _ _ d rfl rfl
theorem legEnable (d : Desc) : Statement (.legEnable d) := of_desc _ _ d rfl rfl
theorem legDisable (d : Desc) : Statement (.legDisable d) := of_desc _ _ d rfl rfl
theorem legSetCmp (d : Desc) : Statement (.legSetCmp d) := of_desc _ _ d rfl rfl
theorem valveEnable (d : Desc) : Statement (.valveEnable d) := of_desc _ _ d rfl rfl
theorem valveDisable (d : Desc) : Statement (.valveDisable d) := of_desc _ _ d rfl rfl
theorem valveSet (d : Desc) : Statement (.valveSet d) := of_desc _ _ d rfl rfl
theorem valvePeriod (d : Desc) : Statement (.valvePeriod d) := of_desc _ _ d rfl rfl
theorem fbEnable (d : Desc) : Statement (.fbEnable d) := of_desc _ _ d rfl rfl
theorem fbDisable (d : Desc) : Statement (.fbDisable d) := of_desc _ _ d rfl rfl
theorem cmpSet (d : Desc) : Statement (.cmpSet d) := of_desc _ _ d rfl rfl
theorem ctxStart (d : Desc) : Statement (.ctxStart d) := of_desc _ _ d rfl rfl
theorem ctxStop (d : Desc) : Statement (.ctxStop d) := of_desc _ _ d rfl rfl
theorem setTarget (d : Desc) : Statement (.setTarget d) := of_desc _ _ d rfl rfl
theorem pgnLimits (d : Desc) : Statement (.pgnLimits d) := of_desc _ _ d rfl rfl
theorem cmuStart (d : Desc) : Statement (.cmuStart d) := of_desc _ _ d rfl rfl
theorem cmuStop (d : Desc) : Statement (.cmuStop d) := of_desc _ _ d rfl rfl
theorem cmuSet (d : Desc) : Statement (.cmuSet d) := of_desc _ _ d rfl rfl
theorem gearRef (d : Desc) : Statement (.gearRef d) := of_desc _ _ d rfl rfl
theorem gearShift (d : Desc) : Statement (.gearShift d) := of_desc _ _ d rfl rfl
theorem gearStop (d : Desc) : Statement (.gearStop d) := of_desc _ _ d rfl rfl
theorem parkSet (d : Desc) : Statement (.parkSet d) := of_desc _ _ d rfl rfl
theorem ptoSet (d : Desc) : Statement (.ptoSet d) := of_desc _ _ d rfl rfl
theorem secBase (d : Desc) : Statement (.secBase d) := of_desc _ _ d rfl rfl
theorem secGate (d : Desc) : Statement (.secGate d) := of_desc _ _ d rfl rfl
theorem cueAppend (d : Desc) : Statement (.cueAppend d) := of_desc _ _ d rfl rfl
theorem cueFlush (d : Desc) : Statement (.cueFlush d) := of_desc _ _ d rfl rfl
theorem vlvSet (d : Desc) : Statement (.vlvSet d) := of_desc _ _ d rfl rfl
theorem railStart (d : Desc) : Statement (.railStart d) := of_desc _ _ d rfl rfl
theorem railStop (d : Desc) : Statement (.railStop d) := of_desc _ _ d rfl rfl
theorem railSet (d : Desc) : Statement (.railSet d) := of_desc _ _ d rfl rfl
theorem railRetire (d : Desc) : Statement (.railRetire d) := of_desc _ _ d rfl rfl
theorem pathSet (d : Desc) : Statement (.pathSet d) := of_desc _ _ d rfl rfl
theorem chgStart (d : Desc) : Statement (.chgStart d) := of_desc _ _ d rfl rfl
theorem chgStop (d : Desc) : Statement (.chgStop d) := of_desc _ _ d rfl rfl
theorem rsupStart (d : Desc) : Statement (.rsupStart d) := of_desc _ _ d rfl rfl
theorem rsupStop (d : Desc) : Statement (.rsupStop d) := of_desc _ _ d rfl rfl
theorem dclLimit (d : Desc) : Statement (.dclLimit d) := of_desc _ _ d rfl rfl
theorem dclClear (d : Desc) : Statement (.dclClear d) := of_desc _ _ d rfl rfl
theorem safeCfgLoad (d : Desc) : Statement (.safeCfgLoad d) := of_desc _ _ d rfl rfl
theorem safeCfgConfirm (d : Desc) : Statement (.safeCfgConfirm d) := of_desc _ _ d rfl rfl
theorem mbxPost (d : Desc) : Statement (.mbxPost d) := of_desc _ _ d rfl rfl
theorem mbxAck (d : Desc) : Statement (.mbxAck d) := of_desc _ _ d rfl rfl
theorem canTxArm (d : Desc) : Statement (.canTxArm d) := of_desc _ _ d rfl rfl
theorem canTxAbort (d : Desc) : Statement (.canTxAbort d) := of_desc _ _ d rfl rfl
theorem canRxRelease (d : Desc) : Statement (.canRxRelease d) := of_desc _ _ d rfl rfl
theorem canReinit (d : Desc) : Statement (.canReinit d) := of_desc _ _ d rfl rfl
theorem lifecycleSet (d : Desc) : Statement (.lifecycleSet d) := of_desc _ _ d rfl rfl
theorem domainReset (d : Desc) : Statement (.domainReset d) := of_desc _ _ d rfl rfl
theorem coreMode (d : Desc) : Statement (.coreMode d) := of_desc _ _ d rfl rfl
theorem coreModeChangeDone (t : Nat) : Statement (.coreModeChangeDone t) := of_none _ rfl
theorem registerWrite (t off val be : Nat) : Statement (.registerWrite t off val be) := of_none _ rfl
theorem readAndClear (t off : Nat) : Statement (.readAndClear t off) := of_none _ rfl
theorem timeLoRead (t : Nat) : Statement (.timeLoRead t) := of_none _ rfl
theorem tripTsLoRead (t g : Nat) : Statement (.tripTsLoRead t g) := of_none _ rfl
theorem edgeLoRead (t i : Nat) : Statement (.edgeLoRead t i) := of_none _ rfl
theorem capPosRead (t i : Nat) : Statement (.capPosRead t i) := of_none _ rfl
theorem odoDistRead (t : Nat) : Statement (.odoDistRead t) := of_none _ rfl
theorem causeTsLoRead (t : Nat) : Statement (.causeTsLoRead t) := of_none _ rfl
theorem lockTsLoRead (t : Nat) : Statement (.lockTsLoRead t) := of_none _ rfl
theorem objTsLoRead (t : Nat) : Statement (.objTsLoRead t) := of_none _ rfl
theorem cmpValWrite (t j val be : Nat) : Statement (.cmpValWrite t j val be) := of_none _ rfl
theorem clapperStart (t val be : Nat) : Statement (.clapperStart t val be) := of_none _ rfl
theorem imageLoadStart (t : Nat) : Statement (.imageLoadStart t) := of_none _ rfl
theorem imageLoadDone (t : Nat) (bytes : List Nat) (dmaErr : Bool) : Statement (.imageLoadDone t bytes dmaErr) := of_none _ rfl
theorem ownerKeyProgram (t : Nat) : Statement (.ownerKeyProgram t) := of_none _ rfl
theorem ownerKeyProgramDone (t : Nat) : Statement (.ownerKeyProgramDone t) := of_none _ rfl
theorem adminPairEnable (t val be : Nat) : Statement (.adminPairEnable t val be) := of_none _ rfl
theorem adminPairDisable (t val be : Nat) : Statement (.adminPairDisable t val be) := of_none _ rfl
theorem sqTailDoorbell (t j val : Nat) : Statement (.sqTailDoorbell t j val) := of_none _ rfl
theorem cqHeadDoorbell (t j val : Nat) : Statement (.cqHeadDoorbell t j val) := of_none _ rfl
theorem evqHeadDoorbell (t val : Nat) : Statement (.evqHeadDoorbell t val) := of_none _ rfl
theorem dlyHeadDoorbell (t val : Nat) : Statement (.dlyHeadDoorbell t val) := of_none _ rfl
theorem configLock (t val be : Nat) : Statement (.configLock t val be) := of_none _ rfl
theorem lockComplete (t : Nat) : Statement (.lockComplete t) := of_none _ rfl
theorem clapperBoundary (t : Nat) : Statement (.clapperBoundary t) := of_none _ rfl
theorem clapInEdge (t fine : Nat) : Statement (.clapInEdge t fine) := of_none _ rfl
theorem clapInMissed (t : Nat) : Statement (.clapInMissed t) := of_none _ rfl
theorem clapHoldoverExpired (t : Nat) : Statement (.clapHoldoverExpired t) := of_none _ rfl
theorem legCarrierStart (t n : Nat) (m : LegMeas) : Statement (.legCarrierStart t n m) := of_none _ rfl
theorem legCarrierCentre (t n : Nat) : Statement (.legCarrierCentre t n) := of_none _ rfl
theorem adcTrigger (t n k fine : Nat) : Statement (.adcTrigger t n k fine) := of_none _ rfl
theorem afeConversionDone (t i : Nat) (code : Int) : Statement (.afeConversionDone t i code) := of_none _ rfl
theorem afeScanConversion (t conv : Nat) (code : Int) : Statement (.afeScanConversion t conv code) := of_none _ rfl
theorem peakComparatorTrip (t n ofs : Nat) : Statement (.peakComparatorTrip t n ofs) := of_none _ rfl
theorem valveCarrierStart (t m : Nat) (i : VlvMeas) : Statement (.valveCarrierStart t m i) := of_none _ rfl
theorem tripSourceAssert (t fine : Nat) (src : TripAt) : Statement (.tripSourceAssert t fine src) := of_none _ rfl
theorem tripSourceRelease (t : Nat) (src : TripAt) : Statement (.tripSourceRelease t src) := of_none _ rfl
theorem cbcWindowExpired (t g : Nat) : Statement (.cbcWindowExpired t g) := of_none _ rfl
theorem recoveryDeadline (t g : Nat) : Statement (.recoveryDeadline t g) := of_none _ rfl
theorem gateOnCommand (t c : Nat) (otherLow : Option Nat) (both : Bool) : Statement (.gateOnCommand t c otherLow both) := of_none _ rfl
theorem gateArmed (t c : Nat) : Statement (.gateArmed t c) := of_none _ rfl
theorem desatDetect (t c : Nat) : Statement (.desatDetect t c) := of_none _ rfl
theorem desatRelease (t c low : Nat) : Statement (.desatRelease t c low) := of_none _ rfl
theorem uvloDetect (t c rail : Nat) : Statement (.uvloDetect t c rail) := of_none _ rfl
theorem uvloRelease (t c rail : Nat) : Statement (.uvloRelease t c rail) := of_none _ rfl
theorem diagSettleExpired (t : Nat) (vb : Unit) (v : List Nat) : Statement (.diagSettleExpired t vb v) := of_none _ rfl
theorem pfiInputEdge (t fine i : Nat) (a b z : Bool) : Statement (.pfiInputEdge t fine i a b z) := of_none _ rfl
theorem cmpPulseEnd (t j : Nat) : Statement (.cmpPulseEnd t j) := of_none _ rfl
theorem hallInvalid (t i : Nat) : Statement (.hallInvalid t i) := of_none _ rfl
theorem serialFrameDone (t i w crc fail : Nat) : Statement (.serialFrameDone t i w crc fail) := of_none _ rfl
theorem resolverCheck (t r amp err : Nat) (exc : ExcMeas) : Statement (.resolverCheck t r amp err exc) := of_none _ rfl
theorem resolverTrackUpdate (t r raw : Nat) (speed : Int) : Statement (.resolverTrackUpdate t r raw speed) := of_none _ rfl
theorem ctxRunRelease (t c : Nat) : Statement (.ctxRunRelease t c) := of_none _ rfl
theorem ctxRunComplete (t c busy : Nat) : Statement (.ctxRunComplete t c busy) := of_none _ rfl
theorem ctxOverrun (t c : Nat) : Statement (.ctxOverrun t c) := of_none _ rfl
theorem cmuListenEnd (t u : Nat) (w : TapMeas) : Statement (.cmuListenEnd t u w) := of_none _ rfl
theorem cmuBrakeEnd (t u : Nat) : Statement (.cmuBrakeEnd t u) := of_none _ rfl
theorem cmuPrechargeEnd (t u : Nat) : Statement (.cmuPrechargeEnd t u) := of_none _ rfl
theorem cmuAlignEnd (t u : Nat) : Statement (.cmuAlignEnd t u) := of_none _ rfl
theorem cmuHandOver (t u : Nat) (w : Int) : Statement (.cmuHandOver t u w) := of_none _ rfl
theorem cmuNoSync (t u : Nat) : Statement (.cmuNoSync t u) := of_none _ rfl
theorem cmuStall (t u : Nat) : Statement (.cmuStall t u) := of_none _ rfl
theorem cmuRetryEnd (t u : Nat) : Statement (.cmuRetryEnd t u) := of_none _ rfl
theorem cmuStoppingDone (t u : Nat) : Statement (.cmuStoppingDone t u) := of_none _ rfl
theorem gbxStep (t : Nat) : Statement (.gbxStep t) := of_none _ rfl
theorem gbxDetentReached (t k : Nat) : Statement (.gbxDetentReached t k) := of_none _ rfl
theorem gbxRampEnd (t : Nat) : Statement (.gbxRampEnd t) := of_none _ rfl
theorem gbxStageTimeout (t : Nat) : Statement (.gbxStageTimeout t) := of_none _ rfl
theorem sxeOverrun (t : Nat) : Statement (.sxeOverrun t) := of_none _ rfl
theorem rnRefresh (t j : Nat) : Statement (.rnRefresh t j) := of_none _ rfl
theorem sxeSyncFrame (t : Nat) : Statement (.sxeSyncFrame t) := of_none _ rfl
theorem vlvShort (t m : Nat) : Statement (.vlvShort t m) := of_none _ rfl
theorem vlvRetryEnd (t m : Nat) : Statement (.vlvRetryEnd t m) := of_none _ rfl
theorem vlvTotalOver (t sum : Nat) : Statement (.vlvTotalOver t sum) := of_none _ rfl
theorem railSoftstartEnd (t r : Nat) : Statement (.railSoftstartEnd t r) := of_none _ rfl
theorem railShortDetect (t r : Nat) : Statement (.railShortDetect t r) := of_none _ rfl
theorem railHiccupEnd (t r : Nat) : Statement (.railHiccupEnd t r) := of_none _ rfl
theorem railHiccupReset (t r : Nat) : Statement (.railHiccupReset t r) := of_none _ rfl
theorem railBurstEnter (t r : Nat) : Statement (.railBurstEnter t r) := of_none _ rfl
theorem railBurstPacketTimeout (t r : Nat) : Statement (.railBurstPacketTimeout t r) := of_none _ rfl
theorem phaseRetired (t r p : Nat) : Statement (.phaseRetired t r p) := of_none _ rfl
theorem railOutOfBand (t r : Nat) : Statement (.railOutOfBand t r) := of_none _ rfl
theorem railTransitionDone (t r : Nat) : Statement (.railTransitionDone t r) := of_none _ rfl
theorem railTransitionTimeout (t r : Nat) : Statement (.railTransitionTimeout t r) := of_none _ rfl
theorem vclCmdFrame (t r : Nat) (bytes : List Nat) (framing : Bool) : Statement (.vclCmdFrame t r bytes framing) := of_none _ rfl
theorem vclStatusSend (t r : Nat) : Statement (.vclStatusSend t r) := of_none _ rfl
theorem vclLinkLost (t r : Nat) : Statement (.vclLinkLost t r) := of_none _ rfl
theorem vclHoldExpired (t r : Nat) : Statement (.vclHoldExpired t r) := of_none _ rfl
theorem ppmStep (t : Nat) (m : PpmMeas) : Statement (.ppmStep t m) := of_none _ rfl
theorem contactorCheck (t k : Nat) (closed : Bool) : Statement (.contactorCheck t k closed) := of_none _ rfl
theorem prechargeFail (t : Nat) : Statement (.prechargeFail t) := of_none _ rfl
theorem handoverShed (t : Nat) : Statement (.handoverShed t) := of_none _ rfl
theorem dcChargeOpen (t : Nat) : Statement (.dcChargeOpen t) := of_none _ rfl
theorem plugState (t : Nat) (ac dc latch : Bool) : Statement (.plugState t ac dc latch) := of_none _ rfl
theorem sourceQualified (t kind : Nat) (f60 : Bool) : Statement (.sourceQualified t kind f60) := of_none _ rfl
theorem sourceLost (t cause : Nat) : Statement (.sourceLost t cause) := of_none _ rfl
theorem chgStartTimeout (t : Nat) : Statement (.chgStartTimeout t) := of_none _ rfl
theorem chgPauseExpired (t : Nat) : Statement (.chgPauseExpired t) := of_none _ rfl
theorem chgEocDwell (t : Nat) : Statement (.chgEocDwell t) := of_none _ rfl
theorem chgSafetyTimer (t : Nat) : Statement (.chgSafetyTimer t) := of_none _ rfl
theorem chgPlugAbsent (t : Nat) : Statement (.chgPlugAbsent t) := of_none _ rfl
theorem chgEndingDone (t : Nat) : Statement (.chgEndingDone t) := of_none _ rfl
theorem rsupOverload (t i : Nat) : Statement (.rsupOverload t i) := of_none _ rfl
theorem rsupLiveInlet (t : Nat) : Statement (.rsupLiveInlet t) := of_none _ rfl
theorem svcPressStart (t start : Nat) : Statement (.svcPressStart t start) := of_none _ rfl
theorem svcLongPress (t : Nat) : Statement (.svcLongPress t) := of_none _ rfl
theorem svcRelease (t : Nat) : Statement (.svcRelease t) := of_none _ rfl
theorem svcFullReset (t : Nat) (bad : List (Nat × Nat)) : Statement (.svcFullReset t bad) := of_none _ rfl
theorem storageEnter (t : Nat) : Statement (.storageEnter t) := of_none _ rfl
theorem storageWake (t : Nat) (cause : WakeCause) (bad : List (Nat × Nat)) : Statement (.storageWake t cause bad) := of_none _ rfl
theorem chopperFault (t : Nat) : Statement (.chopperFault t) := of_none _ rfl
theorem thmUpdate (t e : Nat) (m : ThmMeas) : Statement (.thmUpdate t e m) := of_none _ rfl
theorem thmSensorFault (t k : Nat) : Statement (.thmSensorFault t k) := of_none _ rfl
theorem thmSensorRecover (t k : Nat) : Statement (.thmSensorRecover t k) := of_none _ rfl
theorem safeInputLineChange (t ch i : Nat) (lineB level : Bool) : Statement (.safeInputLineChange t ch i lineB level) := of_none _ rfl
theorem safeInputDiscrepancy (t ch i : Nat) : Statement (.safeInputDiscrepancy t ch i) := of_none _ rfl
theorem testPulse (t k : Nat) (shlLow sfpLow : List Nat) : Statement (.testPulse t k shlLow sfpLow) := of_none _ rfl
theorem stoReqChange (t pin : Nat) (low : Bool) : Statement (.stoReqChange t pin low) := of_none _ rfl
theorem stoReqDisc (t pin : Nat) : Statement (.stoReqDisc t pin) := of_none _ rfl
theorem shlSupplyOpen (t k : Nat) : Statement (.shlSupplyOpen t k) := of_none _ rfl
theorem supplyReadback (t k : Nat) (ok : Bool) : Statement (.supplyReadback t k ok) := of_none _ rfl
theorem sfpCycle (t diag : Nat) : Statement (.sfpCycle t diag) := of_none _ rfl
theorem continuityTimeout (t ch : Nat) : Statement (.continuityTimeout t ch) := of_none _ rfl
theorem shlSs1Window (t g : Nat) : Statement (.shlSs1Window t g) := of_none _ rfl
theorem ss1Deadline (t ch g : Nat) : Statement (.ss1Deadline t ch g) := of_none _ rfl
theorem shlSelfTestDone (t : Nat) (ok : Bool) : Statement (.shlSelfTestDone t ok) := of_none _ rfl
theorem bslWatchdog (t c : Nat) : Statement (.bslWatchdog t c) := of_none _ rfl
theorem bslDataSend (t c : Nat) : Statement (.bslDataSend t c) := of_none _ rfl
theorem descriptorFetch (t sq op : Nat) (d : Desc) (readErr : Bool) : Statement (.descriptorFetch t sq op d readErr) := of_none _ rfl
theorem completionWrite (t sq : Nat) : Statement (.completionWrite t sq) := of_none _ rfl
theorem irqCoalesceTimeout (t r : Nat) : Statement (.irqCoalesceTimeout t r) := of_none _ rfl
theorem dailiesRecord (t : Nat) : Statement (.dailiesRecord t) := of_none _ rfl
theorem takeSuspendPoint (t h : Nat) : Statement (.takeSuspendPoint t h) := of_none _ rfl
theorem takeStepDone (t h : Nat) (bytes : List Nat) (ok : Bool) : Statement (.takeStepDone t h bytes ok) := of_none _ rfl
theorem takeEnd (t h : Nat) : Statement (.takeEnd t h) := of_none _ rfl
theorem takeTimeout (t h : Nat) : Statement (.takeTimeout t h) := of_none _ rfl
theorem functionLevelReset (t : Nat) : Statement (.functionLevelReset t) := of_none _ rfl
theorem linkDown (t : Nat) : Statement (.linkDown t) := of_none _ rfl
theorem linkUp (t width rate : Nat) : Statement (.linkUp t width rate) := of_none _ rfl
theorem mbxDeadline (t c : Nat) : Statement (.mbxDeadline t c) := of_none _ rfl
theorem mbxReceiverAck (t c : Nat) : Statement (.mbxReceiverAck t c) := of_none _ rfl
theorem mbxInternalPost (t c ptr tag : Nat) : Statement (.mbxInternalPost t c ptr tag) := of_none _ rfl
theorem canFrameReceived (t k : Nat) (f : CanFrame) : Statement (.canFrameReceived t k f) := of_none _ rfl
theorem canFrameSent (t k obj sof : Nat) : Statement (.canFrameSent t k obj sof) := of_none _ rfl
theorem canTxFailed (t k obj : Nat) (ackErr dom : Bool) : Statement (.canTxFailed t k obj ackErr dom) := of_none _ rfl
theorem canTxEligible (t k obj : Nat) : Statement (.canTxEligible t k obj) := of_none _ rfl
theorem canBusOffRecovery (t k : Nat) : Statement (.canBusOffRecovery t k) := of_none _ rfl
theorem canIntegrated (t k : Nat) : Statement (.canIntegrated t k) := of_none _ rfl
theorem canSelfCheckDone (t k : Nat) (ok : Bool) : Statement (.canSelfCheckDone t k ok) := of_none _ rfl
theorem rplStatusFrame (t : Nat) : Statement (.rplStatusFrame t) := of_none _ rfl
theorem memScrub (t m cw syms obj : Nat) : Statement (.memScrub t m cw syms obj) := of_none _ rfl
theorem memRetired (t m region : Nat) : Statement (.memRetired t m region) := of_none _ rfl
theorem debugAccess (t : Nat) (auth : List Nat) : Statement (.debugAccess t auth) := of_none _ rfl
theorem lifecycleCommit (t : Nat) (bad : List (Nat × Nat)) : Statement (.lifecycleCommit t bad) := of_none _ rfl
theorem powerOn (t : Nat) (bad : List (Nat × Nat)) : Statement (.powerOn t bad) := of_none _ rfl
theorem bootDone (t : Nat) : Statement (.bootDone t) := of_none _ rfl
theorem supplyLow (t v : Nat) : Statement (.supplyLow t v) := of_none _ rfl
theorem supplyBelow9v (t : Nat) : Statement (.supplyBelow9v t) := of_none _ rfl
theorem appWatchdog (t core : Nat) : Statement (.appWatchdog t core) := of_none _ rfl
theorem appWatchdogKick (t core : Nat) : Statement (.appWatchdogKick t core) := of_none _ rfl
theorem domainRunning (t d : Nat) : Statement (.domainRunning t d) := of_none _ rfl
theorem partitionStart (t p : Nat) : Statement (.partitionStart t p) := of_none _ rfl
theorem shlTapEdge (t i : Nat) : Statement (.shlTapEdge t i) := of_none _ rfl
theorem msixVectorUnmask (t v : Nat) : Statement (.msixVectorUnmask t v) := of_none _ rfl
theorem canRxError (t k inc : Nat) : Statement (.canRxError t k inc) := of_none _ rfl
theorem vioBankHeld (t x : Nat) : Statement (.vioBankHeld t x) := of_none _ rfl
theorem vioBankReleased (t x : Nat) : Statement (.vioBankReleased t x) := of_none _ rfl
theorem supplyRecovered (t : Nat) : Statement (.supplyRecovered t) := of_none _ rfl

end Sys2Proof.Laws.HostDesc
end

