-- ==== Sys2Proof/Laws/Raise.lean ====
section
/-! SUPPORT. Raising an event: what it does to the event counters, the rings and the rest of HIF (R459, R461, R473,
R504, R596). -/

namespace Sys2Proof.Machine

/-- From a to b a ring has at most been written to or signalled. -/
def RingTold (a b : Ring) : Prop :=
  b = { a with tail := b.tail, phase := b.phase, unsig := b.unsig, oldest := b.oldest, seq := b.seq, lost := b.lost }

theorem RingTold.refl (a : Ring) : RingTold a a := rfl

theorem RingTold.trans {a b c : Ring} (h : RingTold a b) (k : RingTold b c) : RingTold a c := by
  unfold RingTold at *; rw [k, h]

theorem HostTold.refl (s : State) : HostTold s s := rfl

theorem HostTold.trans {s t u : State} (h : HostTold s t) (k : HostTold t u) : HostTold s u := by
  unfold HostTold at *; rw [k, h]

theorem getD_clearUnsig (v r : Nat) (t : Tab Ring) : getD (clearUnsig v t) r {} =
    if 32 ≤ r ∧ (getD t r {}).vec = v then { getD t r {} with unsig := 0 } else getD t r {} := by
  unfold clearUnsig
  induction t with
  | nil => exact (ite_self _).symm
  | cons x t ih =>
    obtain ⟨i, a⟩ := x
    by_cases h : r = i
    · subst h
      by_cases h2 : 32 ≤ r ∧ a.vec = v
      · simp [getD, h2]
      · have : (decide (32 ≤ r) && a.vec == v) = false := by simpa using h2
        simp only [List.map_cons, this, getD, if_true, if_neg h2]
        simp
    · have e : ∀ z : Nat × Ring, z.1 = i → getD (z :: (List.map (fun x => if (decide (32 ≤ x.1) && x.2.vec == v) = true then
          (x.1, { x.2 with unsig := 0 }) else x) t)) r ({} : Ring) = getD (List.map (fun x =>
          if (decide (32 ≤ x.1) && x.2.vec == v) = true then (x.1, { x.2 with unsig := 0 }) else x) t) r {} := by
        intro z hz
        obtain ⟨j, b⟩ := z
        simp only at hz
        simp [getD, hz, h]
      simp only [List.map_cons]
      rw [e _ (by split <;> rfl)]
      simp only [getD, if_neg h]
      exact ih

theorem State.signal_ring (s : State) (v r : Nat) : RingTold (s.ring r) ((s.signal v).ring r)
    ∧ (r < 32 → (s.signal v).ring r = s.ring r)
    ∧ (s.signal v).ring r = { s.ring r with unsig := ((s.signal v).ring r).unsig } := by
  unfold State.signal
  split
  · simp only [State.ring, getD_clearUnsig]
    split
    · rename_i h; exact ⟨rfl, fun hr => absurd hr (by omega), rfl⟩
    · exact ⟨rfl, fun _ => rfl, rfl⟩
  · exact ⟨rfl, fun _ => rfl, rfl⟩

theorem State.signal_told (s : State) (v : Nat) : HostTold s (s.signal v) := by
  unfold State.signal
  split <;> rfl

theorem State.signalRing_told (s : State) (r : Nat) (b : Bool) : HostTold s (s.signalRing r b) := by
  unfold State.signalRing
  dsimp only
  split
  · exact s.signal_told _
  · rfl

theorem State.signalRing_ring (s : State) (q r : Nat) (b : Bool) : RingTold (s.ring r) ((s.signalRing q b).ring r)
    ∧ (r < 32 → (s.signalRing q b).ring r = s.ring r)
    ∧ (s.signalRing q b).ring r = { s.ring r with unsig := ((s.signalRing q b).ring r).unsig } := by
  unfold State.signalRing
  dsimp only
  split
  · exact s.signal_ring _ r
  · exact ⟨rfl, fun _ => rfl, rfl⟩

theorem State.evqWrite_told (s : State) (n : Nat) (p : List Nat) : HostTold s (s.evqWrite n p) := by
  unfold State.evqWrite
  dsimp only
  split
  · rfl
  · split
    · rfl
    · exact HostTold.trans (t := ((s.setRing evq _).send _)) rfl (State.signalRing_told _ _ _)

theorem State.evqWrite_ring (s : State) (n : Nat) (p : List Nat) (r : Nat) :
    RingTold (s.ring r) ((s.evqWrite n p).ring r)
    ∧ (r < 32 → (s.evqWrite n p).ring r = s.ring r)
    ∧ (r ≠ evq → (s.evqWrite n p).ring r = { s.ring r with unsig := ((s.evqWrite n p).ring r).unsig }) := by
  unfold State.evqWrite
  dsimp only
  split
  · exact ⟨rfl, fun _ => rfl, fun _ => rfl⟩
  · split
    · by_cases h : r = evq
      · subst h
        rw [State.setRing_ring]
        exact ⟨rfl, fun h => absurd h (by decide), fun h => absurd rfl h⟩
      · rw [State.setRing_ring_ne _ _ _ _ h]
        exact ⟨rfl, fun _ => rfl, fun _ => rfl⟩
    · have key : ∀ m : HostMsg, ∀ g : Ring, ∀ q, ((s.setRing evq g).send m).ring q = (s.setRing evq g).ring q :=
        fun _ _ _ => rfl
      by_cases h : r = evq
      · subst h
        refine ⟨RingTold.trans ?_ (State.signalRing_ring _ evq evq false).1, fun h => absurd h (by decide),
          fun h => absurd rfl h⟩
        rw [key, State.setRing_ring]
        unfold Ring.wrote
        rfl
      · have a := State.signalRing_ring ((s.setRing evq { (s.ring evq).wrote s.now with
            seq := ((s.ring evq).seq + 1) % 2 ^ 32, lost := 0 }).send (HostMsg.event (s.ring evq).tail (s.ring evq).phase
            (0 < (s.ring evq).lost) (s.ring evq).seq n s.now p)) evq r false
        rw [key, State.setRing_ring_ne _ _ _ _ h] at a
        exact ⟨a.1, a.2.1, fun _ => a.2.2⟩

/-- Raising an event changes HIF only by what it tells the host. -/
theorem State.raise_told (s : State) (n : Nat) (p : List Nat) : HostTold s (s.raise n p) := by
  unfold State.raise
  split
  · dsimp only
    split
    · exact HostTold.trans rfl (State.evqWrite_told _ _ _)
    · rfl
  · rfl

/-- The event counters and the log after an event. -/
theorem State.raise_evr (s : State) (n : Nat) (p : List Nat) :
    (s.raise n p).evr = if s.up dHost then s.evr.raised s.now n p else s.evr := by
  unfold State.raise
  split
  · dsimp only
    split
    · rw [State.evqWrite_evr]; rfl
    · rfl
  · rfl

/-- The rings after an event: only the EVQ is written to, and rings that share its vector are signalled. -/
theorem State.raise_ring (s : State) (n : Nat) (p : List Nat) (r : Nat) : RingTold (s.ring r) ((s.raise n p).ring r)
    ∧ (r < 32 → (s.raise n p).ring r = s.ring r)
    ∧ (r ≠ evq → (s.raise n p).ring r = { s.ring r with unsig := ((s.raise n p).ring r).unsig }) := by
  unfold State.raise
  split
  · dsimp only
    split
    · exact State.evqWrite_ring _ n p r
    · exact ⟨rfl, fun _ => rfl, fun _ => rfl⟩
  · exact ⟨rfl, fun _ => rfl, fun _ => rfl⟩

@[simp] theorem State.raise_flights (s : State) (n : Nat) (p : List Nat) :
    (s.raise n p).hif.flights = s.hif.flights := by have h := s.raise_told n p; unfold HostTold at h; rw [h]
@[simp] theorem State.raise_pend (s : State) (n : Nat) (p : List Nat) :
    (s.raise n p).hif.pend = s.hif.pend := by have h := s.raise_told n p; unfold HostTold at h; rw [h]
@[simp] theorem State.raise_takes (s : State) (n : Nat) (p : List Nat) :
    (s.raise n p).hif.takes = s.hif.takes := by have h := s.raise_told n p; unfold HostTold at h; rw [h]
@[simp] theorem State.raise_reg (s : State) (n : Nat) (p : List Nat) (k : Nat) : (s.raise n p).reg k = s.reg k := by
  simp [State.reg]
@[simp] theorem State.raise_up (s : State) (n : Nat) (p : List Nat) (d : Nat) : (s.raise n p).up d = s.up d := by
  simp [State.up, State.domSt]

end Sys2Proof.Machine
end

