-- ==== Sys2Proof/Tests/Slice0.lean ====
section
/-! SUPPORT. The model's own tests: ill-formed commands, the spec's worked examples, and for every obligation states and operands that
meet the hypotheses of its clauses. -/

namespace Sys2Proof.Tests

set_option Elab.async false

open Sys2Proof Sys2Proof.Machine

/-! ### States that the tests start from -/

/-- Every domain and partition runs, the link is up, the admin pair and the lock are set up, the clapper runs. -/
def live : State :=
  { State.reset with
    gaf := { State.reset.gaf with dom := (List.range 8).map (fun d => (d, .running)), bootDone := true, partUp := [0, 1, 2, 3, 4, 5] }
    lock := { locked := true, done := true, result := 1, tick := 500 }
    tbu := { State.reset.tbu with running := true, startTick := 1000, period := 20000, nextB := 21000 }
    hif := { State.reset.hif with link := true, admEn := true, admRdy := true
                                  rings := [(0, { st := .active, lg := 4, urgent := true }), (32, { st := .active, lg := 4 })] } }

/-- The same before the configuration lock. -/
def open' : State := { live with lock := {} }


/-! ### Ill-formed commands: one for each check, each refused -/

theorem test_wf_refuses_0 : ∀ c ∈ ([
    .readAndClear 0 65536, .tripTsLoRead 0 16, .edgeLoRead 0 16, .capPosRead 0 16, .cmpValWrite 0 16 0 0, .cmpValWrite 0 0 0 16,
    .clapperStart 0 0 16, .imageLoadDone 0 [256] false, .adminPairEnable 0 0 16, .adminPairDisable 0 0 16, .sqTailDoorbell 0 32 0,
    .sqTailDoorbell 0 0 4294967296, .cqHeadDoorbell 0 32 0, .cqHeadDoorbell 0 0 4294967296, .evqHeadDoorbell 0 4294967296,
    .dlyHeadDoorbell 0 4294967296, .configLock 0 4294967296 0, .configLock 0 0 16, .clapInEdge 0 32, .legCarrierStart 0 68 {},
    .legCarrierCentre 0 68, .adcTrigger 0 68 0 0, .adcTrigger 0 0 2 0, .adcTrigger 0 0 0 32, .afeConversionDone 0 96 0,
    .afeConversionDone 0 0 8192, .afeConversionDone 0 0 (-8193), .afeScanConversion 0 24 0, .afeScanConversion 0 0 8192,
    .afeScanConversion 0 0 (-8193)] : List Instr),
    c.wf = false := by decide +kernel

theorem test_wf_refuses_1 : ∀ c ∈ ([
    .peakComparatorTrip 0 13 0, .peakComparatorTrip 0 28 0, .valveCarrierStart 0 48 {}, .tripSourceAssert 0 32 { n := 0 },
    .tripSourceAssert 0 0 { n := 312 }, .tripSourceRelease 0 { n := 312 }, .cbcWindowExpired 0 16, .recoveryDeadline 0 16,
    .gateOnCommand 0 134 none false, .gateArmed 0 134, .desatDetect 0 134, .desatRelease 0 134 0, .uvloDetect 0 134 0,
    .uvloDetect 0 0 4, .uvloRelease 0 134 0, .uvloRelease 0 0 4, .pfiInputEdge 0 32 0 false false false,
    .pfiInputEdge 0 0 16 false false false, .cmpPulseEnd 0 16, .hallInvalid 0 16, .serialFrameDone 0 16 0 0 0,
    .resolverCheck 0 4 0 0 {}, .resolverTrackUpdate 0 4 0 0, .resolverTrackUpdate 0 0 4294967296 0, .ctxRunRelease 0 192,
    .ctxRunComplete 0 192 0, .ctxOverrun 0 192, .cmuListenEnd 0 12 {}, .cmuBrakeEnd 0 12, .cmuPrechargeEnd 0 12] : List Instr),
    c.wf = false := by decide +kernel

theorem test_wf_refuses_2 : ∀ c ∈ ([
    .cmuAlignEnd 0 12, .cmuHandOver 0 12 0, .cmuNoSync 0 12, .cmuStall 0 12, .cmuRetryEnd 0 12, .cmuStoppingDone 0 12,
    .gbxDetentReached 0 4, .rnRefresh 0 16, .vlvShort 0 48, .vlvRetryEnd 0 48, .railSoftstartEnd 0 2, .railShortDetect 0 2,
    .railHiccupEnd 0 2, .railHiccupReset 0 2, .railBurstEnter 0 2, .railBurstPacketTimeout 0 2, .phaseRetired 0 2 0,
    .phaseRetired 0 0 6, .railOutOfBand 0 2, .railTransitionDone 0 2, .railTransitionTimeout 0 2, .vclCmdFrame 0 2 [] false,
    .vclCmdFrame 0 0 [256] false, .vclStatusSend 0 2, .vclLinkLost 0 2, .vclHoldExpired 0 2, .contactorCheck 0 6 false,
    .storageWake 0 (.can 4) {}, .storageWake 0 (.can 6) {}, .thmUpdate 0 98 {}] : List Instr),
    c.wf = false := by decide +kernel

theorem test_wf_refuses_3 : ∀ c ∈ ([
    .thmSensorFault 0 14, .thmSensorRecover 0 14, .safeInputLineChange 0 2 0 false false, .safeInputLineChange 0 0 16 false false,
    .safeInputDiscrepancy 0 2 0, .safeInputDiscrepancy 0 0 16, .testPulse 0 4 [] [], .stoReqChange 0 2 false, .stoReqDisc 0 2,
    .shlSupplyOpen 0 6, .supplyReadback 0 6 false, .continuityTimeout 0 2, .shlSs1Window 0 4, .ss1Deadline 0 2 0,
    .ss1Deadline 0 0 4, .bslWatchdog 0 32, .bslDataSend 0 32, .descriptorFetch 0 32 0 {} false,
    .descriptorFetch 0 0 65536 {} false, .completionWrite 0 32, .irqCoalesceTimeout 0 31, .irqCoalesceTimeout 0 66,
    .takeSuspendPoint 0 16, .takeStepDone 0 16 [] false, .takeStepDone 0 0 [256] false, .takeEnd 0 16, .takeTimeout 0 16,
    .mbxDeadline 0 64, .mbxReceiverAck 0 64, .mbxInternalPost 0 64 0 0] : List Instr),
    c.wf = false := by decide +kernel

theorem test_wf_refuses_4 : ∀ c ∈ ([
    .mbxInternalPost 0 0 18446744073709551616 0, .mbxInternalPost 0 0 0 4294967296, .canFrameReceived 0 6 {},
    .canFrameSent 0 6 0 0, .canFrameSent 0 0 128 0, .canTxFailed 0 6 0 false false, .canTxFailed 0 0 128 false false,
    .canTxEligible 0 6 0, .canTxEligible 0 0 128, .canBusOffRecovery 0 6, .canIntegrated 0 6, .canSelfCheckDone 0 6 false,
    .memScrub 0 7 0 0 0, .memRetired 0 7 0, .debugAccess 0 [256], .appWatchdog 0 4, .appWatchdogKick 0 4, .domainRunning 0 0,
    .domainRunning 0 8, .partitionStart 0 6, .shlTapEdge 0 16, .msixVectorUnmask 0 64, .canRxError 0 6 0, .vioBankHeld 0 4,
    .vioBankReleased 0 4] : List Instr),
    c.wf = false := by decide +kernel

theorem test_wf_refuses_fields : ∀ c ∈ ([
    .nop { sq := 32 }, .nop { cmdId := 4294967296 }, .nop { flags := 65536 }, .nop { target := 65536 }, .nop { count := 65536 },
    .nop { len := 4294967296 }, .nop { addr := 18446744073709551616 }, .nop { p := List.replicate 9 0 }, .nop { p := [4294967296] },
    .nop { data := [256] }, .registerWrite 0 65536 0 0, .registerWrite 0 2 0 0, .registerWrite 0 0 0 16,
    .descriptorFetch 0 0 0 { sq := 32 } false, .descriptorFetch 1 0 0 {} false, .canFrameReceived 0 0 { data := [256] }] : List Instr),
    c.wf = false := by decide +kernel

theorem test_wf_accepts : ∀ c ∈ ([.nop { sq := 31, p := List.replicate 8 4294967295, data := [255] }, .registerWrite 0 65532 0 15,
    .legCarrierStart 0 67 {}, .afeConversionDone 0 95 (-8192), .descriptorFetch 7 31 1 { t := 7 } false] : List Instr), c.wf = true := by
  decide +kernel

/-! ### Rings (chapter 19) -/

theorem witness_RingCommands_create : Accepts 0x0001 {} live
    ∧ Accepts 0x0002 { sq := 1, target := 1, count := 16, p := [0, 1] } live
    ∧ Accepts 0x0002 { target := 1, count := 16, p := [5, 1] } live ∧ (live.ring (32 + 5)).st = .absent
    ∧ Accepts 0x0002 { target := 1, count := 4096, p := [0, 1] } live ∧ (live.ring 1).st = .absent ∧ (live.ring 32).st ≠ .absent
    ∧ Accepts 0x0002 { target := 64, count := 16, p := [63, 255] } live ∧ (live.ring 64).st = .absent := by
  unfold Accepts; decide +kernel

theorem witness_RingCommands_delete : Accepts 0x0003 { target := 32 } live ∧ Accepts 0x0003 { target := 33 } live
    ∧ (live.ring 33).st = .absent ∧ Accepts 0x0003 { target := 64 } (live.setRing 64 { st := .active, lg := 4 })
    ∧ ((live.setRing 64 { st := .active, lg := 4 }).ring 64).st ≠ .absent := by
  unfold Accepts; decide +kernel

theorem witness_RingCommands_admin : live.up dHost = true ∧ live.hif.admEn = true ∧ State.reset.hif.admEn = false
    ∧ bits 0x804C0000 23 20 = 4 ∧ bits 0x804C0000 19 16 = 12 ∧ bitAt 0x804C0000 31 = true ∧ 12 < bits 0x80D40000 23 20 := by decide +kernel

theorem witness_Doorbells : (live.ring 0).st = .active ∧ 15 < (live.ring 0).size ∧ (live.ring 0).size ≤ 16
    ∧ ((live.setRing 64 { st := .active, lg := 4 }).ring evq).st = .active
    ∧ ((live.setRing 65 { st := .active, lg := 4 }).ring dly).st = .active ∧ (live.ring 31).st = .absent := by decide +kernel

theorem witness_Doorbells_fetch : ((live.setRing 0 { st := .active, lg := 4, tail := 1 }).advance 9).mayFetch 0 false = true
    ∧ ((live.setRing 0 { st := .active, lg := 4, tail := 1 }).advance 9).mayFetch 0 true = true
    ∧ (live.ring 5).bound = 0 ∧ ((live.setRing 32 { st := .active, lg := 4, tail := 15 }).ring 32).size
      ≤ ((live.setRing 32 { st := .active, lg := 4, tail := 15 }).ring 32).used + 0 + 1 := by decide +kernel

/-- A decided flight of SQ 0 that came from its ring. -/
def decided : Flight := 
  { sq := 0, cmdId := 7, op := 1, irq := false, fetch := 400, sqHead := 1, fromRing := true
    dec := some { status := .ok, result := 0, done := 400 } }

theorem witness_CompletionsAndInterrupts : ([decided].find? (fun f => f.sq == 0) = some decided ∧ decided.dec.isSome = true
      ∧ decided.fromRing = true ∧ (live.ring (32 + (live.ring 0).bound)).st = .active ∧ live.gaf.resets = [])
    ∧ (let s := live.setRing 33 { st := .active, lg := 4, unsig := 1, aggUs := 2, oldest := 100, vec := 3 }
       0 < (s.ring 33).unsig ∧ (s.ring 33).oldest + (s.ring 33).aggUs * ticksPerUs ≤ max s.now 900
       ∧ ¬ (s.ring 33).oldest + (s.ring 33).aggUs * ticksPerUs ≤ max s.now 899) := by decide +kernel

theorem witness_CompletionsAndInterrupts_dailies :
    let s := { live with hif := { live.hif with dlyOn := true, dlyNext := 41000, rings := [(65, { st := .active, lg := 4, tail := 3 })] }
                         tbu := { live.tbu with lastB := 41000 } }
    s.dlyRuns = true ∧ 0 < s.hif.dlyNext ∧ s.hif.dlyNext ≤ s.tbu.lastB ∧ (s.ring dly).full = false
    ∧ ((s.setRing 65 { st := .active, lg := 4, tail := 15 }).ring dly).full = true := by decide +kernel

theorem witness_LinkAndFunctionReset : live.up dHost = true ∧ live.hif.link = true ∧ live.lock.locked = true ∧ live.hif.takes = []
    ∧ live.gaf.resets = [] ∧ live.gaf.sendOff = none ∧ live.gaf.vioHeld.contains 0 = false ∧ State.reset.hif.link = false
    ∧ endpoint.links 4 4 = true ∧ endpoint.links 1 1 = true ∧ endpoint.links 3 4 = false ∧ endpoint.links 4 5 = false := by decide +kernel

/-! ### The trip matrix (chapter 04) -/

/-- live with a group in a state. -/
def inGrp (g : Nat) (v : Grp) : State := live.setGrp g v

theorem witness_GroupCommands_enable : Accepts 0x0100 { target := 15 } live ∧ Accepts 0x0100 { target := 0 } live
    ∧ (live.grp 0).st = .disabled ∧ (live.setReg 0x2600 0x03000000).grpOk 0 = false ∧ live.grpOk 0 = true
    ∧ ((inGrp 0 { latch := true }).grp 0).latch = true ∧ CrossFollows live ∧ live.trm.srcs = [] := by
  unfold Accepts CrossFollows; decide +kernel

theorem witness_GroupCommands_channels : ∀ c ∈ live.groupChs 0, live.chOk c = true := by decide +kernel

theorem witness_GroupCommands_clear : Accepts 0x0101 { target := 3 } live ∧ Accepts 0x0102 { target := 3 } (inGrp 3 { st := .startup })
    ∧ (inGrp 3 { st := .startup }).routedOn 3 = []
    ∧ Accepts 0x0103 { target := 3 } (inGrp 3 { st := .latched, latch := true })
    ∧ ((inGrp 3 { st := .latched }).assertSrc 36 0).routedOn 3 ≠ []
    ∧ ((inGrp 3 { st := .latched }).routedOn 3 = []
      ∧ (let r := ((inGrp 3 { st := .latched, recs := [20, 10] }).grp 3).recs
         r = [20, 10] ∧ max live.now 24000000009 < 10 + 60 * ticksPerS ∧ ¬ max live.now 24000000010 < 10 + 60 * ticksPerS)
      ∧ CrossFollows { (inGrp 3 { st := .latched }) with trm := { (inGrp 3 { st := .latched }).trm with srcs := [353] } }
      ∧ ∀ g < 16, ((inGrp 3 { st := .latched }).grp g).held = false) := by
  unfold Accepts CrossFollows; decide +kernel

theorem witness_TripEvents : (live.setCh 0 { dsat := true }).srcMay { n := 0 } = true ∧ live.srcGone { n := 0 } = true
    ∧ (live.setReg 0x28E0 0x20001FFF).srcMay { n := 304, volt := 0x2000 } = true
    ∧ (live.setReg 0x28E0 0x20001FFF).srcMay { n := 304, volt := 0x1FFF } = false
    ∧ (live.setReg 0x28E0 0x20001FFF).srcGone { n := 304, volt := 0x1FFE } = true
    ∧ (live.setReg 0x28E0 0x20001FFF).srcGone { n := 304, volt := 0x1FFF } = false ∧ live.trm.srcs = []
    ∧ live.routed 0 0 = true
    ∧ ((inGrp 15 { cbcCnt := 1, cbcDl := 900 }).grp 15).cbcCnt ≠ 0 ∧ ((inGrp 15 { cbcCnt := 1, cbcDl := 900 }).grp 15).cbcDl ≤ max live.now 900
    ∧ ((inGrp 15 { st := .recovery, recDl := 900 }).grp 15).held = false := by decide +kernel

/-! ### The modulator (chapter 03) -/

theorem witness_ErosionTable : 2 * 6400 + 3200 + max 3200 3200 ≤ 640000 ∧ 0 < 640000 ∧ 6400 + 3200 ≤ 9600 ∧ 640000 - 6400 - 3200 < 630401 := by
  decide +kernel

/-- Leg 0 with a period of 40,000 ticks. -/
def legUp : State := live.setReg 0x1004 40000

theorem witness_LegCommands : Accepts 0x0200 { target := 67 } live ∧ Accepts 0x0200 { target := 0 } legUp ∧ legUp.legOk 0 = true
    ∧ live.legOk 0 = false ∧ (live.leg 0).enabled = false ∧ legUp.legSync 0 = 15 ∧ legUp.legOwned 0 = false
    ∧ live.legOwned 67 = false ∧ (live.setReg (cmuBase 11) 0x80000000).legOwned 67 = true ∧ (live.setReg 0x4500 0x82000000).legOwned 23 = true
    ∧ Accepts 0x0201 { target := 0 } live ∧ Accepts 0x0202 { target := 13, p := [20000, 31] } live 
    ∧ live.mod.lpeBk.contains 13 = false ∧ ({ live with mod := { live.mod with lpeBk := [13] } }).mod.lpeBk.contains 13 = true := by
  unfold Accepts; decide +kernel

/-- live with a leg in a state. -/
def inLeg (n : Nat) (v : Leg) : State := live.setLeg n v

theorem witness_ValveCommands : Accepts 0x0203 { target := 47 } live ∧ live.valveOk 47 = false ∧ (live.valve 47).enabled = false
    ∧ (let s := live.setValve 47 { period := 4000000 }
       Accepts 0x0203 { target := 47 } s ∧ s.valveOk 47 = true ∧ s.tbu.running = true)
    ∧ Accepts 0x0204 { target := 0 } live ∧ Accepts 0x0205 { target := 0, p := [65536, 1, 3] } live ∧ live.dutySrc 0 = 0
    ∧ live.gateSxe 0 = false ∧ (live.setReg 0x2200 0x01000000).gateSxe 0 = true
    ∧ Accepts 0x0206 { target := 0, p := [40000000] } live ∧ live.vPeriodOk 0 40000000 = true ∧ live.vPeriodOk 0 3999999 = false := by
  unfold Accepts; decide +kernel

theorem witness_ValveCommands_gates : (let v : Valve := { enabled := true, begun := true, start := 100, next := 200, onFor := 1600 }
      v.gate = false ∧ v.extraTo = 0 ∧ 149 * 32 < v.start * 32 + v.onFor ∧ v.start * 32 + v.onFor ≤ 150 * 32)
    ∧ 1000 * 2 ≤ 100 * 32 ∧ 1000 ≤ 32768 * 100 / 65536 * 32 := by decide +kernel

theorem witness_LegCarriers : (let s := inLeg 67 { carrier := true, enabled := true, next := 9 * 32 + 31 }
      s.up dCtrl = true ∧ (s.leg 67).carrier = true ∧ (s.leg 67).enabled = true ∧ (s.leg 67).next / 32 ≤ max s.now 9)
    ∧ (let s := (inLeg 13 { carrier := true, periods := 1, next := 320, shadow := { period := 40000 } }).setReg 0x1340 0x10F00000
       (s.leg 13).carrier = true ∧ 0 < (s.leg 13).periods ∧ s.legMode 13 = 2)
    ∧ (let s := (inLeg 0 { carrier := true, periods := 1, start := 3200, len := 1280000 }).setReg 0x1000 0x0CF00000
       s.rb (legBase 0) 26 = true ∧ s.legMode 0 = 1 ∧ (s.leg 0).mid = false
       ∧ (s.leg 0).start + (s.leg 0).len / 2 < (max s.now 20100 + 1) * 32)
    ∧ (let s := (((inLeg 67 { carrier := true, enabled := true, periods := 1, next := 640000, act := { period := 20000 } }).setReg
          (legBase 67) 0x00700000).setReg 0x808 0x40004E20).setReg 0x211C 1
       let s := { s with mod := { s.mod with sgs := [(7, { started := true, nom := 640000 })] } }
       s.carrierWaits 67 = true ∧ ({ s with mod := { s.mod with sgs := [(7, { started := true, nom := 640001 })] } }).carrierWaits 67 = false) := by
  decide +kernel

theorem witness_AnalogueFrontEnd : (let s := (inLeg 14 { active := true, start := 3200, shape := { hiOn := 500, hiOff := 9000 } }).setReg (legBase 14) 0x01F00000
      s.rb (legBase 14) 24 = true ∧ (s.leg 14).active = true ∧ s.now ≤ 200 ∧ ((s.leg 14).start + 3200) / 32 = 200
      ∧ (s.leg 14).shape.hiOn < (s.leg 14).shape.hiOff ∧ (s.leg 14).shape.loOff ≤ 3200 ∧ 3200 < (s.leg 14).shape.hiOff)
    ∧ (let s := (inLeg 0 { carrier := true, periods := 1, start := 3200, len := 1280000 }).setReg 0x101C 0x01000800
       (s.leg 0).carrier = true ∧ 0 < (s.leg 0).periods ∧ s.trigSel 0 0 ≠ 0)
    ∧ (let c : Conv := { input := 95, line := 0, trig := 640, ready := 300 }
       [c].find? (fun x => x.input == 95 && x.ready ≤ max live.now 300) = some c)
    ∧ ({ live with ppm := { live.ppm with ses := { kind := 4, st := .supply } } } : State).ppm.ses.st = .supply
    ∧ live.convFree 23 = true ∧ getD live.afe.scanNext 23 0 ≤ max live.now 0 ∧ live.oclBreaks 0 8191 = false ∧ live.oclBreaks 0 (-8192) = true := by decide +kernel

theorem witness_ValveCarriers : (let s := live.setValve 47 { carrier := true, next := 900, enabled := true, gate := true, begun := true
                                                             onFor := 64 * ticksPerMs, part := 64 * ticksPerMs }
      64 * ticksPerMs ≤ ((s.valve 47).reckon ((s.valve 47).next * 32)).part ∧
      (s.valve 47).newStart = none ∧ (s.valve 47).next ≤ max s.now 900 ∧ s.vlvFollows 47 = true ∧ s.up dImpl = true
      ∧ s.vProp 47 = false ∧ (live.setReg 0x24F0 0x40000000).vProp 47 = true ∧ live.mapped 47 = false)
    ∧ (let s := live.setValve 0 { carrier := true, next := 900, newStart := some (4000000, 900) }
       (s.valve 0).newStart = some (4000000, 900) ∧ 900 ≤ (s.valve 0).next ∧ ¬ (s.valve 0).next < 900)
    ∧ ((live.setValve 0 { carrier := true, next := 899, newStart := some (4000000, 900) }).valve 0).next < 900 := by decide +kernel

theorem witness_ValveDrivers : Accepts 0x0704 { target := 47, p := [1000] } live ∧ live.vProp 47 = false ∧ live.mapped 47 = false
    ∧ (live.setReg 0x24F0 0x40000000).vProp 47 = true
    ∧ (let s := (live.setValve 47 { enabled := true, gate := true, begun := true, onFor := 3200, since := 3198 }).setVlv 47
         { shorted := true, conduct := 32 * ticksPerS - 3, retries := 15 }
       s.vlvOut 47 (max s.now 100 * 32 - 1) = true ∧ (s.vlv 47).conduct + (s.valve 47).ran + (s.valve 47).onSince 3200 < 32 * ticksPerS
       ∧ s.fld (vlvReg 47) 15 8 ≤ (s.vlv 47).retries)
    ∧ ((live.setVlv 0 { st := .short, dl := 900 }).vlv 0).dl ≤ max live.now 900 ∧ 4000 < 4001 := by
  unfold Accepts; decide +kernel

/-! ### Gate drive (chapter 05) -/

theorem witness_GateCommands : (live.ch 133).armed = false ∧ ((live.setCh 133 { armed := true }).ch 133).armed = true
    ∧ live.shlHolds 133 = false ∧ (live.ch 133).bad = false ∧ State.reset.shlHolds 0 = true := by decide +kernel

theorem witness_GateMonitors : (let s := ((live.setCh 61 { armed := true, on := true, onTick := 500 }).setLeg 31
        { enabled := true, active := true }).setGrp 8 { st := .run }
      s.rb (0x2A04 + 0x10 * 61) 31 = true ∧ (s.ch 61).on = true
      ∧ s.chOut 61 (max s.now 924 * 32 - 1) = true ∧ (s.setGrp 8 { st := .latched, forced := true }).chOut 61 29567 = false
      ∧ (s.ch 61).onTick + s.fld (0x2A04 + 0x10 * 61) 11 0 + 24 ≤ max s.now 924
      ∧ max s.now 923 < (s.ch 61).onTick + s.fld (0x2A04 + 0x10 * 61) 11 0 + 24)
    ∧ ((live.setCh 0 { dsat := true }).ch 0).dsat = true ∧ (live.ch 61).removed = false ∧ chIsHi 62 = true ∧ chIsHi 63 = false
    ∧ 3 ∈ ((live.setCh 63 { uv := [3] }).ch 63).uv
    ∧ (let s := inLeg 13 { carrier := true, next := 320 }
       s.hif.takes = [] ∧ s.carrierWaits 13 = false ∧ (s.grp 4).cbcHold = false ∧ (s.grp 4).forced = false
       ∧ s.rb (0x2A00 + 0x10 * chHi 13) 31 = true ∧ (s.leg 13).next / 32 ≤ max s.now 10) := by decide +kernel

theorem witness_OffStateDiagnosis : 85 * 200 ≤ 100 * 170 ∧ 100 * 30 ≤ 15 * 200 ∧ [0, 1].getD 0 0 ≠ 12 ∧ [27].getD 0 0 = 27
    ∧ (live.diagOutcome [0] { vb := 200, v := [170] } { vb := 200, v := [170] } 0 = 2)
    ∧ live.diagOutcome [12] { vb := 200, v := [170] } { vb := 200, v := [170] } 0 = 1
    ∧ live.diagOutcome [13] { vb := 200, v := [30] } { vb := 300, v := [45] } 0 = 3
    ∧ { live with afe := { ins := [(36, { code := 8191 })] } }.busVolt 14 = 10000 ∧ live.busVolt 14 < 200 := by decide +kernel

/-! ### Feedback (chapter 06) -/

theorem witness_FeedbackCommands : Accepts 0x0300 { target := 15 } live ∧ (live.pfi 15).en = false ∧ live.pfiOk 15 = true
    ∧ (live.setReg 0x3408 0).pfiOk 0 = false ∧ Accepts 0x0300 { target := 19 } live ∧ live.rsvOk 3 = true
    ∧ Accepts 0x0300 { target := 32 } live ∧ live.cmpOk 0 = true ∧ Accepts 0x0301 { target := 47 } live
    ∧ Accepts 0x0302 { target := 15, p := [4294967295] } live ∧ live.rb (cmpBase 15) 20 = false
    ∧ (live.setReg 0x37F8 0x10000A).rb (cmpBase 15) 20 = true := by
  unfold Accepts; decide +kernel

theorem witness_PfiCounting : ((live.setPfi 15 { running := true }).pfi 15).running = true
    ∧ (live.advance 20999).pastBound = false ∧ (live.advance 21000).pastBound = true
    ∧ (live.pfi 15).aT + live.fld (pfiBase 15) 23 16 ≤ max live.now 4
    ∧ (let s := live.setPfi 15 { running := true, aT := 10, bT := 10, zT := 10 }
       max s.now 13 < (s.pfi 15).aT + s.fld (pfiBase 15) 23 16)
    ∧ (let s := live.setPfi 0 { running := true, invSince := some 500 }
       (s.pfi 0).invSince = some 500 ∧ (s.pfi 0).hallInv = false ∧ (s.advance 4500).pastBound = false ∧ 500 + s.fld (pfiBase 0) 15 8 * ticksPerUs ≤ max s.now 4500) := by
  decide +kernel

theorem witness_SerialFramesAndWindows : (let s := (live.setPfi 0 { en := true, running := true, xfer := some 1000 }).setReg 0x3400 0x50040A00
      (s.pfi 0).xfer = some 1000 ∧ s.pfiSerial 0 = true ∧ live.pfiSerial 0 = false
      ∧ 1000 + 2 * s.fld (pfiBase 0 + 0xC) 31 21 * s.fld (pfiBase 0 + 0xC) 20 15 ≤ max s.now 11000
      ∧ max s.now 10999 < 1000 + 2 * s.fld (pfiBase 0 + 0xC) 31 21 * s.fld (pfiBase 0 + 0xC) 20 15
      ∧ 1000 + 20 * ticksPerUs ≤ max s.now 9000 ∧
      s.pfiMode 0 = 5 ∧ (crc6 6 (s.fld (pfiBase 0 + 0xC) 20 15) ^^^ 63) % 64 = crc6 6 (s.fld (pfiBase 0 + 0xC) 20 15) ^^^ 63
      ∧ bitAt 6 1 = true ∧ bitAt 5 1 = false ∧ (s.pfi 0).running = true ∧ (s.pfi 0).wB + 1 ≤ s.pfiWin 0)
    ∧ (live.setReg 0x3400 0x40040A00).pfiMode 0 = 4 := by decide +kernel

theorem witness_ResolversAndCompares : (let s := live.setRsv 3 { en := true, fault := false }
      (s.rsv 3).en = true ∧ (s.rsv 3).fault = false) ∧ ((live.setRsv 0 { fault := true }).rsv 0).fault = true
    ∧ crosses 4 5 5 true = true ∧ crosses 6 5 5 false = true ∧ crosses (2 ^ 31) (2 ^ 31 - 1) 0 false = false
    ∧ crosses (2 ^ 32 - 1) 1 0 true = true ∧ ((live.setCmp 15 { pulseEnd := some 900 }).cmp 15).pulseEnd = some 900 := by
  decide +kernel


/-! ### The loop engine (chapters 07 and 08) -/

/-- Context 191, in set 31 with the one-instruction program END, period 1. -/
def ctxUp : State :=
  let s := live.setLw (ctxKey 191) 0xFF010000
  let s := s.setLw (ctxKey 191 + 4) 0x00010000
  let s := s.setCtx 191 { alloc := true }
  { s with lpe := { s.lpe with sets := [(31, { prog := [0xC8000000], ptab := [(0, 1)] })] } }

theorem witness_LoopCommands_start : Accepts 0x0400 { target := 191 } ctxUp ∧ (ctxUp.ctx 191).st ≠ .active ∧ ctxUp.ctxFault 191 = 0
    ∧ ctxUp.admits ctxUp.selMode [191] = true ∧ live.ctxFault 0 = 4
    ∧ Accepts 0x0400 { target := 191 } (live.setCtx 191 { st := .active }) ∧ ((live.setCtx 191 { st := .active }).ctx 191).st = .active
    ∧ Accepts 0x0401 { target := 0 } live ∧ (live.ctx 0).st = .idle ∧ Accepts 0x0401 { target := 191 } (live.setCtx 191 { st := .active }) := by
  unfold Accepts; decide +kernel

theorem witness_LoopCommands_target : Accepts 0x0402 { target := 191, count := 15 } live ∧ (live.bind 191 false 15).en = false
    ∧ (let s := live.setLw (bindKey 191 false 15) 0x90000000
       Accepts 0x0402 { target := 191, count := 15 } s ∧ s.slotHost 191 15 = true)
    ∧ Accepts 0x0402 { target := 271 } live ∧ live.pgnHost 15 = true ∧ (live.setReg (pgnBase 15) 0x20000000).rb (pgnBase 15) 29 = true
    ∧ Accepts 0x0403 { target := 15, p := [1, 0, 1] } live ∧ Accepts 0x0403 { target := 15, p := [1, 1, 4294967295] } live := by
  unfold Accepts; decide +kernel

/-- ctxUp with a run. -/
def inRun (r : Run) : State := live.setCtx 191 { st := .active, alloc := true, tIn := 260, run := some r }

theorem witness_LoopRuns : (let s := inRun { k := 1, tick := 20740, due := 2 }
      (s.ctx 191).run = some { k := 1, tick := 20740, due := 2 } ∧ 20740 + (s.ctx 191).tIn ≤ max s.now 21000 ∧ s.tbu.count < 2)
    ∧ (let s := inRun { k := 1, tick := 20740, due := 0, released := true }
       (s.ctx 191).run = some { k := 1, tick := 20740, due := 0, released := true }
       ∧ (s.laneRun (s.ctxLane 191)).map (·.1) = some 191 ∧ live.laneRun 0 = none ∧ 0 ≤ s.tbu.count ∧ s.tbu.nextB ≤ max s.now 21000
       ∧ max s.now 20999 < s.tbu.nextB ∧ s.up dCtrl = true)
    ∧ (let d : RunDone := { tick := 5, outs := [(0, 7)], words := [], sat := false }
       let s := (inRun { k := 1, tick := 0, due := 0, released := true, done := some d }).setLw (bindKey 191 true 0) 0x84000000
       (0, s.bind 191 true 0) ∈ s.binds 191 true ∧ (s.bind 191 true 0).kind = 1 ∧ (s.bind 191 true 0).sub = 0) := by
  decide +kernel

/-- A run with registers set, about to execute. -/
def runWith (w : Tab Nat) : RunSt :=
  { prog := [], consts := [], ins := [], inv := 0, words := List.replicate 8 0, outs := [], first := false, blo := 0, pc := 0, w := w }

/-- ADD, SUB, MUL, ADDW, SUBW and MULW to register 15 of registers 0 and 1. -/
theorem witness_LoopArithmetic : (∀ op ∈ [0x08, 0x09, 0x0F, 0x14, 0x15, 0x16],
      let w := op * 2 ^ 26 + 15 * 2 ^ 20 + 1 * 2 ^ 8
      bits w 25 20 < 16 ∧ bits w 31 26 = op) ∧ (runWith [(0, 1), (1, 0xFFFFFFFF)]).rd 1 ≤ 2 ^ 32 ∧ 14 + 1 < 16 ∧ 13 + 2 < 16 ∧ 0 < 32768 := by
  decide +kernel

/-- R202: 0x7FFF + 1 limits and sets sat; R197: a half rounds to the even step. -/
theorem test_add_limits : (let t := (runWith [(0, 0x7FFF), (1, 1)]).instr (0x08 * 2 ^ 26 + 2 * 2 ^ 20 + 2 ^ 8)
      sx 16 (t.rd 2) = 32767 ∧ t.sat = true) ∧ roundEven 5 2 = 2 ∧ roundEven 7 2 = 4 ∧ roundEven (-5) 2 = -2 := by decide +kernel

theorem witness_BootImages : (let s := open'
      s.up dCtrl = true ∧ s.lock.locked = false ∧ s.lpe.imgBusy = false) ∧ live.lock.locked = true
    ∧ ({ open' with lpe := { open'.lpe with imgBusy := true } } : State).lpe.imgBusy = true := by decide +kernel

/-! ### Commutation, gearbox and the section engine (chapters 09 to 12) -/

/-- live with unit u in a state. -/
def inCmu (u : Nat) (v : Cmu) : State := live.setCmu u v

/-- Unit 11 SENSORLESS on bridge AX7, whose group 15 runs, with line 31 and line 30 of its own for its samples. -/
def cmuUp : State :=
  let b := cmuBase 11
  let rs : List (Nat × Nat) := [(b, 0xC0043000), (b + 4, 0x00010001), (b + 8, 1), (0x2804, 0x0000F000), (legBase 65, 0x0C000000),
    (legBase 66, 0x0C000000), (legBase 67, 0x0C000000), (legBase 65 + 0x1C, 0x003F5F80)]
  rs.foldl (fun s x => s.setReg x.1 x.2) (inGrp 15 { st := .run })

theorem witness_CommutationCommands : Accepts 0x0500 { target := 11 } cmuUp ∧ cmuUp.cmuOk 11 = true ∧ cmuUp.cmuGrpRun 11 = true
    ∧ (cmuUp.cmu 11).st = .off ∧ cmuUp.rb (cmuBase 11) 31 = true ∧ (cmuUp.cmu 11).bad = false ∧ Accepts 0x0500 { target := 0 } live ∧ live.cmuOk 0 = false
    ∧ Accepts 0x0501 { target := 11 } live ∧ (live.cmu 11).st = .off ∧ Accepts 0x0501 { target := 11 } (inCmu 11 { st := .run })
    ∧ Accepts 0x0502 { target := 11, p := [5] } live ∧ live.rb (cmuBase 11) 26 = false
    ∧ (live.setReg (cmuBase 11) 0x04000000).rb (cmuBase 11) 26 = true := by
  unfold Accepts; decide +kernel

/-- cmuUp with unit 11 in a state. -/
def inState (x : CmuSt) : State := cmuUp.setCmu 11 { st := x, since := 100 }

theorem witness_CommutationStarts :
    (let t0 := 100 + 20 * ticksPerMs
     let s := (inState .listen).setTbu { (inState .listen).tbu with nextB := t0 }
     s.up dImpl = true ∧ (s.cmu 11).st = .listen ∧ s.cmuHallFault 11 = false
     ∧ (s.cmu 11).since + s.fld (cmuBase 11 + 0x14) 31 24 * ticksPerMs ≤ (s.advance t0).boundNow
     ∧ ¬ 100 + s.fld (cmuBase 11 + 0x14) 31 24 * ticksPerMs ≤ (s.advance (t0 - 1)).boundNow
     ∧ s.tapRpm 11 { mHz := 10000, mV := 499 } = 0 ∧ s.tapRpm 11 { mHz := 10000, mV := 500 } = 2400
     ∧ ((s.setCmu 11 { loop := { low := some 100 } }).cmu 11).loop.low = some 100 ∧ 100 + 50 * ticksPerMs ≤ 8000100 + 50 * ticksPerMs)
    ∧ 100 + (inState .brake).fld (cmuBase 11 + 0x18) 15 0 * ticksPerMs ≤ 100 + 500 * ticksPerMs
    ∧ 100 + (inState .precharge).fld (cmuBase 11 + 0x14) 23 16 * 40000 ≤ 100 + 400000
    ∧ 100 + (inState .align).fld (cmuBase 11 + 0x14) 15 0 * ticksPerMs ≤ 100 + 200 * ticksPerMs
    ∧ (inState .ramp).rampReach 11 ≤ 100 + 500 * ticksPerMs
    ∧ 5 * ((1600 : Int) - (4 * (inState .ramp).handRpm 11 : Int)).natAbs ≤ 4 * (inState .ramp).handRpm 11
    ∧ (inState .run).cmuMode 11 = 2 ∧ 100 + (inState .waitRetry).fld (cmuBase 11 + 0x18) 31 16 * ticksPerMs ≤ 100 + 5000 * ticksPerMs
    ∧ ((inState .stopping).cmuRpm 11).natAbs < 4 * (inState .stopping).standRpm 11 := by decide +kernel

/-- The clauses of a unit with hall channels, and one whose channel is in fault. -/
theorem witness_CommutationStarts_hall :
    (let s := (inState .listen).setReg (cmuBase 11) 0x83C43000
     s.cmuMode 11 ≠ 2 ∧ s.cmuHallFault 11 = false ∧ (s.setPfi 15 { fault := true }).cmuHallFault 11 = true ∧ s.hallRpm 11 = 0
     ∧ (s.setPfi 15 { hallDt := 32000000, hallT := 500 * 32, hallFwd := false }).hallRpm 11 = -16000) := by decide +kernel

/-- Section 9.8's curve: 0.300 gives 2,249 rpm. -/
theorem test_curve : (let s := ((cmuUp.setReg 0x11580 0x0CCD05DC).setReg 0x11584 0x40000BB8).setReg 0x11588 0x7FFF1068
      s.curve 11 9830) = 2249 := by decide +kernel

/-- live with the gearbox sequencer running. -/
def gbxUp (x : GbxSt) : State :=
  { live with tbu := { live.tbu with lastB := 900 }
              gbx := { live.gbx with run := true, ref := true, gear := 2, park := 0, pto := 0, st := x, old := 2, tgt := 3, movers := [0, 1], dl := 900 } }

theorem witness_GearboxCommands : Accepts 0x0600 { p := [4, 1, 1] } live ∧ live.gbx.run = false ∧ Accepts 0x0601 { p := [4] } (gbxUp .idle)
    ∧ Accepts 0x0602 {} (gbxUp .sync) ∧ Accepts 0x0603 {} (gbxUp .idle) ∧ Accepts 0x0604 {} (gbxUp .idle)
    ∧ live.gbx.st = .idle ∧ live.gbx.ref = false ∧ (gbxUp .idle).gbx.ref = true ∧ (gbxUp .idle).gbx.pto ≠ 2
    ∧ (gbxUp .idle).outSpd.natAbs ≤ 4 * (gbxUp .idle).fld 0x3F48 15 0
    ∧ (let s := (((gbxUp .idle).setGrp 4 {}).setCmu 0 { st := .run }).setCmu 1 { st := .run }
       let s := (s.legGroup (cmuU 0)).toList.foldl (fun s g => s.setGrp g { st := .run }) s
       let s := (s.legGroup (cmuU 1)).toList.foldl (fun s g => s.setGrp g { st := .run }) s
       s.gbx.park = 0 ∧ s.cmuGrpRun 0 = true ∧ s.cmuGrpRun 1 = true ∧ (s.cmu 0).st = .run ∧ s.gbx.gear ≤ 4
       ∧ ¬ (0 < 3 ∧ s.fld 0x3F48 31 16 * 16384 < s.outSpd.natAbs * s.ratio 3)) := by
  unfold Accepts; decide +kernel

theorem witness_GearboxSteps : (∀ x ∈ [GbxSt.idle, .unload, .disengage, .sync, .engage, .reload, .halt],
      ((gbxUp x).advance 900).gbxUp = true ∧ ((gbxUp x).advance 900).gbxDue = true ∧ (gbxUp x).gbx.next ≤ (gbxUp x).tbu.lastB
      ∧ (gbxUp x).gbx.dl ≤ (gbxUp x).tbu.lastB)
    ∧ (let s := { gbxUp .sync with gbx := { (gbxUp .sync).gbx with movers := [], next := 901 } }
       (∀ k ∈ s.gbx.movers, s.cmuGrpRun k = true) ∧ s.tbu.lastB < s.gbx.next)
    ∧ (∃ k ∈ (gbxUp .sync).gbx.movers, (gbxUp .sync).cmuGrpRun k = false) ∧ (gbxUp .sync).gbx.toN = false ∧ 1 ≤ (gbxUp .sync).gbx.old
    ∧ (gbxUp .engage).gbx.retries < (gbxUp .engage).fld 0x3F40 11 8
    ∧ (let s := ((gbxUp .engage).setTbu { (gbxUp .engage).tbu with lastB := 20 * ticksPerMs }).setAct 0 { want := some 0, near := [(0, 0)] }
       s.actNear 0 0 = true ∧ getD (s.act 0).near 0 s.tbu.lastB + s.settleMs 0 * ticksPerMs ≤ s.tbu.lastB
       ∧ ((s.actLook 0).act 0).at' = [0] ∧ s.actNear 1 1 = true ∧ ((s.actLook 1).act 1).at' = []) := by
  decide +kernel

/-- live with the section engine running and sections 0 and 159 enabled. -/
def sxeUp : State :=
  let s := ((live.setReg (secKey 159) 0x80000000).setReg (secKey 0) 0x80000000).setReg (cumKey 159) 0x00020002
  { s with sxe := { s.sxe with running := true, updated := true } }

theorem witness_SectionCommands : Accepts 0x0700 { target := 159, count := 1, p := [65536] } sxeUp ∧ sxeUp.secRange 159 1 = true
    ∧ sxeUp.secRange 0 2 = false ∧ sxeUp.secRange 159 2 = false ∧ sxeUp.secRange 0 0 = false ∧ live.secRange 0 1 = false
    ∧ Accepts 0x0701 { target := 159, count := 1, p := [1] } sxeUp ∧ Accepts 0x0703 { target := 159, count := 1 } sxeUp
    ∧ Accepts 0x0702 { target := 159, count := 2, addr := 4096, len := 16, data := List.replicate 16 0 } sxeUp ∧ sxeUp.secLimit 159 = 2
    ∧ (let d : Desc := { target := 159, count := 2, addr := 4096, len := 16, data := List.replicate 16 0 }
       (∀ w ∈ cueWords d, cueLegal w = true) ∧ (sxeUp.sec 159).used + d.count ≤ sxeUp.secLimit 159
       ∧ (sxeUp.sec 159).used + d.count - sxeUp.secReserve 159 - ((sxeUp.sec 159).used - sxeUp.secReserve 159) ≤ sxeUp.sharedFree)
    ∧ sxeUp.secLimit 159 < (sxeUp.sec 159).used + 3 := by
  unfold Accepts; decide +kernel

theorem witness_SectionUpdate : (let s := sxeUp.setSec 159 { rev := true }
      (s.sec 159).rev = true ∧ s.revPol 159 = 0 ∧ s.rb (secKey 159) 26 = false)
    ∧ (let s := (sxeUp.setReg (secKey 159) 0x9C000000).setSec 159 { r := 0 }
       s.revPol 159 ≠ 0 ∧ s.rb (secKey 159) 26 = true ∧ (s.sec 159).r = 0) ∧ 0 ≤ sxeUp.cueMax := by decide +kernel

theorem witness_SectionEvents : sxeUp.up dImpl = true ∧ sxeUp.sxe.updated = true ∧ sxeUp.sxe.overrun = false ∧ sxeUp.tbu.lastB < max sxeUp.now 501
    ∧ (let s := (sxeUp.setReg (rnBase 15) 0xD4001000).setReg 0x4280 0x80000064
       s.rnEn 15 = true ∧ (s.rn 15).next ≤ s.tbu.lastB ∧ s.rnDepth 15 = 2 ∧ s.rb 0x4280 31 = true ∧ s.rnCans = [5]
       ∧ s.sxe.syncNext ≤ max s.tbu.lastB s.sxe.startTick) := by decide +kernel


/-! ### Rails, charger, power path and DC link (chapters 13 to 15) -/

/-- live with rail r armed in a state. -/
def inRail (r : Nat) (v : Rail) : State := live.setRail r { v with armed := true }

theorem witness_RailCommands : Accepts 0x0800 { target := 1 } live ∧ (live.rail 1).armed = false
    ∧ (let s := (inRail 0 { st := .latched }).setGrp 5 { st := .run }
       Accepts 0x0800 { target := 0 } s ∧ (s.rail 0).armed = true ∧ (s.grp (railGrp 0)).st = .run)
    ∧ Accepts 0x0801 { target := 1 } (inRail 1 { st := .run }) ∧ (live.rail 0).st = .off
    ∧ (let s := ((inRail 0 { st := .run, trans := some (9, 77) }).setReg (rgcBase 0) 0xC0000000).setReg (rgcBase 0 + 0x10) 0x01E000C8
       Accepts 0x0802 { target := 0, p := [480, 0] } s ∧ s.cmdHost 0 = true ∧ s.vMin 0 = 200 ∧ s.vMax 0 = 480 ∧ (480 : Nat) ≠ s.vLast 0)
    ∧ (let s := (inRail 0 {}).setReg (rgcBase 0) 0x88400000
       Accepts 0x0803 { target := 0, p := [5] } s ∧ 5 ∈ s.activePhases 0 ∧ (s.activePhases 0).length = 2
       ∧ ((s.setPhase 0 0 { retired := true }).activePhases 0).length = 1) := by
  unfold Accepts; decide +kernel

theorem witness_RailEvents : (let s := inRail 1 { st := .softstart, vTgt := 480, hist := [(144, 0)] }
      s.up dConv = true ∧ (s.rail 1).armed = true ∧ (s.rail 1).st = .softstart ∧ (s.rail 1).rampEnd ≤ s.tbu.lastB
      ∧ 3 * (s.rail 1).vTgt ≤ 10 * (s.rail 1).vAvg ∧ 10 * 143 < 3 * (s.rail 1).vTgt)
    ∧ (let s := inRail 0 { st := .run, limRun := 255, bRun := 4095 }
       s.fld (rgcBase 0) 13 6 ≤ (s.rail 0).limRun ∧ (s.rail 0).limAt ≤ s.tbu.lastB ∧ (s.rail 0).bAt ≤ s.tbu.lastB ∧ (s.rail 0).hicCnt + 1 ≤ s.fld (rgcBase 0) 5 2
       ∧ s.fld (rgcBase 0) 5 2 < 15 + 1 ∧ s.fld (rgcBase 0 + 0x20) 23 12 ≤ (s.rail 0).bRun ∧ (s.rail 0).calm + ticksPerS ≤ max s.now ticksPerS)
    ∧ (let s := { inRail 0 { st := .hiccup } with tbu := { live.tbu with lastB := 65535 * ticksPerMs } }
       (s.rail 0).since + s.fld (rgcBase 0 + 0xC) 15 0 * ticksPerMs ≤ s.tbu.lastB)
    ∧ (let s := { inRail 0 { st := .burst, awake := true } with tbu := { live.tbu with lastB := 65536 * ticksPerUs } }
       (s.rail 0).packet + s.fld (rgcBase 0 + 0x24) 15 0 * ticksPerUs < s.tbu.lastB)
    ∧ (let s := ((inRail 0 {}).setReg (rgcBase 0) 0x88400000).setPhase 0 5 { fltKind := 1, fltRun := 4095 }
       5 ∈ s.activePhases 0 ∧ 1 < (s.activePhases 0).length ∧ s.fld (rgcBase 0 + 0x1C) 31 20 ≤ (s.phase 0 5).fltRun)
    ∧ (let s := { inRail 0 { outSince := some 0, okSince := some 0, trans := some (3, 900) } with
                  tbu := { live.tbu with lastB := 255 * ticksPerMs } }
       (s.rail 0).oob = false ∧ 0 + s.settle10 0 ≤ s.tbu.lastB ∧ (s.rail 0).trans = some (3, 900) ∧ 900 ≤ max s.now 900) := by
  decide +kernel

/-- A frame of the voltage link with its check value. -/
def frame (l : List Nat) : List Nat := l ++ leBytes 2 (crc16 l)

theorem witness_VoltageLink : (let l := frame [0x11, 8, 1, 0, 200, 0, 0, 0, 0, 0, 0, 0, 0, 0]
      frameBadKind l false = 0 ∧ l.getD 1 0 = 8 ∧ frameBadKind l true ≠ 0 ∧ (l.take 14).length = 14 ∧ (∀ v ∈ l.take 14, v < 256))
    ∧ (let s := inRail 1 { link := .up, dl := 900, lastSeq := 7 }
       s.cmdHost 1 = false ∧ (s.rail 1).link = .up ∧ max s.now 899 < (s.rail 1).dl ∧ (s.rail 1).lastSeq ≠ 8
       ∧ (s.rail 1).dl ≤ max s.now 900 ∧ max s.now 900 < (s.rail 1).dl + s.fld (rgcBase 1 + 0x28) 15 0 * ticksPerMs
       ∧ (s.rail 1).statNext ≤ s.tbu.lastB)
    ∧ (let s := inRail 0 { link := .hold, dl := 900 }
       (s.rail 0).dl + s.fld (rgcBase 0 + 0x28) 15 0 * ticksPerMs ≤ max s.now (900 + 65535 * ticksPerMs)) := by decide +kernel

/-- live with PPM running and a session. -/
def ppmUp (p : PathSt) (x : PathStep) (v : Session) : State :=
  { live with ppm := { live.ppm with armed := true, obcArmed := true, run := true, path := p, doing := x, ses := v, dl := 900, quiet := some 0 }
              aon := { live.aon with pxAc := true } }

theorem witness_ChargerCommands : Accepts 0x0900 { p := [5, 0] } live ∧ live.ppm.run = false ∧ (ppmUp .battery .rest {}).ppm.run = true
    ∧ (let s := ((ppmUp .battery .rest {}).setGrp 7 { st := .run }).setGrp 8 { st := .run }
       Accepts 0x0901 { p := [0, 0, 100, 0] } s ∧ (s.grp 8).st = .run ∧ s.ppm.heat = false ∧ s.ppm.path = .battery
       ∧ Accepts 0x0903 { t := ticksPerS, p := [1, 60, 0] } s ∧ 0 + ticksPerS ≤ max s.now ticksPerS
       ∧ Accepts 0x0903 { p := [2, 7501, 0] } s)
    ∧ Accepts 0x0902 {} (ppmUp .battery .rest { kind := 1, st := .cc }) ∧ Accepts 0x0904 {} (ppmUp .battery .rest { kind := 4, st := .supply }) := by
  unfold Accepts; decide +kernel

/-- A state in which every interval of PPM has lasted long at the latest step. -/
def lateAt (s : State) : State :=
  { s with ppm := { s.ppm with last := 65535 * ticksPerS, srcKind := 1, srcF60 := true, srcSince := some 0, srcBad := some 0
                               lowSince := some 0, alienSince := some 0 } }

theorem witness_PathSteps : (ppmUp .opn .rest {}).ppmOn = true ∧ (ppmUp .opn .rest {}).ppm.next ≤ (ppmUp .opn .rest {}).tbu.lastB
    ∧ (ppmUp .opn .rest {}).pathOk 2 = false ∧ (ppmUp .battery .rest {}).pathOk 0 = true
    ∧ (let s := ppmUp .precharge .pcEq {}
       s.pathEqualise.driven 0 = true ∧ s.driven 0 = false) := by decide +kernel

theorem witness_PathEvents : (let s := { ppmUp .precharge .pcMn {} with ppm := { (ppmUp .precharge .pcMn {}).ppm with chks := [(1, true, 900)], last := 900 } }
      s.ppmOn = true ∧ s.up dApp = true ∧ s.ppm.chks.find? (fun c => c.1 == 1) = some (1, true, 900) ∧ 900 ≤ s.ppm.last)
    ∧ (lateAt (ppmUp .precharge .pcEq {})).ppm.dl ≤ (lateAt (ppmUp .precharge .pcEq {})).ppm.last ∧ (ppmUp .handover .hoEq {}).ppm.shed = false
    ∧ (lateAt (ppmUp .dcCharge .dcOut {})).ppm.dl ≤ (lateAt (ppmUp .dcCharge .dcOut {})).ppm.last
    ∧ (let s := lateAt (ppmUp .opn .rest {})
       s.ppm.qualified = false ∧ s.aon.pxAc = true ∧ s.ppm.srcKind = 1 ∧ s.ppm.srcF60 = true ∧ s.ppm.srcSince = some 0
       ∧ max 0 s.aon.acHere + 3 * ticksPerS ≤ s.ppm.last)
    ∧ (let s := lateAt (ppmUp .sourceFed .rest {})
       ({ s with ppm := { s.ppm with qualified := true } } : State).ppmOn = true ∧ s.ppm.srcBad = some 0
       ∧ 0 + 20 * ticksPerMs ≤ s.ppm.last) := by decide +kernel

theorem witness_SessionEvents : (∀ x ∈ [SesSt.start, .paused, .cv, .supply, .ending],
      let s := lateAt (ppmUp .battery .rest { kind := if x = .supply then 3 else 1, st := x, dwell := some 0, safeDl := 900 })
      s.ppmOn = true ∧ s.ppm.ses.st = x ∧ s.ppm.ses.since + s.fld 0x4830 15 0 * ticksPerS ≤ s.ppm.last
      ∧ 0 + s.fld 0x482C 15 0 * ticksPerS ≤ s.ppm.last ∧ s.ppm.ses.safeDl ≤ s.ppm.last
      ∧ s.ppm.lowSince = some 0 ∧ s.ppm.alienSince = some 0 ∧ 0 + s.fld 0x4834 15 0 * ticksPerMs ≤ s.ppm.last)
    ∧ (let s := { lateAt (ppmUp .battery .rest {}) with aon := live.aon }
       s.aon.pxAc = false ∧ s.aon.acGone + ticksPerS ≤ s.ppm.last) := by decide +kernel

theorem witness_DcLink : Accepts 0x0905 { p := [65535, 0] } live ∧ Accepts 0x0905 { p := [65536, 1] } live
    ∧ Accepts 0x0905 { p := [0, 65535] } (live.setReg 0x4880 0x80000000) ∧ Accepts 0x0906 {} live
    ∧ (let s := { live with dcl := { live.dcl with run := true, noCur := some 0 }, tbu := { live.tbu with lastB := 255 * ticksPerMs } }
       s.up dConv = true ∧ s.dcl.run = true ∧ s.dcl.chopFlt = false ∧ 0 + s.fld 0x4890 15 8 * ticksPerMs ≤ s.tbu.lastB)
    ∧ (live.rail 1).vCmd ≤ live.vMax 1 * 400000 ∧ (live.rail 0).st ≠ .run ∧ (live.rail 0).st ≠ .burst
    ∧ ((live.setReg 0x4880 0x40000000).setGrp 4 { st := .run }).chopAvail = true := by
  unfold Accepts; decide +kernel

/-! ### Takes and thermal estimation (chapters 19 and 16) -/

/-- live with take 15 as given. -/
def inTake (k : Take) : State := live.setTake 15 k

theorem witness_TakeCommands_start : (let d : Desc := { target := 4, p := [0, 0, 16, 0, 3, 1] }
      Accepts 0x0010 d live ∧ live.takeHandle = some 0 ∧ (∀ o ∈ live.takeHolds (takeOf d), o ∉ live.held) ∧ live.takeMay (takeOf d) = false)
    ∧ (let d : Desc := { target := 3, p := [0, 0, 16, 0, 0, 1] }
       Accepts 0x0010 d live ∧ live.takeMay (takeOf d) = true ∧ (∀ o ∈ live.takeHolds (takeOf d), o ∉ live.held)
       ∧ (∃ o ∈ (inTake (takeOf d)).takeHolds (takeOf d), o ∈ (inTake (takeOf d)).held)) := by
  unfold Accepts; decide +kernel

theorem witness_TakeCommands_run : Accepts 0x0011 { target := 15 } live ∧ (live.take 15).st ≠ .running
    ∧ Accepts 0x0011 { target := 15 } (inTake { st := .running, no := 3, todo := [1] }) ∧ Accepts 0x0012 { target := 15 } live
    ∧ (let s := inTake { st := .suspended, no := 3 }
       Accepts 0x0012 { target := 15 } s ∧ (s.take 15).st = .suspended ∧ s.takeGroups (s.take 15) = [] ∧ s.takeKeeps (s.take 15) = true)
    ∧ Accepts 0x0013 { target := 15 } live ∧ (live.take 15).st = .free
    ∧ Accepts 0x0013 { target := 15 } (inTake { st := .suspending, no := 3, todo := [1] }) := by
  unfold Accepts; decide +kernel

theorem witness_TakeEvents : ((inTake { st := .suspending, atPoint := true, waiting := some (3, 4) }).take 15).atPoint = true
    ∧ (let s := inTake { st := .running, no := 3, start := 900, deadline := 901, todo := [1, 2] }
       max s.now 900 < (s.take 15).deadline ∧ (s.take 15).st = .running ∧ (s.take 15).start ≤ max s.now 900 ∧ (s.take 15).committed = false ∧ (s.take 15).todo = 1 :: [2])
    ∧ (let s := inTake { st := .running, no := 8, todo := [97], par := [0, 0, 0, 0], deadline := 901 }
       max s.now 900 < (s.take 15).deadline ∧ (97 : Nat) < 98 ∧ (∀ g ∈ s.takeGroups (s.take 15), (s.grp g).st = .test) ∧ s.takeKeeps (s.take 15) = true)
    ∧ (let s := inTake { st := .cancelling, no := 4, endStatus := .timedOut, cause := 2, resLen := 64, deadline := 900 }
       (s.take 15).lost = false ∧ (s.take 15).no ≠ 9 ∧ (s.take 15).st = .cancelling ∧ s.trm.srcs = [] ∧ (s.take 15).deadline ≤ max s.now 900) := by
  decide +kernel

theorem witness_ThermalEstimates : live.up dCtrl = true ∧ live.snsFlt 13 = false
    ∧ (let s : State := { live with thm := { live.thm with sns := [(13, { bad := 10 })] } }
       s.snsFlt 13 = false ∧ 10 ≤ (s.snsSt 13).bad)
    ∧ (let s : State := { live with thm := { live.thm with flt := [13], sns := [(13, { okSince := some 0 })] } }
       s.snsFlt 13 = true ∧ (s.snsSt 13).okSince = some 0 ∧ 0 + 100 * ticksPerMs ≤ max s.now (100 * ticksPerMs)) ∧ (1000 : Int) < 1500
    ∧ (let s := { (live.setReg (estKey 0 + 8) 0x80000000).setLeg (estLeg 0) { enabled := true } with thm := { live.thm with run := true } }
       s.estActive 0 = true ∧ (s.advance 5000000).estDue 0 = true) := by decide +kernel


/-! ### Safety (chapters 17 and 18) -/

/-- live with a confirmed configuration whose SAFE and BSL sections are as given. -/
def safeUp (safe bsl : List Nat) : State :=
  { live with saf := { live.saf with cfg := some { safe := safe, bsl := bsl, confirmed := true } } }

/-- Bytes with values at offsets. -/
def sect (n : Nat) (l : List (Nat × Nat)) : List Nat := l.foldl (fun b x => b.set x.1 x.2) (List.replicate n 0)

theorem witness_SafetyChannels_commands : Accepts 0x0A00 {} live ∧ Accepts 0x0A01 { p := [1, 2] } live ∧ live.up dShl = true := by
  unfold Accepts; decide +kernel

theorem witness_SafetyChannels : (let s := { safeUp (sect 408 [(0, 10), (2, 2)]) [] with saf := { (safeUp (sect 408 [(0, 10), (2, 2)]) []).saf with
        sfp := { live.saf.sfp with word := some 900 }, readAt := [(5, 900)], openAt := [(0, 900)] } }
      s.chanUp 1 = true ∧ (s.safeCh 1).word = some 900 ∧ s.sfpCyc = 10 * 100 * ticksPerUs ∧ (s.safeCh 1).fault = false
      ∧ s.saf.readAt.find? (fun y => y.1 == 5) = some (5, 900) ∧ s.saf.openAt.find? (fun y => y.1 == 0) = some (0, 900) ∧ s.stoDem 1 5 = true)
    ∧ (let s := { live with saf := { live.saf with mis := [(2, 0)] } }
       2 ∈ s.wordDiff s.saf.sfp { s.saf.shl with dem := 0 } ∧ s.sf 2 1 ≤ getD s.saf.mis 2 0)
    ∧ live.wordDiff live.saf.sfp live.saf.shl = [] ∧ bitAt live.saf.sfp.own 5 = true := by decide +kernel

/-- A channel that has started and has no demand releases its groups. -/
theorem witness_SafetyChannels_release : (let s := { safeUp (sect 408 [(0, 10)]) [] with saf := { (safeUp (sect 408 [(0, 10)]) []).saf with
        match3 := 3, shl := { live.saf.shl with tested := true, tps := [0, 1, 2, 3] } } }
      bitAt (s.safeCh 0).own 0 = true ∧ bitAt ((s.chanUpdate 0).safeCh 0).own 0 = false) := by decide +kernel

theorem witness_SafeInputsAndStops : (let b := sect 408 [(0, 10), (3, 1), (8 + 16 * 15, 1), (18 + 16 * 15, 50), (tgBase 3 + 6, 100)]
      let s := { safeUp b [] with saf := { (safeUp b []).saf with
        sfp := { live.saf.sfp with ins := [(15, { dis := some 900 })], ss1 := [(3, { st := 1, start := 900 })], pin := true }, reqDis := some 900 } }
      s.chanUp 0 = true ∧ s.chanUp 1 = true ∧ s.siMode 15 ≠ 0 ∧ (s.safeIn 1 15).dis = some 900 ∧ s.siDisc 15 = 50 * ticksPerMs
      ∧ (s.safeIn 1 15).fault = 0 ∧ s.saf.cfg.isSome = true ∧ s.reqMask ≠ 0 ∧ (s.safeCh 1).pin = true ∧ s.saf.reqLatch = false
      ∧ s.tgTap 3 ≠ 255 ∧ (s.tap 3).next ≤ max s.now 0 ∧ (s.ss1 1 3).st = 1 ∧ s.tgTmax 3 = 1000 * ticksPerMs
      ∧ s.pfiMode 15 ≠ 4 ∧ s.pfiMode 15 ≠ 5 ∧ s.saf.next ≤ max s.now 0 ∧ s.srcValid (s.tgRsv 3) = false)
    ∧ (let s := safeUp (sect 408 [(tgBase 3 + 1, 3)]) []
       (s.setRsv 3 { en := true, conv := true }).srcValid (s.tgRsv 3) = true) := by decide +kernel

/-- A good DATA frame of connection 0, IN. -/
def dataFrame (s : State) : SafeFrame := { sof := 10, fin := 20, good := true, bytes := s.bslFrame 0 1 0 5 6 7 }

theorem witness_BaronoldLayer : (let s := safeUp (sect 408 [(0, 10)]) (sect 1032 [(cnBase 0, 1), (cnBase 0 + 3, 4), (cnBase 0 + 22, 10)])
      let s := s.setConn 0 { st := .opn, begun := true, last := 4, named := [(6, some 0)] }
      s.bslBad 0 (dataFrame s) = none ∧ s.cnOut 0 = false ∧ (s.conn 0).st = .opn ∧ s.cnEn 0 = true ∧ s.saf.sfp.fault = false
      ∧ s.saf.next ≤ max s.now 0 ∧ s.chanUp 1 = true ∧ s.safeLive = true
      ∧ s.bslBad 0 { dataFrame s with good := false } = some 1
      ∧ s.bslBad 0 { dataFrame s with bytes := (dataFrame s).bytes.set 8 255 } = some 2)
    ∧ (let s := safeUp (sect 408 [(0, 10)]) (sect 1032 [(cnBase 31, 3), (cnBase 31 + 20, 10)])
       let s := s.setConn 31 { st := .opening }
       s.cnEn 31 = true ∧ s.cnOut 31 = true ∧ (s.conn 31).st ≠ .closed ∧ (s.conn 31).next ≤ max s.now 0 ∧ 0 < s.cnProd 31) := by
  decide +kernel

/-- The usual check value of CRC-32C (outside the spec): "123456789" gives 0xE3069283. -/
theorem test_crc32c : crc32c [0x31, 0x32, 0x33, 0x34, 0x35, 0x36, 0x37, 0x38, 0x39] = 0xE3069283 := by decide +kernel

/-! ### Mailboxes and CAN (chapters 20 and 21) -/

theorem witness_MailboxMessages : Accepts 0x0B00 { target := 63, p := [1, 0, 3, 4] } live ∧ Accepts 0x0B01 { target := 63 } live
    ∧ (let s := live.setMbx 47 { slot := .pending, deadline := some 900 }
       (s.mbxCh 47).slot = .pending ∧ (s.mbxCh 47).deadline = some 900)
    ∧ live.mbxEn 48 = true ∧ masterDom (live.mbxRcv 48) = some dApp ∧ live.up dApp = true ∧ (live.mbxCh 48).kept = []
    ∧ masterDom (live.mbxSnd 56) = some dSfp ∧ live.mbxEn 56 = true := by
  unfold Accepts; decide +kernel

/-- live with controller k in a state and object 3 armed with a frame. -/
def canUp (k : Nat) (x : CanSt) : State :=
  live.setCan k { live.can k with st := x, objs := [(3, { st := 1, frame := { time := 100 } })] }

theorem witness_CanControllers_commands : Accepts 0x0C00 { target := 1283, addr := 4096, len := 16, data := List.replicate 16 0 } (canUp 5 .active)
    ∧ Accepts 0x0C01 { target := 1283 } (canUp 5 .active) ∧ Accepts 0x0C02 { target := 1280, count := 1 } live
    ∧ Accepts 0x0C03 { target := 5 } live := by
  unfold Accepts; decide +kernel

theorem witness_CanControllers : (let s := canUp 5 .active
      (s.can 5).onBus = true ∧ s.isobus 5 = false ∧ s.fld (canBase 5) 30 29 ≠ 1 ∧ s.objOwner 5 3 = 0 ∧ (s.canObj 5 3).st = 1
      ∧ (s.canObj 5 3).armT ≤ max s.now 100 ∧ (s.canObj 5 3).frame.time ≤ max s.now 100 ∧ s.offered 5 3 100 = true
      ∧ s.rxOk 5 {} = true ∧ s.canWired 5 = true ∧ (s.can 5).tec < 256)
    ∧ ((canUp 0 .busOff).setReg (canBase 0) 0x01000000).boffAuto 0 = true ∧ ((canUp 0 .busOff).can 0).check = false
    ∧ ((canUp 0 .integrating).can 0).st = .integrating ∧ ((live.setCan 0 { check := true }).can 0).check = true := by decide +kernel

theorem witness_CanControllers_replace : (let s := ((canUp 2 .active).setReg 0x6820 0xA0000000).setReg (canBase 2) 0x04000000
      let s := { s.setCan 2 { s.can 2 with sa := 253 } with rpl := [(1, 5)] }
      s.lock.done = true ∧ s.gaf.partUp.contains 5 = true ∧ s.rpl ≠ [] ∧ s.rb 0x6820 31 = true ∧ s.secu.rplNext ≤ max s.now 0
      ∧ s.fld 0x6820 30 28 = 2 ∧ s.isobus 2 = true ∧ (s.can 2).onBus = true ∧ (s.can 2).sa ≤ 253) := by decide +kernel

/-! ### Security, resets, supply and set-up (chapters 22 to 24, 02, 19) -/

theorem witness_MemoriesAndKeys : live.up (memRow 6).2.2 = true ∧ 0 < (memRow 6).1 * 128 ∧ Accepts 0x0D00 { p := [4] } live
    ∧ (let s := { live with mem := { live.mem with mems := put live.mem.mems 0 { copying := [3] } } }
       (s.eccMem 0).copying.contains 3 = true)
    ∧ live.secu.lcNext = none ∧ ({ live with secu := { live.secu with lcNext := some (4, 9) } } : State).secu.lcNext = some (4, 9)
    ∧ ({ live with secu := { live.secu with keyBusy := some (4, []) } } : State).secu.keyBusy = some (4, []) := by
  unfold Accepts; decide +kernel

/-- live with memory 3 in a condition. -/
def withMem (x : EccMem) : State := live.setEccMem 3 x

theorem witness_MemoriesAndKeys_scrub : (3 : Nat) < 7 ∧ live.up (memRow 3).2.2 = true ∧ 8191 < (memRow 3).1 * 128
    ∧ ((withMem { poison := [8191] }).eccMem 3).poison.contains 8191 = true
    ∧ ((withMem {}).eccMem 3).poison.contains 8191 = false ∧ 0 < (withMem {}).sparesLeft 3
    ∧ (let s := withMem { retired := [0, 1], corrs := List.replicate 7 (63, 0), uncs := [(63, 0)], ev239 := 5 }
       s.sparesLeft 3 = 0 ∧ (s.eccMem 3).retired.contains 63 = false ∧ (s.eccMem 3).copying.contains 63 = false
       ∧ 8 ≤ 1 + ((s.eccMem 3).corrs.filter (fun e => e.1 == 63 && max s.now 1 < e.2 + ticksPerDay)).length
       ∧ ((s.eccMem 3).corrs.filter (fun e => e.1 == 63 && max s.now 1 < e.2 + ticksPerDay)).length < 8
       ∧ 2 ≤ 1 + ((s.eccMem 3).uncs.filter (fun e => e.1 == 63 && max s.now 1 < e.2 + ticksPerDay)).length
       ∧ ((s.eccMem 3).uncs.filter (fun e => e.1 == 63 && max s.now 1 < e.2 + ticksPerDay)).length < 2
       ∧ (s.eccMem 3).ev239 ≠ 0 ∧ max s.now 1 < (s.eccMem 3).ev239 - 1 + ticksPerS) := by
  decide +kernel

theorem witness_MemoriesAndKeys_keys : open'.up dCtrl = true ∧ open'.lock.locked = false ∧ open'.secu.keyBusy = none
    ∧ open'.fld 0x6830 2 0 = 4 ∧ (open'.setReg 0x6830 3).fld 0x6830 2 0 < 4 ∧ live.lock.locked = true
    ∧ (let s := { open' with secu := { open'.secu with lc := 2, keyBusy := some (7, []) } }
       s.secu.lc = 2 ∧ (¬ ∃ e ∈ s.secu.keys, e.1 = 7) ∧ ∃ e ∈ s.secu.keys, e.1 = 4) := by
  decide +kernel

/-- A lifecycle authorisation from FIELD to RETURNED for the part at reset, signed by key slot 0 (R546). -/
def authBody : List Nat :=
  leBytes 4 0x434C5A41 ++ leBytes 2 1 ++ leBytes 2 0 ++ leBytes 4 glbPart ++ leBytes 16 0 ++ [3, 4, 0, 0] ++ List.replicate 32 0

theorem witness_MemoriesAndKeys_lifecycle (pk sig : List Nat) (hp : pk.length = 1793) (hs : sig.length = 1280)
    (h : Config.falconVerify pk (Config.shake256 64 authBody) sig = true) :
    let s := { live with secu := { live.secu with keys := [(0, Config.shake256 64 pk), (4, [])] } }
    s.authState (authBody ++ (pk ++ ([0, 0, 0] ++ sig))) = some 4 ∧ s.lcStep 4 = true := by
  have hb : authBody.length = 64 := by decide +kernel
  have e1 : ((authBody ++ (pk ++ ([0, 0, 0] ++ sig))).drop 64).take 1793 = pk := by simp [hb, hp]
  have e2 : (authBody ++ (pk ++ ([0, 0, 0] ++ sig))).take 64 = authBody := by simp [hb]
  have e3 : ((authBody ++ (pk ++ ([0, 0, 0] ++ sig))).drop 1857).take 3 = [0, 0, 0] := by
    rw [List.drop_append, List.drop_eq_nil_of_le (by omega), hb, List.nil_append, List.drop_append, List.drop_eq_nil_of_le (by omega), hp]; rfl
  have e4 : ((authBody ++ (pk ++ ([0, 0, 0] ++ sig))).drop 1860).take 1280 = sig := by
    rw [List.drop_append, List.drop_eq_nil_of_le (by omega), hb, List.nil_append, List.drop_append, List.drop_eq_nil_of_le (by omega), hp, List.nil_append]
    exact List.take_of_length_le (by simp; omega)
  have e5 : ((authBody ++ (pk ++ ([0, 0, 0] ++ sig))).drop 32).take 32 = List.replicate 32 0 := by
    rw [List.drop_append_of_le_length (by omega), List.take_append_of_le_length (by simp; omega)]; decide +kernel
  have e6 : (authBody ++ (pk ++ ([0, 0, 0] ++ sig))).length = 3140 := by simp [hb, hp, hs]
  refine ⟨?_, rfl⟩
  unfold State.authState
  simp only [e1, e2, e3, e4, e5, e6, h]
  rw [field_append_left _ _ 0 4 (by omega), field_append_left _ _ 4 2 (by omega), field_append_left _ _ 6 2 (by omega),
    field_append_left _ _ 8 4 (by omega), field_append_left _ _ 12 16 (by omega), field_append_left _ _ 28 1 (by omega),
    field_append_left _ _ 31 1 (by omega), field_append_left _ _ 29 1 (by omega), field_append_left _ _ 30 1 (by omega)]
  have f : field authBody 0 4 = 0x434C5A41 ∧ field authBody 4 2 = 1 ∧ field authBody 6 2 = 0 ∧ field authBody 8 4 = glbPart
    ∧ field authBody 12 16 = 0 ∧ field authBody 28 1 = 3 ∧ field authBody 31 1 = 0 ∧ field authBody 29 1 = 4
    ∧ field authBody 30 1 = 0 := by decide +kernel
  obtain ⟨f1, f2, f3, f4, f5, f6, f7, f8, f9⟩ := f
  simp only [f1, f2, f3, f4, f5, f6, f7, f8, f9]
  have g : live.secu.serial = 0 ∧ live.secu.lc = 3 ∧ live.secu.refurb = 0 ∧ live.secu.revoked = [] := by decide +kernel
  simp [State.keyOk, State.keyFor, State.keyValid, keyRow, g, getD]

theorem witness_DomainsAndResets : (State.reset.domSt 1 = .inReset ∧ ∀ e < 1, State.reset.domSt e ≠ .inReset)
    ∧ (let s := { live with gaf := { live.gaf with bootDone := false, kick := [(3, 900)], partUp := [] } }
       s.gaf.bootDone = false ∧ s.secu.dead.contains 0 = false ∧ (∀ d < 8, s.domSt d = .running ∨ (d = dApp ∧ s.domSt d = .off))
       ∧ (3, 900) ∈ s.gaf.kick ∧ s.gaf.partUp.contains 5 = false ∧ s.secu.dead.contains 6 = false)
    ∧ Accepts 0x0E00 { target := 7 } live ∧ Accepts 0x0E01 { p := [2] } live
    ∧ ({ live with gaf := { live.gaf with changing := some (.eco, 3, 4) } } : State).gaf.changing = some (.eco, 3, 4) := by
  unfold Accepts; decide +kernel

theorem witness_SupplyButtonAndStorage : live.supply.ok = true ∧ live.aon.press = none ∧ 0 + 20 * ticksPerMs ≤ max live.now (20 * ticksPerMs)
    ∧ (let s := { live with aon := { live.aon with press := some 900, resetAt := some 900, storeAt := some 900 }, gaf := { live.gaf with storage := true } }
       s.aon.press = some 900 ∧ s.aon.long = false ∧ 900 + 8 * ticksPerS ≤ max s.now (900 + 8 * ticksPerS) ∧ s.gaf.storage = true
       ∧ s.aon.resetAt = some 900 ∧ s.aon.storeAt = some 900 ∧ s.wakes .button = true) ∧ live.gaf.storage = false
    ∧ ({ live with aon := { live.aon with wakeCans := [3] } } : State).wakes (.can 3) = true
    ∧ (let s := { (live.domPut dHost .inReset) with aon := { live.aon with woken := some (.can 3) } }
       s.domSt dHost = .inReset ∧ (List.range dHost).all (fun e => s.domSt e != .inReset) = true ∧ s.supply.ok = true
       ∧ ((execDomainRunning 5 dHost s) |> (fun o => match o with
            | .next t => t.evr.log.contains (186, t.now, [WakeCause.code (.can 3)]) && t.evr.log.contains (197, t.now, [3])
            | _ => false)) = true) := by decide +kernel

theorem witness_SetupRegisters : live.supply.ok = true ∧ (7 % 4 ≠ 0) ∧ live.shows 0x1004 = true ∧ live.shows 0x808 = true ∧ 0 % 16 = 0
    ∧ (let r := (regRow? 0x1004).getD { base := 0, stride := 0, count := 0 }
       regRow? (live.key 0x1004) = some r ∧ beMask 15 &&& r.rw = 0 ∧ beMask 15 &&& r.w1c = 0 ∧ beMask 15 &&& (r.rwl ||| r.wo) ≠ 0)
    ∧ open'.lock.locked = false ∧ (∀ off ∈ [0x3820, 0x3840, 0x3F00, 0x4090, 0x42A0, 0x4C04, 0x4C40, 0x5A00, 0x6400],
        live.shows off = true ∧ (regRow? off).isSome = true ∧ off % 4 = 0)
    ∧ beMask 8 &&& 0x30000000 ≠ 0 ∧ live.secu.dead.contains 0 = false
    ∧ ({ live with lock := { locked := true } } : State).lock.done = false := by decide +kernel

theorem witness_Clapper : live.tbu.running = true ∧ live.tbu.nextB ≤ max live.now 21000 ∧ max live.now 20999 < live.tbu.nextB
    ∧ State.reset.tbu.running = false
    ∧ (let s := live.setReg 0x808 0x40004E20
       let s := { s with tbu := { s.tbu with state := .holdover, expect := 600, holdDl := 900000 } }
       s.slaved = true ∧ s.tbu.state ≠ .free ∧ max s.now 20000 < s.tbu.holdDl ∧ s.tbu.holdDl ≤ max s.now 900000
       ∧ s.tbu.expect + s.fld 0x810 15 0 * 32 < (max s.now 20000 + 1) * 32) := by decide +kernel

/-! ### The machine -/

theorem witness_StepRunsFrontCommand : ({ live with pending := [.nop {}] } : State).pending = [.nop {}] ∧ State.reset.pending = [] := by
  decide +kernel

theorem witness_EveryCommandIsCarriedOut : isPowerOn (.powerOn 0 []) = true ∧ live.supply.ok = true ∧ isPowerOn (.nop {}) = false
    ∧ ({ live with supply := { live.supply with ok := false } } : State).supply.ok = false := by decide +kernel

theorem witness_HostJudgement : (Instr.grpEnable {}).host? = some (0x0100, {})
    ∧ judge 0x0100 { target := 16 } (live.received 0x0100 { target := 16 }) = some .badDesc
    ∧ judge 0x0A00 { dataErr := true } (live.received 0x0A00 { dataErr := true }) = none
    ∧ (∃ r, opRow? 0x0100 = some r ∧ descOk r {} = true ∧ descExtra 0x0100 {} = true) ∧ State.reset.lock.done = false
    ∧ live.lock.done = true := by
  refine ⟨by decide +kernel, by decide +kernel, by decide +kernel, ⟨_, rfl, by decide +kernel, by decide +kernel⟩, by decide +kernel, by decide +kernel⟩

theorem reset_inv : State.reset.Inv :=
  ⟨.nil, (fun _ h => nomatch h), (fun h => nomatch h), by decide, fun _ => rfl, fun _ h => nomatch h⟩

theorem live_inv : live.Inv := ⟨.nil, (fun _ h => nomatch h), fun _ => rfl, by decide, (fun h => nomatch h), fun _ h => nomatch h⟩

theorem witness_EveryStepKeepsTheInvariant : ∃ t, step { live with pending := [.nop {}] } = .next t := ⟨_, rfl⟩

theorem witness_LockFreezesTheConfiguration : ∃ t, exec (.nop {}) live = .next t ∧ live.Inv := ⟨_, rfl, live_inv⟩

/-- No row of the table gives bits. -/
theorem test_no_words : decodeTableWord 8 0 = none ∧ State.reset.withFetchWord 32 7 = State.reset := ⟨rfl, rfl⟩

/-! ### Worked examples of the spec -/

/-- Chapter 03, "a T6 vacuum fan leg": on-times of the high and of the low side, in fine steps. -/
theorem test_vacuum_fan_leg :
    ([256000, 7680, 3840, 634880, 640000].map (fun tc =>
      let sh := erode false true (onAt false 640000) 640000 tc 6400 3200 6400
      (sh.hiOff - sh.hiOn, 640000 - (sh.loOn - sh.loOff))))
      = [(249600, 377600), (3200, 624000), (0, 640000), (620800, 6400), (620800, 6400)] := by decide +kernel

/-- Chapter 11, "S42 in a 60 m turn": o_s of S0 and of S83. -/
theorem test_turn_outputs : (let s := sxeUp.setReg (secKey 0) 0x84000000
      ((s.setSec 0 { base := some 39322, r := 2679, gate := true }).secOut 0, (s.setSec 0 { base := some 39322, r := 5512, gate := true }).secOut 0))
      = ((true, 25718), (true, 52915)) := by decide +kernel

/-- Chapter 12, "a late append across the counter wrap": C is behind at boundary 900 and B is not. -/
theorem test_append_behind : cueBehind (0xFFFFFE00 * 256) (0xFFFFFEA8 * 256) false = true
    ∧ cueBehind (0x1200 * 256) (0xFFFFFEA8 * 256) false = false := by decide +kernel

/-- Chapter 16, "high switch of TA.U holding on a slope": the factor at 153.703125 °C. -/
theorem test_slope_factor : estFactor 157392 1500 1750 = 27913 := by decide +kernel

/-- Chapter 26, "the S42 coolant sensor": code 2,048 reads 52.0 °C. -/
theorem test_coolant_sensor : (let s := live.setReg (0x4C80 + 4 * 9) 0x03E80F6E
      ({ s with afe := { s.afe with ins := [(69, { code := 2048 })] } } : State).ntc 9) = 520 := by decide +kernel

/-- Chapter 21, "S42 boom nodes unpowered": the sync frame and three nodes of depth 2 take seven objects, so rsv_lo is 121. -/
theorem test_boom_objects : (let s := [0, 1, 2].foldl (fun s j => s.setReg (rnBase j) 0xA0001000) (sxeUp.setReg 0x4280 0x80000064)
      128 - (s.canUsers 2).length) = 121 := by decide +kernel

end Sys2Proof.Tests
end

section
/-! SUPPORT. Carrying out a command: every command but POWER_ON answers a next state while the supply is good and the fault
below 9.0 V, and touches neither the queue nor the past (R14, R24, R560). -/

namespace Sys2Proof.Machine

/-- o is what a command carried out at s answers: with the supply good a state with the same queue and no earlier device
time, below 9.0 V the fault. -/
def CarriedOut (s : State) (o : Out) : Prop :=
  ∃ t : State, (o = if s.supply.ok then .next t else .fault .outsideLimits) ∧ t.pending = s.pending ∧ s.now ≤ t.now

/-- The arm of every command but POWER_ON comes down to run or to runCfg, and the state that either answers with has the time
and the queue of the advanced one. -/
theorem exec_carriedOut (c : Instr) (hc : isPowerOn c = false) (s : State) : CarriedOut s (exec c s) := by
  cases c with
  | powerOn t bad => exact absurd hc Bool.noConfusion
  | _ => exact ⟨_, rfl, rfl, Nat.le_max_left _ _⟩

theorem CarriedOut.next {s : State} {o : Out} (h : CarriedOut s o) (hs : s.supply.ok = true) :
    ∃ t, o = .next t ∧ t.pending = s.pending ∧ s.now ≤ t.now := by
  obtain ⟨t, ho, hpend, hnow⟩ := h
  exact ⟨t, ho.trans (if_pos hs), hpend, hnow⟩

theorem CarriedOut.fault {s : State} {o : Out} (h : CarriedOut s o) (hs : s.supply.ok = false) :
    o = .fault .outsideLimits := by
  obtain ⟨t, ho, -⟩ := h
  exact ho.trans (if_neg (by simp [hs]))

theorem exec_powerOn (t : Nat) (bad : List (Nat × Nat)) (s : State) :
    exec (.powerOn t bad) s = .next (s.powerOn bad) := rfl

theorem State.powerOn_now (s : State) (bad : List (Nat × Nat)) : (s.powerOn bad).now = 0 := rfl

theorem State.powerOn_pending (s : State) (bad : List (Nat × Nat)) : (s.powerOn bad).pending = s.pending := rfl

/-- The one command of which isPowerOn speaks. -/
theorem isPowerOn_iff (c : Instr) : isPowerOn c = true ↔ ∃ t bad, c = .powerOn t bad := by
  constructor
  · intro h
    unfold isPowerOn at h
    split at h
    · exact ⟨_, _, rfl⟩
    · cases h
  · rintro ⟨t, bad, rfl⟩
    rfl

/-- Settles O57: POWER_ON answers with device time 0, every other command is carried out by run or runCfg. -/
theorem everyCommandIsCarriedOut : Obligations.EveryCommandIsCarriedOut := by
  unfold Obligations.EveryCommandIsCarriedOut
  refine ⟨fun c s hs => ?_, fun c s hs hc => (exec_carriedOut c hc s).fault hs⟩
  by_cases hc : isPowerOn c = true
  · obtain ⟨t, bad, rfl⟩ := (isPowerOn_iff c).mp hc
    exact ⟨_, exec_powerOn t bad s, s.powerOn_pending bad, fun _ => s.powerOn_now bad, fun h => absurd hc (by simp [h])⟩
  · have hok := hs.resolve_right hc
    obtain ⟨t, hx, hpend, hnow⟩ := (exec_carriedOut c (by simpa using hc) s).next hok
    exact ⟨t, hx, hpend, fun h => absurd h hc, fun _ => hnow⟩

end Sys2Proof.Machine
end

section
/-! SUPPORT. A BAR0 write to the binding window: bits 31:16 of an output's LPE_BIND_VAL are reserved (Table 7.4), so that no
write changes them. -/

namespace Sys2Proof.Machine

/-- With the supply good, a BAR0 write completes with what regWrite does at its tick. -/
theorem completes_registerWrite {s : State} (h : s.supply.ok = true) (t off val be : Nat) (P : State → Prop) :
    Completes (.registerWrite t off val be) s P
      ↔ P (((s.advance t).regWrite off val be).queueing (s.advance t)) := by
  have hx : exec (.registerWrite t off val be) s
      = .next (((s.advance t).regWrite off val be).queueing (s.advance t)) :=
    runCfg_ok h (fun s => s.regWrite off val be)
  unfold Completes
  simp [hx]

/-- PD_CTRL runs, nothing is locked, and LPE_BIND_SEL selects output 0 of context 0 (dir, bit 7, is 1). -/
def outputSelected : State :=
  { State.reset with gaf := { State.reset.gaf with dom := [(dCtrl, .running)] }, regs := [(0x3840, 0x80)] }

/-- The row of every LPE_BIND_VAL: its mask is that of an input's, with all 32 bits RWL. -/
def bindValRow : RegRow := { base := 0x20008, stride := 0x10, count := 6144, rwl := 0xFFFFFFFF }

/-- LPE_BIND_VAL is there to be written, as the register of the selected output. -/
theorem outputSelected_bindVal : outputSelected.shows 0x384C = true ∧ outputSelected.key 0x384C = 0x20108
    ∧ regRow? 0x20108 = some bindValRow := by decide +kernel

/-- A write of 1 to the reserved bit 16 of that register stores 0. -/
theorem outputSelected_write_reserved (s : State) :
    (((outputSelected.advance 0).regWrite 0x384C 0x10000 15).queueing s).lw 0x20108 = 0 := by
  have h : ((outputSelected.advance 0).regWrite 0x384C 0x10000 15).lw 0x20108 = 0 := by decide +kernel
  exact h

/-- What a merge under the row's mask would have stored there. -/
theorem outputSelected_merge_reserved :
    mergeBits (beMask 15 &&& bindValRow.rwl) (outputSelected.lw 0x20108) 0x10000 = 0x10000 := by decide +kernel

/-- Refutes O53: its third clause says of an accepted write before lock that every enabled bit of the row's RWL mask is
stored, but where LPE_BIND_SEL selects an output the reserved bits 31:16 of LPE_BIND_VAL are not (Table 7.4). -/
theorem not_setupRegisters : ¬ Obligations.SetupRegisters := by
  unfold Obligations.SetupRegisters
  rintro ⟨-, -, hwrite, -⟩
  obtain ⟨hshows, hkey, hrow⟩ := outputSelected_bindVal
  have hdone := hwrite outputSelected 0 0x384C 0x10000 15 bindValRow rfl rfl hshows (hkey ▸ hrow)
    (by decide) (by decide) (by decide) (by decide) (by decide) (by decide) (by decide)
    (by decide) (by decide) (by decide) rfl
  rw [completes_registerWrite rfl, hkey] at hdone
  obtain ⟨hwin, -⟩ := hdone
  obtain ⟨hstored, -⟩ := hwin (Or.inr (by decide))
  rw [outputSelected_write_reserved, outputSelected_merge_reserved] at hstored
  exact absurd hstored (by decide)

end Sys2Proof.Machine
end
